-- ==== Sys2Proof/Word.lean ====
section
/-! DEFINITION. The words of the ZS-48 that are bits: bytes of a frame or of the image, and sets of zones (R163).
Everything else the station counts or names is a Nat, a Fin or an inductive type. -/

namespace Sys2Proof

/-- One byte of a frame or of the configuration image. -/
abbrev Byte := BitVec 8

/-- A set of zones: bit z is set when zone Zz is a member (R163). -/
abbrev ZoneSet := BitVec 16

/-- The empty set of zones. -/
abbrev ZoneSet.empty : ZoneSet := 0#16

end Sys2Proof
end

