-- ==== Sys2Proof/Syntax.lean ====
section
/-! DEFINITION. The commands of the ZS-48: one constructor of Instr for every row of spec/opcode_table.json, with
the row's operands. The table gives the rows no operand fields; the operands are those the row's rule needs
(which port, which channel, which bytes), and notes/assumptions/2.md says how each was chosen. -/

namespace Sys2Proof

/-- A Deck Line port: 0 is port A, 1 is port B. -/
abbrev PortId := Fin 2

/-- A mover slot, MV0 or MV1. -/
abbrev MoverId := Fin 2

/-- A load channel, CH0 to CH11. -/
abbrev ChannelId := Fin 12

/-- A key entry, 0 to 15. -/
abbrev KeyId := Fin 16

/-- A field pin, FP0 to FP31. -/
abbrev PinId := Fin 32

/-- A sense input, CS0 to CS13. -/
abbrev SenseId := Fin 14

/-- A slot of the peer table: slot i serves station number i + 1. -/
abbrev SlotId := Fin 48

/-- The output a demand entry serves (Table 2-2). -/
inductive Source where
  | chan (c : ChannelId)
  | mover (m : MoverId)
  deriving DecidableEq, Repr

/-- The fault kinds of Table 9-1, in the order of their codes (Table 8-8). -/
inductive FaultKind where
  | crcError | malformed | txqFull | driveStale | driveRefused
  | portDarkA | portDarkB | portUnfitA | portUnfitB | lineUnfit
  | island | supplyShort | peerOrphaned | senseFault | channelTrip
  | channelLockout | lockJam | travelTimeout | overload | stall
  | clash | countUnknown | pumpFault | twin | configInvalid | badNumber
  deriving DecidableEq, Repr

/-- The commands: the operations and events of spec/opcode_table.json, row by row in the table's order. A
`frame` operand is the whole frame as it lies on the pair, from the kind byte to the second CRC byte (R163). -/
inductive Instr where
  | powerOn
  | pinReset
  | strapSample (straps : BitVec 6)
  | loadEnd (image : List Byte) (levels : BitVec 32)
  | calibrateEnd
  | quietEnd
  | ownPeriodTick (supply : Bool)
  | carrierLoss (p : PortId)
  | darkPortTransition (p : PortId)
  | linkPulse (p : PortId)
  | dwellEnd (p : PortId)
  | lossOfLock (p : PortId)
  | errorWindowEnd (p : PortId)
  | crcError (p : PortId)
  | frameAborted (p : PortId)
  | announceReceived (p : PortId) (frame : List Byte)
  | set (p : PortId) (frame : List Byte)
  | scene (p : PortId) (frame : List Byte)
  | forget (p : PortId) (frame : List Byte)
  | driveDirA (p : PortId) (frame : List Byte)
  | driveDirB (p : PortId) (frame : List Byte)
  | driveStop (p : PortId) (frame : List Byte)
  | driveClear (p : PortId) (frame : List Byte)
  | transmitStart (p : PortId)
  | arbitrationLoss (p : PortId)
  | echoMismatch (p : PortId)
  | frameCompletion (p : PortId)
  | driveStale
  | settle (src : Source)
  | islandDelayExpiry
  | peerStale (n : SlotId)
  | peerOrphan (n : SlotId)
  | fadeBeat
  | inrushWindowExpiry (c : ChannelId)
  | senseReading (cs : SenseId) (raw : Int)
  | channelTrip (c : ChannelId)
  | tripMemoryExpiry (c : ChannelId)
  | occupancyChange (pin : PinId) (active : Bool)
  | listenWindowExpiry (m : MoverId)
  | holdToRunTimeout (m : MoverId)
  | requestTimeLimit (m : MoverId)
  | releaseGuardExpiry (m : MoverId)
  | lockOpenChange (pin : PinId) (active : Bool)
  | lockClosedChange (pin : PinId) (active : Bool)
  | lockTimerExpiry (m : MoverId)
  | endSwitchChange (pin : PinId) (active : Bool)
  | travelTimeout (m : MoverId)
  | overload (m : MoverId)
  | stopDwellEnd (m : MoverId)
  | powerFaultChange (pin : PinId) (active : Bool)
  | beaconBlink
  | gypsyPulse (pin : PinId) (active : Bool)
  | homeChange (pin : PinId) (active : Bool)
  | stall (m : MoverId)
  | keySetLevel (k : KeyId)
  | keyToggle (k : KeyId)
  | keyScene (k : KeyId)
  | keyHoldDrive (k : KeyId)
  | keyClear (k : KeyId)
  | keyForget (k : KeyId)
  | keyRelease (k : KeyId)
  | keyRepeat (k : KeyId)
  | acknowledgeExpiry (k : KeyId)
  | holdTimerExpiry (kind : FaultKind)
  | standbyAssert
  | standbyDeassert
  | transitionFromAnotherStation (p : PortId) (startSymbol : Bool)
  deriving DecidableEq, Repr

end Sys2Proof
end

