-- ==== Sys2Proof/WellFormed.lean ====
section
/-! DEFINITION. Which commands can occur at all: the checks on the operands whose type is wider than what the
outside can send. Every other operand is well formed by its type. -/

namespace Sys2Proof

/-- A frame on the pair has a header of three bytes, a body of as many bytes as its length byte says, and two CRC
bytes (R160, Section 8.4): it ends five bytes past the header's start plus the body length. -/
def frameWhole (frame : List Byte) : Bool :=
  decide (frame.length = 5 + (frame.getD 2 0#8).toNat)

/-- A raw conversion of a sense input lies in -128 to 2175 (R146). -/
def rawInRange (raw : Int) : Bool :=
  decide (-128 ≤ raw) && decide (raw ≤ 2175)

/-- The serial memory is read for at most 2048 bytes (R172). -/
def imageReadable (image : List Byte) : Bool :=
  decide (image.length ≤ 2048)

/-- A command whose operands the outside can send. -/
def Instr.wf : Instr → Bool
  | .loadEnd image _ => imageReadable image
  | .announceReceived _ f | .set _ f | .scene _ f | .forget _ f => frameWhole f
  | .driveDirA _ f | .driveDirB _ f | .driveStop _ f | .driveClear _ f => frameWhole f
  | .senseReading _ raw => rawInRange raw
  | .powerOn | .pinReset | .strapSample _ | .calibrateEnd | .quietEnd | .ownPeriodTick _ => true
  | .carrierLoss _ | .darkPortTransition _ | .linkPulse _ | .dwellEnd _ | .lossOfLock _ => true
  | .errorWindowEnd _ | .crcError _ | .frameAborted _ | .transmitStart _ | .arbitrationLoss _ => true
  | .echoMismatch _ | .frameCompletion _ | .driveStale | .settle _ | .islandDelayExpiry => true
  | .peerStale _ | .peerOrphan _ | .fadeBeat | .inrushWindowExpiry _ | .channelTrip _ => true
  | .tripMemoryExpiry _ | .occupancyChange _ _ | .listenWindowExpiry _ | .holdToRunTimeout _ => true
  | .requestTimeLimit _ | .releaseGuardExpiry _ | .lockOpenChange _ _ | .lockClosedChange _ _ => true
  | .lockTimerExpiry _ | .endSwitchChange _ _ | .travelTimeout _ | .overload _ | .stopDwellEnd _ => true
  | .powerFaultChange _ _ | .beaconBlink | .gypsyPulse _ _ | .homeChange _ _ | .stall _ => true
  | .keySetLevel _ | .keyToggle _ | .keyScene _ | .keyHoldDrive _ | .keyClear _ | .keyForget _ => true
  | .keyRelease _ | .keyRepeat _ | .acknowledgeExpiry _ | .holdTimerExpiry _ => true
  | .standbyAssert | .standbyDeassert | .transitionFromAnotherStation _ _ => true

end Sys2Proof
end

