-- ==== Sys2Proof/Decode.lean ====
section
/-! DEFINITION. The command a table word spells. spec/opcode_table.json gives none of its 67 rows any bits (the
part is a block: its rows are events and operations, not encodings), so no word spells a command. The bytes of
frames and of the configuration image are read in Machine/Formats.lean and Machine/Image.lean. -/

namespace Sys2Proof

/-- The command the table's bits spell: none, since no row of the table has bits. -/
def decodeTableWord (_nbits _w : Nat) : Option Instr := none

end Sys2Proof
end

