-- ==== Sys2Proof/Config.lean ====
section
/-! DEFINITION. The fixed spans and bounds the spec states, and the configuration the image gives a station (Tables
2-1, 3-1, 5-1, 6-1, 7-1, 7-4, 8-2). The spec leaves no result of any step to the implementation, so there is no
free value here; orders that the spec leaves open are the order of the queue (notes/assumptions/4.md). -/

namespace Sys2Proof.Config

/-- The strap sample falls 2 ms after reset release (R171). -/
def strapDelay : Nat := 2
/-- CALIBRATE lasts 64 ms (R173). -/
def calibrateSpan : Nat := 64
/-- A port that has seen no transition from another station for 20 ms has lost its carrier (R150). -/
def carrierSpan : Nat := 20
/-- A link pulse follows 1 ms after the last transition on the pair (R150). -/
def pulseInterval : Nat := 1
/-- An error window lasts 1 s (R153). -/
def errorWindow : Nat := 1000
/-- The idle gap before a frame, in bit times (R149). -/
def idleGap : Nat := 11
/-- Consecutive good frames that take a LOCKED port to FIT (R153). -/
def goodFramesForFit : Nat := 8
/-- The FIFO holds four command frames (R157). -/
def fifoDepth : Nat := 4
/-- A queued DRIVE leaves the queue at 200 ms (R159). -/
def driveAge : Nat := 200
/-- An event fault kind is held for 5 s (R164). -/
def holdSpan : Nat := 5000
/-- The tick count saturates at 65535 (R167). -/
def tickCountMax : Nat := 65535
/-- The fade beat falls at every whole multiple of 10 ms (R51). -/
def beatInterval : Nat := 10
/-- The inrush window lasts 500 ms (R54). -/
def inrushSpan : Nat := 500
/-- A channel trips when its over-time has run 100 ms (R55). -/
def channelOverSpan : Nat := 100
/-- The trip memory lasts 60 s (R56). -/
def tripMemorySpan : Nat := 60000
/-- The request time limit is 10 s (R99). -/
def requestLimit : Nat := 10000
/-- The lock timer runs 3000 ms (R100, R106). -/
def lockSpan : Nat := 3000
/-- A mover is overloaded when its over-time has run 200 ms (R103). -/
def moverOverSpan : Nat := 200
/-- Lamps blink at 1 Hz: each half lasts 500 ms (R114). -/
def blinkHalf : Nat := 500
/-- The top of the chain count (R120). -/
def chainMax : Nat := 4095
/-- Own demand of one class saturates at 4095 BU (R23). -/
def demandMax : Nat := 4095
/-- A new level of a FILTERED pin must stand 20 ms (R134). -/
def filterSpan : Nat := 20
/-- A held HOLD_DRIVE key repeats every 100 ms (R143). -/
def repeatInterval : Nat := 100
/-- The acknowledge time of a SCENE or FORGET key is 1000 ms (R141). -/
def acknowledgeSpan : Nat := 1000
/-- Conversions taken for an offset (R146). -/
def offsetSamples : Int := 64
/-- The largest offset magnitude accepted (R146). -/
def offsetMax : Int := 50
/-- A sense reading saturates at 2047 (R147). -/
def readingMax : Int := 2047
/-- The station time base is 48 bits wide (Section "Conventions"). -/
def timeBaseEnd : Nat := 2 ^ 48

end Sys2Proof.Config

namespace Sys2Proof

/-- The own period P (R2). -/
inductive Period where
  | ms50 | ms100 | ms200
  deriving DecidableEq, Repr

/-- The own period in ms. -/
def Period.ms : Period → Nat
  | .ms50 => 50
  | .ms100 => 100
  | .ms200 => 200

/-- The two directions of a mover. -/
inductive Dir where
  | dirA | dirB
  deriving DecidableEq, Repr

/-- The kind of a load channel (R41). -/
inductive ChannelKind where
  | switched | dimmed
  deriving DecidableEq, Repr

/-- Channel configuration (Table 3-1). -/
structure ChannelCfg where
  kind : ChannelKind := .switched
  rating : Nat := 0
  cls : Fin 8 := 0
  rank : Nat := 0
  lmin : Nat := 0
  fade : Nat := 0
  trip : Nat := 1
  deriving DecidableEq, Repr

/-- The kind of a mover (Section 5.1). -/
inductive MoverKind where
  | hatch | platform | windlass
  deriving DecidableEq, Repr

/-- Chain configuration of a WINDLASS (Table 6-1); not used for the other kinds. -/
structure ChainCfg where
  pitch : Nat := 0
  slowCount : Nat := 0
  maxCount : Nat := 0
  stallThreshold : Nat := 0
  stallTime : Nat := 0
  deriving DecidableEq, Repr

/-- Mover configuration (Table 5-1), its chain configuration and its input bindings (Table 8-15). -/
structure MoverCfg where
  kind : MoverKind := .hatch
  zones : ZoneSet := 0#16
  runRating : Nat := 0
  cls : Fin 8 := 1
  rank : Nat := 0
  overcurrent : Nat := 1
  travel : Nat := 0
  lockFitted : Bool := false
  stopDwell : Nat := 300
  holdTimeout : Nat := 350
  commandList : List Nat := []
  chain : ChainCfg := {}
  endA : Option PinId := none
  endB : Option PinId := none
  lockOpen : Option PinId := none
  lockClosed : Option PinId := none
  gypsy : Option PinId := none
  home : Option PinId := none
  powerFault : Option PinId := none
  deriving DecidableEq, Repr

/-- Pin functions (Table 7-2), in the order of their codes (Table 8-13). -/
inductive PinFn where
  | unused | key | endA | endB | lockOpen | lockClosed | gypsy | home | powerFault | occupancy | supply | standby
  | channelOut | driveA | driveB | slow | powerEnable | lockRelease | beacon | keyIndicator
  | alert | peerAlert | drained
  deriving DecidableEq, Repr

/-- A pin entry (Table 7-1). -/
structure PinCfg where
  fn : PinFn := .unused
  inverted : Bool := false
  filtered : Bool := false
  arg : Nat := 0
  deriving DecidableEq, Repr

/-- Line fitness selection (Table 8-2). -/
inductive FitSelection where
  | portA | portB | either | both
  deriving DecidableEq, Repr

/-- Port configuration (Table 8-2), with its defaults. -/
structure PortsCfg where
  eqFloor : Nat := 0
  eqMax : Nat := 15
  dwell : Nat := 4
  errorThreshold : Nat := 4
  selection : FitSelection := .either
  deriving DecidableEq, Repr

/-- The action of a key entry with the operands Table 7-4 gives it. -/
inductive KeyAction where
  | nothing
  | setLevel (target : Nat) (channel : ChannelId) (level : Nat)
  | toggle (target : Nat) (channel : ChannelId) (onLevel : Nat)
  | scene (number : Fin 32)
  | holdDrive (target : Nat) (mover : MoverId) (dir : Dir)
  | clear (target : Nat) (mover : MoverId)
  | forget (target : Nat)
  deriving DecidableEq, Repr

/-- A key entry's configuration (Table 7-4). -/
structure KeyCfg where
  pin : Option PinId := none
  action : KeyAction := .nothing
  deriving DecidableEq, Repr

/-- One pair of a scene (R60). -/
structure ScenePair where
  channel : ChannelId
  level : Nat
  deriving DecidableEq, Repr

/-- The configuration in force. The defaults are those of LISTEN_ONLY (R174): nothing is configured, P is 100 ms,
the ports and the report enables take their defaults. -/
structure Cfg where
  s0 : Nat := 0
  s1 : Nat := 0
  margin : Nat := 0
  islandCap : Nat := 0
  settle : Nat := 400
  islandDelay : Nat := 1000
  period : Period := .ms100
  listenWindow : Nat := 300
  officers : List Nat := []
  reportNotice : Bool := false
  reportDegraded : Bool := true
  occupancy : Vector (Option PinId) 16 := Vector.replicate 16 none
  supply : Option PinId := none
  standby : Option PinId := none
  ports : PortsCfg := {}
  pins : Vector PinCfg 32 := Vector.replicate 32 {}
  channels : Vector ChannelCfg 12 := Vector.replicate 12 {}
  movers : Vector (Option MoverCfg) 2 := Vector.replicate 2 none
  keys : Vector KeyCfg 16 := Vector.replicate 16 {}
  scenes : Vector (List ScenePair) 32 := Vector.replicate 32 []
  deriving DecidableEq, Repr

/-- The configuration of LISTEN_ONLY, and the one that stands until the end of LOAD (R174, R137). -/
def Cfg.unconfigured : Cfg := {}

end Sys2Proof
end

