-- ==== Sys2Proof/Machine/State.lean ====
section
/-! DEFINITION. The state of the ZS-48, block by block as Table 0-1 names the blocks, its stops, and its value after
reset. All of it is plain data. Instants are values of the station time base in ms. -/

namespace Sys2Proof.Machine

open Sys2Proof

/-- Why the machine stops with a fault. -/
inductive Fault where
  /-- Raised by the clock when the 48-bit time base would pass its last value: the spec says that it "does not wrap
  in service" and gives nothing past that instant. Safe: the model stops where the spec is silent. -/
  | timeBaseExhausted
  deriving DecidableEq, Repr

/-- Why a command is refused. -/
inductive Refusal where
  /-- Raised by an arm of exec for a command without a meaning; no arm raises it. Safe. -/
  | notModelled (mnemonic : String)
  deriving DecidableEq, Repr

/-! ### What a station announces (Tables 1-1, 8-6, 8-7) -/

/-- The announced status of a channel (Table 3-2). -/
inductive AnnouncedStatus where
  | normal | shed | tripped | lockedOut
  deriving DecidableEq, Repr

/-- One channel status entry. -/
structure ChannelStatus where
  level : Nat := 0
  status : AnnouncedStatus := .normal
  deriving DecidableEq, Repr

/-- Mover phases (Table 5-4), in the order of their codes (Table 8-7). -/
inductive MoverPhase where
  | idle | requesting | unlocking | running | stopping | locking | faulted | unfitted
  deriving DecidableEq, Repr

/-- Position summary of a mover (R115), in the order of its codes. -/
inductive Summary where
  | atAEnd | atBEnd | between | unknown
  deriving DecidableEq, Repr

/-- One mover status entry; the last refusal code is kept as announced, above 19 included (Table 8-8). -/
structure MoverStatus where
  index : MoverId
  kind : MoverKind
  phase : MoverPhase
  summary : Summary
  detail : Nat
  refusal : Nat
  deriving DecidableEq, Repr

/-- One zone claim entry. -/
structure ClaimStatus where
  zones : ZoneSet
  held : Bool
  key : Nat
  deriving DecidableEq, Repr

/-- Fault severities (Table 8-6), in the order of their codes. -/
inductive Severity where
  | clear | notice | degraded | halt
  deriving DecidableEq, Repr

/-- The fields of an ANNOUNCE (Table 8-6). -/
structure Announce where
  period : Period := .ms100
  profile : Bool := false
  starting : Bool := false
  standby : Bool := false
  drained : Bool := false
  island : Bool := false
  listenOnly : Bool := false
  islandCap : Nat := 0
  demand : Vector Nat 8 := Vector.replicate 8 0
  channels : Vector ChannelStatus 12 := Vector.replicate 12 {}
  occupied : ZoneSet := 0#16
  severity : Severity := .clear
  leadKind : Nat := 0
  firstKind : Nat := 0
  firstTick : Nat := 0
  movers : List MoverStatus := []
  claims : List ClaimStatus := []
  deriving DecidableEq, Repr

/-- The motion of a DRIVE (Table 8-5), in the order of its codes. -/
inductive Motion where
  | stop | dirA | dirB | clear
  deriving DecidableEq, Repr

/-- The frames of the Deck Line (Tables 8-4 to 8-6), by their fields. -/
inductive Frame where
  | drive (source target : Nat) (mover : MoverId) (motion : Motion)
  | announce (source : Nat) (body : Announce)
  | set (source target channel level : Nat)
  | scene (source number : Nat)
  | forget (source target : Nat)
  deriving DecidableEq, Repr

/-! ### Line Interface Unit -/

/-- Port states (Table 8-3). -/
inductive PortState where
  | dark | seeking | locked | fit
  deriving DecidableEq, Repr

/-- The dwell in progress at a SEEKING port (R152): its start, whether a start symbol was decoded in it, and the CRC
errors of frames completing in its second half. -/
structure Dwell where
  start : Nat
  decoded : Bool := false
  lateErrors : Nat := 0
  deriving DecidableEq, Repr

/-- A frame under way on a port: the queue record it was taken from, and the frame as it was started. -/
structure Attempt where
  serial : Nat
  frame : Frame
  deriving DecidableEq, Repr

/-- A port record (R151), with the instants R150 measures from and the attempt under way (R155). -/
structure Port where
  state : PortState := .dark
  eq : Nat := 0
  restartDone : Bool := false
  wasFit : Bool := false
  dwell : Option Dwell := none
  good : Nat := 0
  errors : Nat := 0
  windowEnd : Option Nat := none
  /-- The instant the carrier span runs from; none once the carrier is lost, and before the ports operate. -/
  carrier : Option Nat := none
  /-- The last transition on the pair, whoever drove it. -/
  lastTransition : Nat := 0
  attempt : Option Attempt := none
  /-- The instant of the last link pulse this port sent. -/
  pulseAt : Option Nat := none
  deriving DecidableEq, Repr

/-- A queued frame (Section 8.5): the frame, the instant it was queued, and a sent and a mismatch mark per port.
`serial` is the model's own name for the record. -/
structure Queued where
  serial : Nat
  frame : Frame
  queuedAt : Nat
  sent : Vector Bool 2 := Vector.replicate 2 false
  mismatch : Vector Bool 2 := Vector.replicate 2 false
  deriving DecidableEq, Repr

/-- The LIU: two port records, the ANNOUNCE slot, the command FIFO. -/
structure Liu where
  ports : Vector Port 2 := Vector.replicate 2 {}
  slot : Option Queued := none
  fifo : List Queued := []
  /-- The next queue record's serial (the model's own). -/
  serial : Nat := 0
  deriving DecidableEq, Repr

/-! ### Peer Table Unit -/

/-- Statuses of a record that is not ABSENT (Table 1-2). -/
inductive PeerStatus where
  | live | stale | orphan
  deriving DecidableEq, Repr

/-- A peer record (Table 1-1). -/
structure PeerRec where
  status : PeerStatus
  heard : Nat
  ann : Announce
  deriving DecidableEq, Repr

/-- The PTU: one slot for each station number; none is ABSENT (R3). -/
structure Ptu where
  peers : Vector (Option PeerRec) 48 := Vector.replicate 48 none
  deriving DecidableEq, Repr

/-! ### Supply Budget Unit -/

/-- A demand entry (Table 2-2). `pending` holds Pa and Pt. -/
structure Demand where
  source : Source
  cls : Fin 8
  rank : Nat
  want : Nat
  settled : Nat
  pending : Option (Nat × Nat)
  drawing : Nat
  ceiling : Option Nat
  deriving DecidableEq, Repr

/-- What brought island mode about (R34). -/
inductive IslandCause where
  | timer | twin
  deriving DecidableEq, Repr

/-- The SBU: the demand list in its order (R20), the last grants, the offers of the slot's ANNOUNCE (R30), the island
state and timer (R34), the own profile (R17). -/
structure Sbu where
  demands : List Demand := []
  grants : Vector Nat 8 := Vector.replicate 8 0
  offers : List (Source × Nat) := []
  island : Option IslandCause := none
  islandTimer : Option Nat := none
  profile : Bool := false
  deriving DecidableEq, Repr

/-! ### Load Channel Unit -/

/-- What sets a channel apart from the statuses that follow from its levels (R43). -/
inductive ChannelMark where
  | inService | tripped | lockedOut | unfitted
  deriving DecidableEq, Repr

/-- A channel's working fields (Table 3-1). OFF, ON and SHED follow from the levels (R43). `lastReading` is the last
reading delivered for it, which R55 takes at the inrush window's end. `owedTrip` is the instant at which the output went
off with an over-time that had run its 100 ms in full: a trip of that instant comes about in either order (R59). -/
structure Channel where
  lreq : Nat := 0
  leff : Nat := 0
  position : Nat := 0
  mark : ChannelMark := .inService
  tripMemory : Option Nat := none
  inrush : Option Nat := none
  overTime : Option Nat := none
  lastReading : Nat := 0
  owedTrip : Option Nat := none
  deriving DecidableEq, Repr

/-- The LCU: twelve channel records (the scene table is configuration). -/
structure Lcu where
  channels : Vector Channel 12 := Vector.replicate 12 {}
  deriving DecidableEq, Repr

/-! ### Zone Clearance Unit -/

/-- A zone claim (Table 4-1): NONE, INTENT WAITING, INTENT LISTENING with its intent start time, HELD. The zone set
and the claim key follow from the configuration and the own number. -/
inductive Claim where
  | unclaimed
  | waiting
  | listening (start : Nat)
  | held
  deriving DecidableEq, Repr

/-- The ZCU: one claim per mover slot. The own occupied set and the occupied view follow from the pins and the peers. -/
structure Zcu where
  claims : Vector Claim 2 := Vector.replicate 2 .unclaimed
  deriving DecidableEq, Repr

/-! ### Mover Unit -/

/-- Why a mover is stopping (Table 5-2). -/
inductive StopReason where
  | atEnd | released | reversal | noSupply | lineUnfit | occupied | standby | atLimit
  deriving DecidableEq, Repr

/-- Why a mover is FAULTED (Table 5-2). -/
inductive FaultReason where
  | halted | lockJam | travelTimeout | overload | pumpFault | clash | stall
  deriving DecidableEq, Repr

/-- Refusal codes (Table 5-6), in the order of their codes (Table 8-8). -/
inductive RefusalCode where
  | clear | notPermitted | busy | lineUnfit | starting | standby | halted | atLimit | blocked | occupied
  | noSupply | released | notCleared | notFitted | lockJam | travelTimeout | overload | pumpFault | clash | stall
  deriving DecidableEq, Repr

/-- A configured mover's working fields (Table 5-2), with the chain state of Table 6-2 (the last stall reading is the
last sense reading). `releaseGuard` holds a station number and an expiry; `timer` is the phase timer's expiry. -/
structure Mover where
  phase : MoverPhase := .idle
  driver : Option Nat := none
  direction : Option Dir := none
  lastDrive : Option Nat := none
  stopReason : Option StopReason := none
  reversal : Option Dir := none
  releaseGuard : Option (Nat × Nat) := none
  timer : Option Nat := none
  overTime : Option Nat := none
  lastSense : Nat := 0
  faultReason : Option FaultReason := none
  lastRefusal : RefusalCode := .clear
  count : Nat := 0
  known : Bool := false
  stallSpan : Option Nat := none
  deriving DecidableEq, Repr

/-- The MVU: the records in force (none for a slot unconfigured or before the end of CALIBRATE), and the windlass
counts and known flags a PIN RESET retains (R131). -/
structure Mvu where
  movers : Vector (Option Mover) 2 := Vector.replicate 2 none
  retained : Vector (Option (Nat × Bool)) 2 := Vector.replicate 2 none
  deriving DecidableEq, Repr

/-! ### Field Pin Router, Key Table Unit, Current Sense Array -/

/-- A field pin's conditioning (R134): the level the pin shows (high is true; the outside sets it), the delivered
value, and the start of a candidate change. -/
structure Pin where
  level : Bool := false
  delivered : Bool := false
  candidate : Option Nat := none
  deriving DecidableEq, Repr

/-- The FPR: the pins, and whether blinking lamps stand in the lit half of the second (R114). -/
structure Fpr where
  pins : Vector Pin 32 := Vector.replicate 32 {}
  blinkLit : Bool := true
  deriving DecidableEq, Repr

/-- Drive standing of a HOLD_DRIVE entry (Table 7-4). -/
inductive DriveStanding where
  | idle | driving | suppressed
  deriving DecidableEq, Repr

/-- A key entry's working fields (Table 7-4). -/
structure Key where
  held : Bool := false
  standing : DriveStanding := .idle
  nextRepeat : Option Nat := none
  ackUntil : Option Nat := none
  deriving DecidableEq, Repr

/-- The KTU: sixteen key entries. -/
structure Ktu where
  keys : Vector Key 16 := Vector.replicate 16 {}
  deriving DecidableEq, Repr

/-- A sense input: the raw value it shows (the outside sets it), the sum of the conversions taken for its offset, the
offset once taken, and the FAULTY mark (R146). -/
structure Sense where
  raw : Int := 0
  sum : Int := 0
  offset : Option Int := none
  faulty : Bool := false
  deriving DecidableEq, Repr

/-- The CSA: fourteen sense inputs. -/
structure Csa where
  inputs : Vector Sense 14 := Vector.replicate 14 {}
  deriving DecidableEq, Repr

/-! ### Fault Collector and Start-up Controller -/

/-- A fault kind's active flag and, for an event kind, its hold timer's expiry (R164). -/
structure Flag where
  active : Bool := false
  hold : Option Nat := none
  deriving DecidableEq, Repr

/-- The FCL: the flags by kind, the tick count, the first-fault record (R164, R167). -/
structure Fcl where
  flags : Vector Flag 26 := Vector.replicate 26 {}
  tickCount : Nat := 0
  firstFault : Option (FaultKind × Nat) := none
  deriving DecidableEq, Repr

/-- Start-up phases (Table 10-1). -/
inductive Phase where
  | strap | load | calibrate | quiet | run | listenOnly
  deriving DecidableEq, Repr

/-- Image status (R171, R172). -/
inductive ImageStatus where
  | unread | valid | invalid
  deriving DecidableEq, Repr

/-- The SUC: phase and the instant it began, own number, image status, whether stand-down holds (STANDING_DOWN and
DRAINED follow from the movers and fades, R176), the instant of entry into RUN (R173), the next own period tick (R2). -/
structure Suc where
  phase : Phase := .strap
  since : Nat := 0
  ownNumber : Option Nat := none
  image : ImageStatus := .unread
  standDown : Bool := false
  runEntry : Option Nat := none
  nextTick : Option Nat := none
  deriving DecidableEq, Repr

/-- The ZS-48: the time base, the eleven blocks, the configuration in force, and the commands that are waiting, first
in first out. -/
structure State where
  now : Nat := 0
  suc : Suc := {}
  cfg : Cfg := {}
  liu : Liu := {}
  ptu : Ptu := {}
  sbu : Sbu := {}
  lcu : Lcu := {}
  zcu : Zcu := {}
  mvu : Mvu := {}
  fpr : Fpr := {}
  ktu : Ktu := {}
  csa : Csa := {}
  fcl : Fcl := {}
  pending : List Instr := []
  deriving DecidableEq, Repr

/-- The station at reset release after POWER-ON: time base 0, phase STRAP, every block at the value its chapter gives
after reset (R16, R40, R65, R86, R117, R130, R137, R139, R148, R151, R157, R170, R171), no command waiting. -/
def State.reset : State := {}

end Sys2Proof.Machine
end

