-- ==== Sys2Proof/Machine/Ops.lean ====
section
/-! DEFINITION. The named updates of the state's parts, and the instants timers run to. Every later file changes the
state through these. The block has no addressed memory, so there is no operation over one. -/

namespace Sys2Proof.Machine

open Sys2Proof

/-- The outcome of a command. -/
abbrev Result := Host.Outcome State Fault Refusal

/-- The vector with its entry at i changed by f. -/
def modifyAt {α : Type} {n : Nat} (v : Vector α n) (i : Fin n) (f : α → α) : Vector α n :=
  v.set i (f v[i])

/-- A timer has run out: its instant has been reached ("runs out", Conventions). A stopped timer never has. -/
def due (timer : Option Nat) (now : Nat) : Bool :=
  match timer with
  | some t => decide (t ≤ now)
  | none => false

/-- k ms have passed since an instant that is set. -/
def elapsed (start : Option Nat) (k now : Nat) : Bool := due (start.map (· + k)) now

/-- The other mover slot of the station. -/
def otherMover (m : MoverId) : MoverId := if m = 0 then 1 else 0

/-- The station number a peer-table slot serves. -/
def slotNumber (i : SlotId) : Nat := i.val + 1

/-- The peer-table slot of a station number 1-48. -/
def slotOf (n : Nat) : Option SlotId :=
  if h : 1 ≤ n ∧ n ≤ 48 then some ⟨n - 1, by omega⟩ else none

/-- The station with port p changed. -/
def State.onPort (s : State) (p : PortId) (f : Port → Port) : State :=
  { s with liu := { s.liu with ports := modifyAt s.liu.ports p f } }

/-- The station with channel c changed. -/
def State.onChannel (s : State) (c : ChannelId) (f : Channel → Channel) : State :=
  { s with lcu := { s.lcu with channels := modifyAt s.lcu.channels c f } }

/-- The station with mover m changed, where its record is in force. -/
def State.onMover (s : State) (m : MoverId) (f : Mover → Mover) : State :=
  { s with mvu := { s.mvu with movers := modifyAt s.mvu.movers m (Option.map f) } }

/-- The station with the claim of mover m replaced. -/
def State.setClaim (s : State) (m : MoverId) (c : Claim) : State :=
  { s with zcu := { s.zcu with claims := s.zcu.claims.set m c } }

/-- The station with peer-table slot i replaced. -/
def State.setPeer (s : State) (i : SlotId) (r : Option PeerRec) : State :=
  { s with ptu := { s.ptu with peers := s.ptu.peers.set i r } }

/-- The station with pin p changed. -/
def State.onPin (s : State) (p : PinId) (f : Pin → Pin) : State :=
  { s with fpr := { s.fpr with pins := modifyAt s.fpr.pins p f } }

/-- The station with key entry k changed. -/
def State.onKey (s : State) (k : KeyId) (f : Key → Key) : State :=
  { s with ktu := { s.ktu with keys := modifyAt s.ktu.keys k f } }

/-- The station with sense input cs changed. -/
def State.onSense (s : State) (cs : SenseId) (f : Sense → Sense) : State :=
  { s with csa := { s.csa with inputs := modifyAt s.csa.inputs cs f } }

/-- The station with the demand list replaced. -/
def State.setDemands (s : State) (l : List Demand) : State :=
  { s with sbu := { s.sbu with demands := l } }

/-- Every mover slot, in index order. -/
def allMovers : List MoverId := [0, 1]

/-- Every port, A then B. -/
def allPorts : List PortId := [0, 1]

/-- Every channel, in channel order. -/
def allChannels : List ChannelId := [0, 1, 2, 3, 4, 5, 6, 7, 8, 9, 10, 11]

/-- Every key entry, in order. -/
def allKeys : List KeyId := [0, 1, 2, 3, 4, 5, 6, 7, 8, 9, 10, 11, 12, 13, 14, 15]

/-- Every zone, in zone order. -/
def allZones : List (Fin 16) := [0, 1, 2, 3, 4, 5, 6, 7, 8, 9, 10, 11, 12, 13, 14, 15]

/-- Every sense input, in order. -/
def allSenses : List SenseId := [0, 1, 2, 3, 4, 5, 6, 7, 8, 9, 10, 11, 12, 13]

/-- Every slot of the peer table, in the numbering of the slots. -/
def allSlots : List SlotId := List.finRange 48

/-- Every field pin, in order. -/
def allPins : List PinId := List.finRange 32

end Sys2Proof.Machine
end

