-- ==== Sys2Proof/Machine/Flags.lean ====
section
/-! DEFINITION. The Fault Collector (Chapter 9): the flags of the fault kinds, their codes and severities, the hold
timers of event kinds, the first-fault record and the fault summary. -/

namespace Sys2Proof

/-- The place of a kind's flag: its code less one (Table 8-8). -/
def FaultKind.idx : FaultKind → Fin 26
  | .crcError => 0 | .malformed => 1 | .txqFull => 2 | .driveStale => 3 | .driveRefused => 4
  | .portDarkA => 5 | .portDarkB => 6 | .portUnfitA => 7 | .portUnfitB => 8 | .lineUnfit => 9
  | .island => 10 | .supplyShort => 11 | .peerOrphaned => 12 | .senseFault => 13 | .channelTrip => 14
  | .channelLockout => 15 | .lockJam => 16 | .travelTimeout => 17 | .overload => 18 | .stall => 19
  | .clash => 20 | .countUnknown => 21 | .pumpFault => 22 | .twin => 23 | .configInvalid => 24
  | .badNumber => 25

/-- The code a kind is announced by (Table 8-8). -/
def FaultKind.code (k : FaultKind) : Nat := k.idx.val + 1

/-- Every kind, in the order of the codes. -/
def FaultKind.all : List FaultKind :=
  [.crcError, .malformed, .txqFull, .driveStale, .driveRefused, .portDarkA, .portDarkB, .portUnfitA, .portUnfitB,
   .lineUnfit, .island, .supplyShort, .peerOrphaned, .senseFault, .channelTrip, .channelLockout, .lockJam,
   .travelTimeout, .overload, .stall, .clash, .countUnknown, .pumpFault, .twin, .configInvalid, .badNumber]

end Sys2Proof

namespace Sys2Proof.Machine

open Sys2Proof

/-- The severity of a kind (Table 9-1). -/
def kindSeverity : FaultKind → Severity
  | .crcError | .malformed | .txqFull | .driveStale | .driveRefused => .notice
  | .pumpFault | .twin | .configInvalid | .badNumber => .halt
  | .portDarkA | .portDarkB | .portUnfitA | .portUnfitB | .lineUnfit | .island | .supplyShort | .peerOrphaned
  | .senseFault | .channelTrip | .channelLockout | .lockJam | .travelTimeout | .overload | .stall | .clash
  | .countUnknown => .degraded

/-- The code of a severity (Table 8-6); a higher code is a higher severity. -/
def Severity.code : Severity → Nat
  | .clear => 0 | .notice => 1 | .degraded => 2 | .halt => 3

/-- The kind's active flag (R164). -/
def State.active (s : State) (k : FaultKind) : Bool := (s.fcl.flags[k.idx]).active

/-- The report enable of a severity (R165): HALT is reported at all times. -/
def reportEnabled (cfg : Cfg) : Severity → Bool
  | .clear => false
  | .notice => cfg.reportNotice
  | .degraded => cfg.reportDegraded
  | .halt => true

/-- A kind is reported-active while it is active and the enable for its severity is on (R165). -/
def State.reportedActive (s : State) (k : FaultKind) : Bool :=
  s.active k && reportEnabled s.cfg (kindSeverity k)

/-- The first-fault record after kind k has become active (R167): it takes the first kind to become reported-active
with the tick count of that instant, and then does not change. -/
def firstFaultAfter (s : State) (k : FaultKind) : Option (FaultKind × Nat) :=
  match s.fcl.firstFault with
  | some r => some r
  | none => if reportEnabled s.cfg (kindSeverity k) then some (k, s.fcl.tickCount) else none

/-- Kind k becomes or stays active, with the hold timer given (R164, R167). -/
def State.activate (s : State) (k : FaultKind) (hold : Option Nat) : State :=
  { s with fcl := { s.fcl with
      flags := s.fcl.flags.set k.idx { active := true, hold := hold }
      firstFault := if s.active k then s.fcl.firstFault else firstFaultAfter s k } }

/-- An occurrence of an event kind: it is active, and its hold timer restarts and runs out 5 s later (R164). -/
def State.raiseEvent (s : State) (k : FaultKind) : State :=
  s.activate k (some (s.now + Config.holdSpan))

/-- The owner of a condition kind reports it raised (R164). -/
def State.raiseCond (s : State) (k : FaultKind) : State :=
  if s.active k then s else s.activate k none

/-- The owner of a condition kind reports it cleared, or an event kind's hold timer runs out (R164). -/
def State.clearFlag (s : State) (k : FaultKind) : State :=
  { s with fcl := { s.fcl with flags := s.fcl.flags.set k.idx {} } }

/-- The owner of a condition kind reports it as it now stands; a report of no change changes nothing. -/
def State.reportCond (s : State) (k : FaultKind) (holds : Bool) : State :=
  if holds then s.raiseCond k else if s.active k then s.clearFlag k else s

/-- A HALT-severity fault is active (R169). -/
def State.haltActive (s : State) : Bool :=
  s.active .pumpFault || s.active .twin || s.active .configInvalid || s.active .badNumber

/-- The highest severity among the reported-active kinds (R166). -/
def worstSeverity (s : State) : Severity :=
  if FaultKind.all.any (fun k => s.reportedActive k && kindSeverity k = .halt) then .halt
  else if FaultKind.all.any (fun k => s.reportedActive k && kindSeverity k = .degraded) then .degraded
  else if FaultKind.all.any (fun k => s.reportedActive k && kindSeverity k = .notice) then .notice
  else .clear

/-- The leading kind: the reported-active kind of the worst severity with the lowest code (R166). -/
def leadingKind (s : State) : Option FaultKind :=
  FaultKind.all.find? fun k => s.reportedActive k && kindSeverity k = worstSeverity s

/-- The tick count rises by one at each own period tick, saturating at 65535 (R167). -/
def State.countTick (s : State) : State :=
  { s with fcl := { s.fcl with tickCount := min Config.tickCountMax (s.fcl.tickCount + 1) } }

/-- The event kinds, which have a hold timer (Table 9-1). -/
def isEvent : FaultKind → Bool
  | .crcError | .malformed | .txqFull | .driveStale | .driveRefused | .channelTrip => true
  | .portDarkA | .portDarkB | .portUnfitA | .portUnfitB | .lineUnfit | .island | .supplyShort | .peerOrphaned
  | .senseFault | .channelLockout | .lockJam | .travelTimeout | .overload | .stall | .clash | .countUnknown
  | .pumpFault | .twin | .configInvalid | .badNumber => false

end Sys2Proof.Machine
end

