-- ==== Sys2Proof/Machine/Operands.lean ====
section
/-! DEFINITION. What the rules read: the consumers' inputs, line fitness, the permission to transmit, the demand an
entry has, the claims and zones in view, the standing of a claim, the ends of travel, the stand-down state. Each is a
view of the state, so that nothing is stored twice. -/

namespace Sys2Proof.Machine

open Sys2Proof

/-! ### Inputs and phases -/

/-- A consumer reads the delivered value of its pin; unbound, it reads its default, inactive (R135, Table 7-3). -/
def State.input (s : State) (pin : Option PinId) : Bool :=
  match pin with
  | some p => (s.fpr.pins[p]).delivered
  | none => false

/-- The phases in which the station acts on frames, keys and its inputs (R137, R173). -/
def State.working (s : State) : Bool := s.suc.phase = .quiet || s.suc.phase = .run

/-- The phases in which received frames are checked and delivered (R161). -/
def State.delivers (s : State) : Bool := s.working || s.suc.phase = .listenOnly

/-- The phases in which the ports are in operation: from the end of LOAD, or from entry into LISTEN_ONLY (R151). -/
def State.portsOperate (s : State) : Bool := s.delivers || s.suc.phase = .calibrate

/-- The station is in RUN. -/
def State.running (s : State) : Bool := s.suc.phase = .run

/-! ### The line -/

/-- Port p is FIT. -/
def State.portFit (s : State) (p : PortId) : Bool := (s.liu.ports[p]).state = .fit

/-- Line fitness holds by the configured selection (R154). -/
def State.lineFit (s : State) : Bool :=
  match s.cfg.ports.selection with
  | .portA => s.portFit 0
  | .portB => s.portFit 1
  | .either => s.portFit 0 || s.portFit 1
  | .both => s.portFit 0 && s.portFit 1

/-- The station is permitted to transmit: in RUN, and in LISTEN_ONLY with CONFIG_INVALID, while TWIN is not active
(R155). -/
def State.mayTransmit (s : State) : Bool :=
  !s.active .twin && (s.running || (s.suc.phase = .listenOnly && s.suc.image = .invalid))

/-! ### The demand list -/

/-- The demand entry of a source, where it has one. -/
def demandIn (l : List Demand) (src : Source) : Option Demand := l.find? fun d => d.source = src

/-- The station's demand entry for a source. -/
def State.demandOf (s : State) (src : Source) : Option Demand := demandIn s.sbu.demands src

/-- The mover's entry is granted: its drawing equals its W (R29). -/
def State.granted (s : State) (m : MoverId) : Bool :=
  match s.demandOf (.mover m) with
  | some d => d.drawing = d.want
  | none => false

/-! ### Movers -/

/-- The record of mover m, where it is in force. -/
def State.mover (s : State) (m : MoverId) : Option Mover := s.mvu.movers[m]

/-- The configuration of mover m; that of an unconfigured slot is never read. -/
def State.moverCfg (s : State) (m : MoverId) : MoverCfg := (s.cfg.movers[m]).getD {}

/-- The phases in which a mover has a driver, an entry and a claim (R90). -/
def MoverPhase.inMotion : MoverPhase → Bool
  | .requesting | .unlocking | .running | .stopping | .locking => true
  | .idle | .faulted | .unfitted => false

/-- The end of a direction is reached (R102, R123): an end switch for a HATCH or PLATFORM; for a WINDLASS the HOME
input for DIR_B, and a known count at or above the maximum for DIR_A. -/
def State.endReached (s : State) (m : MoverId) (d : Dir) : Bool :=
  let c := s.moverCfg m
  match c.kind, d with
  | .windlass, .dirB => s.input c.home
  | .windlass, .dirA =>
    match s.mover m with
    | some r => r.known && decide (c.chain.maxCount ≤ r.count)
    | none => false
  | _, .dirA => s.input c.endA
  | _, .dirB => s.input c.endB

/-- A mover counts as quiet when it is IDLE, FAULTED or UNFITTED (R176). -/
def moverQuiet (r : Option Mover) : Bool :=
  match r with
  | some x => !x.phase.inMotion
  | none => true

/-! ### Zones and claims -/

/-- The zone set of mover m's claim; empty for an unconfigured slot (R66). -/
def State.zonesOf (s : State) (m : MoverId) : ZoneSet :=
  match s.cfg.movers[m] with
  | some c => c.zones
  | none => ZoneSet.empty

/-- Two zone sets have at least one zone in common (R70). -/
def zonesMeet (a b : ZoneSet) : Bool := (a &&& b) ≠ ZoneSet.empty

/-- The own number, 0 where the station has none; only stations with a number form claim keys. -/
def State.number (s : State) : Nat := s.suc.ownNumber.getD 0

/-- The claim key: station number × 2 + mover index (R69). -/
def State.claimKey (s : State) (m : MoverId) : Nat := s.number * 2 + m.val

/-- The zones whose OCCUPANCY input is active, from entry into QUIET onward (R67). -/
def State.ownOccupied (s : State) : ZoneSet :=
  if s.working then
    allZones.foldl (fun acc z => if s.input s.cfg.occupancy[z] then acc ||| (1#16 <<< z.val) else acc) ZoneSet.empty
  else ZoneSet.empty

/-- The records that are not ABSENT. -/
def State.records (s : State) : List PeerRec := s.ptu.peers.toList.filterMap id

/-- The occupied view: the own occupied set and the occupied zones of every record (R68). -/
def State.occupiedView (s : State) : ZoneSet :=
  s.records.foldl (fun acc r => acc ||| r.ann.occupied) s.ownOccupied

/-- The peer claims in view: those of every record, whatever its status (R70). -/
def State.peerClaims (s : State) : List ClaimStatus := s.records.flatMap fun r => r.ann.claims

/-- The claim of mover m. -/
def State.claim (s : State) (m : MoverId) : Claim := s.zcu.claims[m]

/-- A peer claim that stands in the way of own mover m: it conflicts, and it is HELD or an INTENT whose key is not
higher (R70, R73). -/
def blocksClaim (zones : ZoneSet) (key : Nat) (c : ClaimStatus) : Bool :=
  zonesMeet zones c.zones && (c.held || decide (c.key ≤ key))

/-- The own other claim stands in the way of mover m: it conflicts, and it is HELD, or LISTENING with the lower key
(R70). -/
def State.ownOtherBlocks (s : State) (m : MoverId) : Bool :=
  zonesMeet (s.zonesOf m) (s.zonesOf (otherMover m)) &&
  match s.claim (otherMover m) with
  | .held => true
  | .listening _ => decide (s.claimKey (otherMover m) < s.claimKey m)
  | .waiting => false
  | .unclaimed => false

/-- Something in view stands in the way of mover m's intent (R72 to R74). -/
def State.obstacle (s : State) (m : MoverId) : Bool :=
  s.peerClaims.any (blocksClaim (s.zonesOf m) (s.claimKey m)) || s.ownOtherBlocks m

/-- A zone of mover m's set is in the occupied view. -/
def State.zoneOccupied (s : State) (m : MoverId) : Bool := zonesMeet (s.zonesOf m) s.occupiedView

/-- The standing the ZCU gives the MVU for a claim (Table 4-2). -/
inductive Standing where
  | absent | blocked | occupied | cleared
  deriving DecidableEq, Repr

/-- The standing of mover m's claim (R71). -/
def State.standing (s : State) (m : MoverId) : Standing :=
  match s.claim m with
  | .unclaimed => .absent
  | .waiting => .blocked
  | .listening start =>
    if start + s.cfg.listenWindow ≤ s.now && s.zoneOccupied m then .occupied else .blocked
  | .held => if s.zoneOccupied m then .occupied else .cleared

/-- The claims announced: each own claim that is INTENT LISTENING or HELD, in mover order (R82). -/
def State.announcedClaims (s : State) : List ClaimStatus :=
  allMovers.filterMap fun m =>
    match s.claim m with
    | .listening _ => some { zones := s.zonesOf m, held := false, key := s.claimKey m }
    | .held => some { zones := s.zonesOf m, held := true, key := s.claimKey m }
    | .waiting => none
    | .unclaimed => none

/-! ### Channels and the stand-down -/

/-- A fade is in progress on a DIMMED channel while its position differs from its Leff (R51). -/
def State.fading (s : State) (c : ChannelId) : Bool :=
  (s.cfg.channels[c]).kind = .dimmed && (s.lcu.channels[c]).position ≠ (s.lcu.channels[c]).leff

/-- Stand-down states (R175). -/
inductive StandDown where
  | normal | standingDown | drained
  deriving DecidableEq, Repr

/-- The stand-down state: while stand-down holds, DRAINED at each instant at which every mover is quiet and no fade
is in progress, and STANDING_DOWN at every other instant (R176). -/
def State.standDownState (s : State) : StandDown :=
  if s.suc.standDown then
    if allMovers.all (fun m => moverQuiet (s.mover m)) && allChannels.all (fun c => !s.fading c) then .drained
    else .standingDown
  else .normal

end Sys2Proof.Machine
end

