-- ==== Sys2Proof/Machine/Budget.lean ====
section
/-! DEFINITION. The Supply Budget Unit (Chapter 2): the demand list, the grant computation, the allocation, offers and
settling, island mode. -/

namespace Sys2Proof.Machine

open Sys2Proof

/-! ### The demand list (Section 2.2) -/

/-- The place of a source within a rank: movers before channels, the lower index first (R20). -/
def sourceOrder : Source → Nat
  | .mover m => m.val
  | .chan c => 2 + c.val

/-- The one fixed place of an entry: by class, then rank, then source (R20). -/
def Demand.key (d : Demand) : Nat := (d.cls.val * 16 + d.rank) * 16 + sourceOrder d.source

/-- An entry takes its place among the others without moving them (R20). -/
def insertDemand (d : Demand) : List Demand → List Demand
  | [] => [d]
  | e :: rest => if d.key < e.key then d :: e :: rest else e :: insertDemand d rest

/-- The list without the entry of a source. -/
def dropSource (src : Source) (l : List Demand) : List Demand := l.filter fun d => d.source ≠ src

/-- A new entry (R21, R37): class 0 starts settled and drawing its W; classes 1-7 start at 0 BU, in island mode with a
ceiling of 0 BU. -/
def newDemand (island : Bool) (src : Source) (cls : Fin 8) (rank want : Nat) : Demand :=
  if cls = 0 then
    { source := src, cls := cls, rank := rank, want := want, settled := want, pending := none, drawing := want,
      ceiling := none }
  else
    { source := src, cls := cls, rank := rank, want := want, settled := 0, pending := none, drawing := 0,
      ceiling := if island then some 0 else none }

/-- The SBU is in island mode. -/
def State.inIsland (s : State) : Bool := s.sbu.island.isSome

/-- The LCU or the MVU gives an entry up: it goes with everything it holds, and its offer is dropped (R21, R30). -/
def State.removeEntry (s : State) (src : Source) : State :=
  { s with sbu := { s.sbu with
      demands := dropSource src s.sbu.demands
      offers := s.sbu.offers.filter fun o => o.1 ≠ src } }

/-- The LCU or the MVU asks for an entry (R21); it keeps nothing of an earlier one for the same source. -/
def State.createEntry (s : State) (src : Source) (cls : Fin 8) (rank want : Nat) : State :=
  let t := s.removeEntry src
  t.setDemands (insertDemand (newDemand s.inIsland src cls rank want) t.sbu.demands)

/-- A pending amount after a decrease to W with settled amount sd: lowered to W, dropped when no longer above sd
(R22). -/
def lowerPending (want sd : Nat) (pending : Option (Nat × Nat)) : Option (Nat × Nat) :=
  match pending with
  | some (pa, pt) => if sd < min pa want then some (min pa want, pt) else none
  | none => none

/-- An entry whose wanted amount changes to W (R22). -/
def changeWant (island : Bool) (want : Nat) (d : Demand) : Demand :=
  if d.cls = 0 then { d with want := want, settled := want, drawing := want }
  else if want < d.want then
    { d with
      want := want
      settled := min d.settled want
      drawing := min d.drawing (min d.settled want)
      pending := lowerPending want (min d.settled want) d.pending }
  else
    { d with want := want, settled := if island then min want (d.ceiling.getD d.settled) else d.settled }

/-- One entry of the list changed. -/
def mapSource (src : Source) (f : Demand → Demand) (l : List Demand) : List Demand :=
  l.map fun d => if d.source = src then f d else d

/-- The LCU changes the wanted amount of an entry (R22). -/
def State.changeEntry (s : State) (src : Source) (want : Nat) : State :=
  s.setDemands (mapSource src (changeWant s.inIsland want) s.sbu.demands)

/-- The wanted amounts of the own entries of class k, summed. -/
def wantSum (k : Fin 8) : List Demand → Nat
  | [] => 0
  | d :: rest => (if d.cls = k then d.want else 0) + wantSum k rest

/-- Own demand D[self][k], saturated at 4095 BU (R23). -/
def ownDemand (l : List Demand) (k : Fin 8) : Nat := min Config.demandMax (wantSum k l)

/-- The eight own demands (R23, R39). -/
def ownDemands (l : List Demand) : Vector Nat 8 :=
  #v[ownDemand l 0, ownDemand l 1, ownDemand l 2, ownDemand l 3, ownDemand l 4, ownDemand l 5, ownDemand l 6,
     ownDemand l 7]

/-! ### The grant computation (Section 2.3) -/

/-- The demand counted for a peer record in class k (Table 2-3). -/
def peerDemand (k : Fin 8) (r : PeerRec) : Nat :=
  match r.status with
  | .live => r.ann.demand[k]
  | .stale => r.ann.demand[k]
  | .orphan => if k = 0 then r.ann.islandCap else 0

/-- The exact class total T_k over the counted stations (R24). -/
def State.classTotal (s : State) (k : Fin 8) : Nat :=
  ownDemand s.sbu.demands k + (s.records.map (peerDemand k)).sum

/-- The SBU's own mapping of a profile to a capacity (R17). -/
def capacityOf (cfg : Cfg) (profile : Bool) : Nat := if profile then cfg.s1 else cfg.s0

/-- The capacity in use: the smallest among the own profile and the LIVE peers' profiles (R18). -/
def State.capacityInUse (s : State) : Nat :=
  s.records.foldl
    (fun acc r => if r.status = .live then min acc (capacityOf s.cfg r.ann.profile) else acc)
    (capacityOf s.cfg s.sbu.profile)

/-- The available supply A: S less M, floored at 0 (R19). -/
def State.available (s : State) : Nat := s.capacityInUse - s.cfg.margin

/-- The waterfall over classes, each given as own demand and class total (R26): a class is granted in full while the
remainder covers it; the first that does not fit is shared in proportion, and every class below gets nothing. -/
def waterfall : Nat → List (Nat × Nat) → List Nat
  | _, [] => []
  | rem, (own, total) :: rest =>
    if total ≤ rem then own :: waterfall (rem - total) rest
    else own * rem / total :: rest.map fun _ => 0

/-- Classes 1 to 7. -/
def lowerClasses : List (Fin 8) := [1, 2, 3, 4, 5, 6, 7]

/-- Eight amounts as a vector, class 0 first. -/
def eight (l : List Nat) : Vector Nat 8 :=
  #v[l.getD 0 0, l.getD 1 0, l.getD 2 0, l.getD 3 0, l.getD 4 0, l.getD 5 0, l.getD 6 0, l.getD 7 0]

/-- The total a class is judged by: over the counted stations, or the own demand alone in island mode (R24, R36). -/
def State.judgedTotal (s : State) (k : Fin 8) : Nat :=
  if s.inIsland then ownDemand s.sbu.demands k else s.classTotal k

/-- The supply class 0 is judged against: A, or the island cap in island mode (R25, R36). -/
def State.judgedSupply (s : State) : Nat := if s.inIsland then s.cfg.islandCap else s.available

/-- The grants G_0 to G_7 (R25, R26, R36). -/
def State.computeGrants (s : State) : Vector Nat 8 :=
  eight (ownDemand s.sbu.demands 0 ::
    waterfall (s.judgedSupply - s.judgedTotal 0)
      (lowerClasses.map fun k => (ownDemand s.sbu.demands k, s.judgedTotal k)))

/-! ### Allocation (Section 2.4) -/

/-- The source can use part of a drawing: a DIMMED channel (Section 2.4). -/
def takesPart (cfg : Cfg) : Source → Bool
  | .chan c => (cfg.channels[c]).kind = .dimmed
  | .mover _ => false

/-- The drawing of Table 2-4 from a running remainder r, limited to the island ceiling where there is one (R28). -/
def share (cfg : Cfg) (r : Nat) (d : Demand) : Nat :=
  let base :=
    if takesPart cfg d.source then min r d.settled
    else if d.settled = d.want && decide (d.want ≤ r) then d.settled
    else 0
  match d.ceiling with
  | some c => min base c
  | none => base

/-- The allocation: every own entry gets a new drawing, each class from its own running remainder in list order
(R28). -/
def allocate (cfg : Cfg) : Vector Nat 8 → List Demand → List Demand
  | _, [] => []
  | g, d :: rest =>
    if d.cls = 0 then { d with settled := d.want, drawing := d.want } :: allocate cfg g rest
    else
      { d with drawing := share cfg g[d.cls] d } ::
        allocate cfg (g.set d.cls (g[d.cls] - share cfg g[d.cls] d)) rest

/-- The SBU's part of an own period tick: SUPPLY_SHORT is judged, the grants are stored, the drawings given (R25 to
R28, R36). -/
def State.budgetTick (s : State) : State :=
  let g := s.computeGrants
  let t := s.reportCond .supplyShort (decide (s.judgedSupply < s.judgedTotal 0))
  { t with sbu := { t.sbu with grants := g, demands := allocate t.cfg g t.sbu.demands } }

/-! ### Offers and settling (Section 2.5) -/

/-- An entry of classes 1-7 is offered when its W exceeds its Sd and its pending amount, if any (R30, R33). -/
def offered (d : Demand) : Bool :=
  d.cls ≠ 0 && decide (d.settled < d.want) &&
  match d.pending with
  | some (pa, _) => decide (pa < d.want)
  | none => true

/-- The offers an ANNOUNCE composed now carries; none in island mode (R30). -/
def State.offersNow (s : State) : List (Source × Nat) :=
  if s.inIsland then [] else (s.sbu.demands.filter offered).map fun d => (d.source, d.want)

/-- An offer becomes a pending amount at the completion of its ANNOUNCE: the smaller of the offer and the W, when it
exceeds Sd (R31). -/
def pend (now : Nat) (l : List Demand) (o : Source × Nat) : List Demand :=
  mapSource o.1
    (fun d => if d.settled < min o.2 d.want then { d with pending := some (min o.2 d.want, now) } else d) l

/-- The slot's ANNOUNCE completes on the first port to complete it: its offers become pending amounts (R31). -/
def State.takeOffers (s : State) : State :=
  { s with sbu := { s.sbu with
      demands := s.sbu.offers.foldl (pend s.now) s.sbu.demands
      offers := [] } }

/-- The offers of the slot's ANNOUNCE go with it (R30). -/
def State.dropOffers (s : State) : State := { s with sbu := { s.sbu with offers := [] } }

/-- An entry at Pt + Q: its settled amount becomes its pending amount, which is cleared (R32). -/
def settleEntry (now q : Nat) (d : Demand) : Demand :=
  match d.pending with
  | some (pa, pt) => if pt + q ≤ now then { d with settled := pa, pending := none } else d
  | none => d

/-! ### Island mode (Section 2.7) -/

/-- An entry at entry into island mode: its ceiling is its drawing, its pending amount is dropped, its Sd is limited to
the ceiling (R35). -/
def islandEntry (d : Demand) : Demand :=
  { d with ceiling := some d.drawing, pending := none, settled := min d.want d.drawing }

/-- The SBU enters island mode, or holds on in it as if entered on TWIN (R34, R35). -/
def State.enterIsland (s : State) (cause : IslandCause) : State :=
  State.raiseCond
    { s with sbu := { s.sbu with
        demands := s.sbu.demands.map islandEntry
        offers := []
        island := some cause } }
    .island

/-- An entry at exit from island mode: its Sd is its drawing and its ceiling is dropped (R38). -/
def islandLeave (d : Demand) : Demand := { d with settled := d.drawing, ceiling := none }

/-- Line fitness returns: the island timer stops, and island mode entered by its timer is left (R34, R38). -/
def State.leaveIsland (s : State) : State :=
  if s.sbu.island = some .timer then
    State.clearFlag
      { s with sbu := { s.sbu with
          demands := s.sbu.demands.map islandLeave
          island := none
          islandTimer := none } }
      .island
  else { s with sbu := { s.sbu with islandTimer := none } }

end Sys2Proof.Machine
end

