-- ==== Sys2Proof/Machine/Channels.lean ====
section
/-! DEFINITION. The Load Channel Unit (Chapter 3): requested and effective levels, fades, the tick cut, SET and SCENE,
trips and lockout. -/

namespace Sys2Proof.Machine

open Sys2Proof

/-! ### Levels (Sections 3.2, 3.3) -/

/-- The requested level a SET's level field gives (R45). -/
def deriveLevel (c : ChannelCfg) (level : Nat) : Nat :=
  if level = 0 then 0
  else
    match c.kind with
    | .switched => 256
    | .dimmed => max c.lmin (min level 256)

/-- The amount an entry of the channel wants at a requested level: R when SWITCHED, ceil(R × Lreq / 256) when DIMMED
(R46, Table 2-2). -/
def channelWant (c : ChannelCfg) (lreq : Nat) : Nat :=
  match c.kind with
  | .switched => c.rating
  | .dimmed => (c.rating * lreq + 255) / 256

/-- The level a drawing supports on a channel with R above 0 (R48, R53): floor(a × 256 / R), 0 without an entry. -/
def supportedLevel (c : ChannelCfg) (drawing : Option Nat) : Nat :=
  match drawing with
  | some a => a * 256 / c.rating
  | none => 0

/-- The effective level from the requested level and the entry's drawing (R48, R49). -/
def effectiveLevel (c : ChannelCfg) (lreq : Nat) (drawing : Option Nat) : Nat :=
  if c.rating = 0 then lreq
  else
    match c.kind with
    | .switched => if drawing = some c.rating then 256 else 0
    | .dimmed =>
      if min lreq (supportedLevel c drawing) < c.lmin then 0 else min lreq (supportedLevel c drawing)

/-- The drawing of a channel's entry, where it has one. -/
def State.chanDrawing (s : State) (c : ChannelId) : Option Nat := (s.demandOf (.chan c)).map (·.drawing)

/-- The over-time of an output that is on has run for 100 ms in full (R55). -/
def overrun (now : Nat) (ch : Channel) : Bool :=
  decide (0 < ch.position) && elapsed ch.overTime Config.channelOverSpan now

/-- The output of a channel in service went off at this instant with a trip due, which overrules what put it off
(R59). -/
def tripOwed (now : Nat) (ch : Channel) : Bool := decide (ch.mark = .inService) && decide (ch.owedTrip = some now)

/-- A channel's output moved to a position: the inrush window opens when the output goes from off to on, and the
window and the over-time end when it goes off (R54, R55). A trip that was due at this instant is still taken (R59). -/
def moveTo (now pos : Nat) (ch : Channel) : Channel :=
  { ch with
    position := pos
    inrush := if pos = 0 then none else if ch.position = 0 then some (now + Config.inrushSpan) else ch.inrush
    overTime := if pos = 0 then none else ch.overTime
    owedTrip := if pos = 0 && overrun now ch then some now else ch.owedTrip }

/-- The output follows its Leff at once: a SWITCHED channel, and a DIMMED one whose fade rate is 0 (R49, R51). -/
def followsAtOnce (c : ChannelCfg) : Bool := c.kind = .switched || c.fade = 0

/-- The LCU recomputes a channel's Leff after a change of its requested level or its drawing (R50). -/
def State.refreshChannel (s : State) (c : ChannelId) : State :=
  s.onChannel c fun ch =>
    let leff := effectiveLevel s.cfg.channels[c] ch.lreq (s.chanDrawing c)
    if followsAtOnce s.cfg.channels[c] then moveTo s.now leff { ch with leff := leff }
    else { ch with leff := leff }

/-! ### SET and SCENE (Sections 3.2, 3.6) -/

/-- The demand entry brought into line with a requested level going from old to new (R46). -/
def State.alignEntry (s : State) (c : ChannelId) (old new : Nat) : State :=
  let k := s.cfg.channels[c]
  if k.rating = 0 then s
  else if new = 0 then s.removeEntry (.chan c)
  else if old = 0 then s.createEntry (.chan c) k.cls k.rank (channelWant k new)
  else s.changeEntry (.chan c) (channelWant k new)

/-- A channel in service or TRIPPED takes a SET's level; one LOCKED_OUT or UNFITTED ignores it (R44 to R47). -/
def State.applyLevel (s : State) (c : ChannelId) (level : Nat) : State :=
  let ch := s.lcu.channels[c]
  let new := deriveLevel s.cfg.channels[c] level
  match ch.mark with
  | .lockedOut => s
  | .unfitted => s
  | .inService =>
    if new = ch.lreq then s
    else ((s.onChannel c fun x => { x with lreq := new }).alignEntry c ch.lreq new).refreshChannel c
  | .tripped =>
    ((s.onChannel c fun x => { x with lreq := new, mark := .inService }).alignEntry c ch.lreq new).refreshChannel c

/-- The station takes SET and SCENE up: not in stand-down, TWIN not active, in QUIET or RUN (R44, R61, R64). -/
def State.takesLoads (s : State) : Bool := s.working && !s.suc.standDown && !s.active .twin

/-- A SET delivered to the LCU (R44). -/
def State.deliverSet (s : State) (channel level : Nat) : State :=
  if h : channel < 12 then (if s.takesLoads then s.applyLevel ⟨channel, h⟩ level else s) else s

/-- A SCENE delivered to the LCU: each pair as a SET, all at one instant (R61). -/
def State.deliverScene (s : State) (number : Nat) : State :=
  if h : number < 32 then
    if s.takesLoads then
      (s.cfg.scenes[number]).foldl (fun acc pair => acc.applyLevel pair.channel pair.level) s
    else s
  else s

/-! ### Fades and the tick cut (Section 3.4) -/

/-- The position one step of the fade rate takes a DIMMED channel to (R51). -/
def fadeStep (c : ChannelCfg) (pos leff : Nat) : Nat :=
  if pos < leff then
    if pos = 0 then min (max c.fade c.lmin) leff else min (pos + c.fade) leff
  else if leff < pos then
    if leff = 0 && decide (pos - c.fade < c.lmin) then 0 else max (pos - c.fade) leff
  else pos

/-- The fade beat on one channel (R51); one with fade rate 0 follows its Leff at once and takes no steps. -/
def State.beatChannel (s : State) (c : ChannelId) : State :=
  let k := s.cfg.channels[c]
  let ch := s.lcu.channels[c]
  if k.kind = .dimmed && k.fade ≠ 0 && ch.position ≠ ch.leff then
    s.onChannel c (moveTo s.now (fadeStep k ch.position ch.leff))
  else s

/-- The cut at a tick: a DIMMED position above the level its drawing supports becomes Leff at once (R53). R53 gives that
level only for R above 0 BU, and R63 says that every downward fade completes by the next own tick; a channel with R = 0
BU is not cut here and fades at its rate (DESIGN CHOICE, notes/assumptions/29.md). -/
def State.cutChannel (s : State) (c : ChannelId) : State :=
  let k := s.cfg.channels[c]
  let ch := s.lcu.channels[c]
  if k.kind = .dimmed && decide (0 < k.rating) && decide (supportedLevel k (s.chanDrawing c) < ch.position) then
    s.onChannel c (moveTo s.now ch.leff)
  else s

/-- The LCU's part of an own period tick on one channel: Leff follows the new drawing, then the cut (R50, R53). -/
def State.tickChannel (s : State) (c : ChannelId) : State := (s.refreshChannel c).cutChannel c

/-- The LCU's part of an own period tick. -/
def State.tickChannels (s : State) : State := allChannels.foldl State.tickChannel s

/-! ### Trips (Section 3.5) -/

/-- The trip threshold in force: twice the configured one while the inrush window is open (R54). The window is open until
its INRUSH_WINDOW_EXPIRY is taken, so a reading of that very instant that is taken first is compared with the double
threshold (DESIGN CHOICE, notes/assumptions/33.md). -/
def thresholdInForce (c : ChannelCfg) (ch : Channel) : Nat := if ch.inrush.isSome then 2 * c.trip else c.trip

/-- A channel compared with a reading while its output is on: the over-time starts or ends (R55). A reading taken before
the CHANNEL_TRIP of its instant may end an over-time that has run in full there (DESIGN CHOICE,
notes/assumptions/32.md). -/
def compareReading (now : Nat) (c : ChannelCfg) (ch : Channel) : Channel :=
  if ch.position = 0 then ch
  else if thresholdInForce c ch < ch.lastReading then { ch with overTime := some (ch.overTime.getD now) }
  else { ch with overTime := none }

/-- The output is cut by an overcurrent trip: position 0 with no fade, window and over-time ended, Lreq and Leff 0
(R56, R57); the trip has been taken. -/
def tripOutput (ch : Channel) : Channel :=
  { ch with lreq := 0, leff := 0, position := 0, inrush := none, overTime := none, owedTrip := none }

/-- A trip (R56): TRIPPED with a fresh 60 s trip memory; while the memory runs, a lockout (R57). CHANNEL_TRIP is taken
before CHANNEL_LOCKOUT (DESIGN CHOICE among the orders of R167, notes/assumptions/25.md). -/
def State.trip (s : State) (c : ChannelId) : State :=
  let ch := s.lcu.channels[c]
  let t := (s.removeEntry (.chan c)).raiseEvent .channelTrip
  if ch.tripMemory.isSome then
    (t.onChannel c fun x => { tripOutput x with mark := .lockedOut, tripMemory := none }).raiseCond .channelLockout
  else
    t.onChannel c fun x => { tripOutput x with mark := .tripped, tripMemory := some (s.now + Config.tripMemorySpan) }

/-- A channel's status (R43, Table 3-2). -/
inductive ChannelState where
  | off | on | shed | tripped | lockedOut | unfitted
  deriving DecidableEq, Repr

/-- The status that the mark and the levels give (R43). -/
def channelState (ch : Channel) : ChannelState :=
  match ch.mark with
  | .tripped => .tripped
  | .lockedOut => .lockedOut
  | .unfitted => .unfitted
  | .inService => if ch.lreq = 0 then .off else if ch.leff = ch.lreq then .on else .shed

/-- The announced form of a channel (Table 3-2). -/
def announcedChannel (ch : Channel) : ChannelStatus :=
  match channelState ch with
  | .off => { level := 0, status := .normal }
  | .on => { level := ch.leff, status := .normal }
  | .shed => { level := ch.leff, status := .shed }
  | .tripped => { level := 0, status := .tripped }
  | .lockedOut => { level := 0, status := .lockedOut }
  | .unfitted => { level := 0, status := .lockedOut }

end Sys2Proof.Machine
end

