-- ==== Sys2Proof/Machine/Claims.lean ====
section
/-! DEFINITION. The Zone Clearance Unit (Chapter 4): how a claim yields, resumes, is promoted and is released. -/

namespace Sys2Proof.Machine

open Sys2Proof

/-- A listening intent may be promoted: its window has run out, no zone of its set is occupied, and line fitness
holds (R75, R76). Obstacles are judged before this. -/
def State.promotable (s : State) (m : MoverId) (start : Nat) : Bool :=
  decide (start + s.cfg.listenWindow ≤ s.now) && !s.zoneOccupied m && s.lineFit

/-- Where a claim goes when it is re-examined against the view: a listening intent yields (R73) or is promoted (R75),
a waiting one resumes (R74), the others stand. -/
def State.nextClaim (s : State) (m : MoverId) : Claim :=
  match s.claim m with
  | .unclaimed => .unclaimed
  | .held => .held
  | .waiting => if s.obstacle m then .waiting else .listening s.now
  | .listening start =>
    if s.obstacle m then .waiting else if s.promotable m start then .held else .listening start

/-- One claim re-examined. -/
def State.examineClaim (s : State) (m : MoverId) : State := s.setClaim m (s.nextClaim m)

/-- Both claims re-examined, mover 0 first: its key is the lower of the two (R69, R70). -/
def State.examineClaims (s : State) : State := (s.examineClaim 0).examineClaim 1

/-- A mover enters REQUESTING: its claim becomes INTENT, WAITING behind an obstacle and LISTENING otherwise (R72); the
own other claim then yields where the new intent has the lower key (R73). -/
def State.newIntent (s : State) (m : MoverId) : State :=
  (s.setClaim m (if s.obstacle m then .waiting else .listening s.now)).examineClaims

/-- A mover enters IDLE or FAULTED: its claim becomes NONE, and the own other claim sees it at once (R79). -/
def State.releaseClaim (s : State) (m : MoverId) : State := (s.setClaim m .unclaimed).examineClaims

/-- A HELD own claim meets a conflicting HELD claim of the record just filed (R80). -/
def State.clashes (s : State) (m : MoverId) (filed : List ClaimStatus) : Bool :=
  decide (s.claim m = .held) && filed.any fun c => c.held && zonesMeet (s.zonesOf m) c.zones

/-- Line fitness returns: each listening intent's window runs afresh from now (R76). -/
def State.restartWindow (s : State) (m : MoverId) : State :=
  match s.claim m with
  | .listening _ => s.setClaim m (.listening s.now)
  | .unclaimed => s
  | .waiting => s
  | .held => s

end Sys2Proof.Machine
end

