-- ==== Sys2Proof/Machine/Movers.lean ====
section
/-! DEFINITION. The Mover Unit (Chapters 5 and 6): entry into each phase, DRIVE handling, the checks that start and end
motion, faults and CLEAR, the windlass chain counter. -/

namespace Sys2Proof.Machine

open Sys2Proof

/-! ### Codes and kinds -/

/-- The refusal code a fault reason is recorded as (R107). -/
def FaultReason.refusal : FaultReason → RefusalCode
  | .halted => .halted
  | .lockJam => .lockJam
  | .travelTimeout => .travelTimeout
  | .overload => .overload
  | .pumpFault => .pumpFault
  | .clash => .clash
  | .stall => .stall

/-- The fault kind a reason names (R107); HALTED names none of its own. -/
def FaultReason.kind : FaultReason → Option FaultKind
  | .halted => none
  | .lockJam => some .lockJam
  | .travelTimeout => some .travelTimeout
  | .overload => some .overload
  | .pumpFault => some .pumpFault
  | .clash => some .clash
  | .stall => some .stall

/-- The code a motion that ends in IDLE leaves (R105, step 3). -/
def StopReason.endCode : StopReason → RefusalCode
  | .atEnd => .clear
  | .released => .released
  | .reversal => .released
  | .noSupply => .noSupply
  | .lineUnfit => .lineUnfit
  | .occupied => .occupied
  | .standby => .standby
  | .atLimit => .atLimit

/-! ### The conditions movers hold (R107, R108, R122) -/

/-- Some mover of the station is FAULTED with this reason. -/
def State.anyFaulted (s : State) (r : FaultReason) : Bool :=
  allMovers.any fun m =>
    match s.mover m with
    | some x => x.phase = .faulted && x.faultReason = some r
    | none => false

/-- Some POWER_FAULT input bound to a configured mover is active (R107, R108). -/
def State.anyPowerFault (s : State) : Bool :=
  allMovers.any fun m =>
    match s.mover m with
    | some _ => s.input (s.moverCfg m).powerFault
    | none => false

/-- Some WINDLASS that is not UNFITTED has a count that is not known (R122). -/
def State.anyCountUnknown (s : State) : Bool :=
  allMovers.any fun m =>
    match s.mover m with
    | some x => (s.moverCfg m).kind = .windlass && x.phase ≠ .unfitted && !x.known
    | none => false

/-- The MVU reports the condition a reason names as it now stands (R107). -/
def State.reportReason (s : State) (r : FaultReason) : State :=
  match r.kind with
  | none => s
  | some .pumpFault => s.reportCond .pumpFault (s.anyPowerFault || s.anyFaulted .pumpFault)
  | some k => s.reportCond k (s.anyFaulted r)

/-- The MVU reports COUNT_UNKNOWN as it now stands (R122). -/
def State.reportCount (s : State) : State := s.reportCond .countUnknown s.anyCountUnknown

/-! ### Entering a phase -/

/-- A mover's working fields with everything of a motion dropped (R107, R117). -/
def dropMotion (r : Mover) : Mover :=
  { r with
    driver := none
    direction := none
    lastDrive := none
    stopReason := none
    reversal := none
    timer := none
    overTime := none
    stallSpan := none }

/-- A mover enters RUNNING (R101): the travel timer of a HATCH or PLATFORM starts, there is no over-time and no stall
span. -/
def State.enterRunning (s : State) (m : MoverId) : State :=
  s.onMover m fun r =>
    { r with
      phase := .running
      stopReason := none
      reversal := none
      timer := if (s.moverCfg m).kind = .windlass then none else some (s.now + (s.moverCfg m).travel)
      overTime := none
      stallSpan := none }

/-- A mover enters UNLOCKING; where LOCK_OPEN is already active it enters RUNNING at that instant (R100). -/
def State.enterUnlocking (s : State) (m : MoverId) : State :=
  if s.input (s.moverCfg m).lockOpen then s.enterRunning m
  else s.onMover m fun r => { r with phase := .unlocking, timer := some (s.now + Config.lockSpan) }

/-- A REQUESTING mover leaves for motion when its standing is CLEARED, its entry is granted and line fitness holds: to
UNLOCKING if its lock is fitted and LOCK_CLOSED is active, to RUNNING otherwise (R97). -/
def State.proceed (s : State) (m : MoverId) : State :=
  if s.standing m = .cleared && s.granted m && s.lineFit then
    if (s.moverCfg m).lockFitted && s.input (s.moverCfg m).lockClosed then s.enterUnlocking m else s.enterRunning m
  else s

/-- The mover has come to the end of its present direction. -/
def State.atPresentEnd (s : State) (m : MoverId) (r : Mover) : Bool :=
  match r.direction with
  | some d => s.endReached m d
  | none => false

/-- A mover that is REQUESTING looks whether it may proceed, after its station's other claim has changed (R79, R97). One
that the event of the same instant abandons does not: the beginning of a stand-down (R116), or the end of its present
direction (R98). -/
def State.lookAgain (s : State) (m : MoverId) : State :=
  match s.mover m with
  | some r => if r.phase = .requesting ∧ s.suc.standDown = false ∧ s.atPresentEnd m r = false then s.proceed m else s
  | none => s

/-- A mover enters IDLE with a code: its entry is given up, then its claim is released, and the
station's other mover sees the release (R90, R79). -/
def State.enterIdle (s : State) (m : MoverId) (code : RefusalCode) : State :=
  (((s.onMover m fun r => { dropMotion r with phase := .idle, lastRefusal := code }).removeEntry
    (.mover m)).releaseClaim m).lookAgain (otherMover m)

/-- A mover enters FAULTED with a reason: every output drops, the entry and the claim go, the reason is recorded also
as the last refusal code, and the kind it names is reported (R107). -/
def State.enterFaulted (s : State) (m : MoverId) (reason : FaultReason) : State :=
  ((((s.onMover m fun r =>
      { dropMotion r with phase := .faulted, faultReason := some reason, lastRefusal := reason.refusal }).removeEntry
    (.mover m)).releaseClaim m).reportReason reason).lookAgain (otherMover m)

/-- A mover in motion enters FAULTED; any other stays as it is (R107, R109). -/
def State.faultInMotion (s : State) (m : MoverId) (reason : FaultReason) : State :=
  match s.mover m with
  | some r => if r.phase.inMotion then s.enterFaulted m reason else s
  | none => s

/-- A HALT fault becomes active: every mover in motion enters FAULTED with HALTED (R109). -/
def State.haltMovers (s : State) : State := allMovers.foldl (fun acc m => acc.faultInMotion m .halted) s

/-- The owner of a HALT condition reports it raised, and the FCL tells the MVU (R169). -/
def State.raiseHalt (s : State) (k : FaultKind) : State :=
  if s.active k then s else (s.raiseCond k).haltMovers

/-- A mover enters STOPPING with a reason and a reversal mark, and its dwell starts (R105). -/
def State.enterStopping (s : State) (m : MoverId) (reason : StopReason) (mark : Option Dir) : State :=
  s.onMover m fun r =>
    { r with
      phase := .stopping
      stopReason := some reason
      reversal := mark
      timer := some (s.now + (s.moverCfg m).stopDwell)
      overTime := none
      stallSpan := none }

/-- The code a mover's stop reason leaves at its end. -/
def endCodeOf (r : Mover) : RefusalCode :=
  match r.stopReason with
  | some x => x.endCode
  | none => .clear

/-- A mover enters LOCKING; where LOCK_CLOSED is already active it enters IDLE at that instant (R106). -/
def State.enterLocking (s : State) (m : MoverId) (code : RefusalCode) : State :=
  if s.input (s.moverCfg m).lockClosed then s.enterIdle m code
  else s.onMover m fun r => { r with phase := .locking, reversal := none, timer := some (s.now + Config.lockSpan) }

/-- A mover in IDLE takes a DIR: it enters REQUESTING, its entry is made, then its claim becomes INTENT (R93, R90). -/
def State.enterRequesting (s : State) (m : MoverId) (src : Nat) (d : Dir) : State :=
  (((s.onMover m fun r =>
      { r with
        phase := .requesting
        driver := some src
        direction := some d
        lastDrive := some s.now
        timer := some (s.now + Config.requestLimit)
        lastRefusal := .clear }).createEntry
    (.mover m) (s.moverCfg m).cls (s.moverCfg m).rank (s.moverCfg m).runRating).newIntent m).lookAgain (otherMover m)

/-! ### Starting and ending motion -/

/-- A mover acts on its claim's standing, its entry and line fitness: a REQUESTING mover may proceed (R97), an
UNLOCKING one whose standing has left CLEARED is abandoned (R100), a RUNNING one that stands OCCUPIED stops (R102). -/
def State.react (s : State) (m : MoverId) : State :=
  match s.mover m with
  | none => s
  | some r =>
    match r.phase with
    | .requesting => s.proceed m
    | .unlocking => if s.standing m = .cleared then s else s.enterIdle m .occupied
    | .running => if s.standing m = .occupied then s.enterStopping m .occupied none else s
    | .idle | .stopping | .locking | .faulted | .unfitted => s

/-- Both movers act on their standings, mover 0 first. -/
def State.reactAll (s : State) : State := (s.react 0).react 1

/-- The view, the occupancy or the fitness has changed: the claims are re-examined and the movers act (R71). -/
def State.reexamine (s : State) : State := s.examineClaims.reactAll

/-- A mover at a tick: a drawing below W is a grant loss, which abandons an UNLOCKING mover and stops a RUNNING one
(R29, R100, R102); a REQUESTING one may proceed (R97). -/
def State.tickMover (s : State) (m : MoverId) : State :=
  match s.mover m with
  | none => s
  | some r =>
    match r.phase with
    | .requesting => s.proceed m
    | .unlocking => if s.granted m then s else s.enterIdle m .noSupply
    | .running => if s.granted m then s else s.enterStopping m .noSupply none
    | .idle | .stopping | .locking | .faulted | .unfitted => s

/-- The end of the present direction is reached: a REQUESTING or UNLOCKING mover is abandoned with AT_LIMIT (R98,
R100), a RUNNING one stops with AT_END (R102). -/
def State.reachEnd (s : State) (m : MoverId) : State :=
  match s.mover m with
  | none => s
  | some r =>
    match r.phase with
    | .requesting => s.enterIdle m .atLimit
    | .unlocking => s.enterIdle m .atLimit
    | .running => s.enterStopping m .atEnd none
    | .idle | .stopping | .locking | .faulted | .unfitted => s

/-- Line fitness is lost: an UNLOCKING mover is abandoned and a RUNNING one stops, with LINE_UNFIT (R100, R102). -/
def State.fitnessStop (s : State) (m : MoverId) : State :=
  match s.mover m with
  | none => s
  | some r =>
    match r.phase with
    | .unlocking => s.enterIdle m .lineUnfit
    | .running => s.enterStopping m .lineUnfit none
    | .idle | .requesting | .stopping | .locking | .faulted | .unfitted => s

/-- The STANDBY input is asserted: a REQUESTING or UNLOCKING mover is abandoned and a RUNNING one stops, with STANDBY
(R116). -/
def State.standbyStop (s : State) (m : MoverId) : State :=
  match s.mover m with
  | none => s
  | some r =>
    match r.phase with
    | .requesting => s.enterIdle m .standby
    | .unlocking => s.enterIdle m .standby
    | .running => s.enterStopping m .standby none
    | .idle | .stopping | .locking | .faulted | .unfitted => s

/-! ### DRIVE (Section 5.3) -/

/-- A refusal at delivery: the code is recorded and DRIVE_REFUSED raised (R92). -/
def State.refuseDrive (s : State) (m : MoverId) (code : RefusalCode) : State :=
  (s.onMover m fun r => { r with lastRefusal := code }).raiseEvent .driveRefused

/-- The first code that refuses a DIR from IDLE (R93). -/
def State.dirRefusal (s : State) (m : MoverId) (d : Dir) : Option RefusalCode :=
  if !s.lineFit then some .lineUnfit
  else if s.suc.phase = .quiet then some .starting
  else if s.suc.standDown then some .standby
  else if s.haltActive then some .halted
  else if s.endReached m d then some .atLimit
  else none

/-- A release guard of this station is running on the mover (R95). -/
def guardedAgainst (r : Mover) (src : Nat) : Bool :=
  match r.releaseGuard with
  | some (g, _) => g = src
  | none => false

/-- A DIR from the driver of record changes the direction of a mover that has not begun to move; it is abandoned where
the new direction's end is already reached (Table 5-7). -/
def State.turnRequest (s : State) (m : MoverId) (d : Dir) : State :=
  let t := s.onMover m fun r => { r with direction := some d, lastDrive := some s.now }
  if s.endReached m d then t.enterIdle m .atLimit else t

/-- A DIR_A or DIR_B that has passed the checks of R91 (R93, R94, R111, R88). -/
def State.driveDir (s : State) (m : MoverId) (src : Nat) (d : Dir) : State :=
  match s.mover m with
  | none => s
  | some r =>
    match r.phase with
    | .idle =>
      if guardedAgainst r src then s
      else
        match s.dirRefusal m d with
        | some code => s.refuseDrive m code
        | none => s.enterRequesting m src d
    | .faulted => s.refuseDrive m .notCleared
    | .unfitted => s.refuseDrive m .notFitted
    | .requesting | .unlocking =>
      if r.driver ≠ some src then s.refuseDrive m .busy
      else if r.direction = some d then s.onMover m fun x => { x with lastDrive := some s.now }
      else s.turnRequest m d
    | .running =>
      if r.driver ≠ some src then s.refuseDrive m .busy
      else if r.direction = some d then s.onMover m fun x => { x with lastDrive := some s.now }
      else (s.enterStopping m .reversal (some d)).onMover m fun x => { x with lastDrive := some s.now }
    | .stopping =>
      if r.driver ≠ some src then s.refuseDrive m .busy
      else if r.direction = some d then s
      else s.onMover m fun x => { x with reversal := some d, lastDrive := some s.now }
    | .locking => if r.driver ≠ some src then s.refuseDrive m .busy else s

/-- A STOP taken up sets a release guard for its sender, one hold-to-run timeout long (R95). -/
def State.setGuard (s : State) (m : MoverId) (src : Nat) : State :=
  s.onMover m fun r => { r with releaseGuard := some (src, s.now + (s.moverCfg m).holdTimeout) }

/-- A STOP that has passed the checks of R91 (Table 5-7, R93, R111, R88). -/
def State.driveStop (s : State) (m : MoverId) (src : Nat) : State :=
  match s.mover m with
  | none => s
  | some r =>
    match r.phase with
    | .idle => s
    | .faulted => s
    | .unfitted => s
    | .requesting | .unlocking =>
      if r.driver ≠ some src then s.refuseDrive m .busy else (s.setGuard m src).enterIdle m .released
    | .running =>
      if r.driver ≠ some src then s.refuseDrive m .busy else (s.setGuard m src).enterStopping m .released none
    | .stopping =>
      if r.driver ≠ some src then s.refuseDrive m .busy
      else (s.setGuard m src).onMover m fun x => { x with reversal := none }
    | .locking => if r.driver ≠ some src then s.refuseDrive m .busy else s

/-- The condition CLEAR needs for a fault reason (Table 5-9, R126). -/
def State.clearable (s : State) (m : MoverId) (r : Mover) : Bool :=
  match r.faultReason with
  | some .pumpFault => !s.input (s.moverCfg m).powerFault
  | some .overload => decide (r.lastSense ≤ (s.moverCfg m).overcurrent)
  | some .stall => decide (r.lastSense < (s.moverCfg m).chain.stallThreshold)
  | some .lockJam => true
  | some .travelTimeout => true
  | some .clash => true
  | some .halted => true
  | none => true

/-- A mover leaves FAULTED for IDLE; the kind its reason named then stands as R107 gives (R111). -/
def State.clearFault (s : State) (m : MoverId) (r : Mover) : State :=
  let t := s.onMover m fun x => { x with phase := .idle, faultReason := none, lastRefusal := .clear }
  match r.faultReason with
  | some reason => t.reportReason reason
  | none => t

/-- A CLEAR that has passed the checks of R91 (R111, R94, R93, R88). -/
def State.driveClear (s : State) (m : MoverId) : State :=
  match s.mover m with
  | none => s
  | some r =>
    match r.phase with
    | .faulted => if s.clearable m r then s.clearFault m r else s.refuseDrive m .notCleared
    | .unfitted => s.refuseDrive m .notFitted
    | .idle | .requesting | .unlocking | .running | .stopping | .locking => s

/-- A DRIVE delivered to the MVU: the index and source checks of R91, then its motion. -/
def State.deliverDrive (s : State) (src : Nat) (m : MoverId) (motion : Motion) : State :=
  match s.mover m with
  | none => s
  | some _ =>
    if src ∈ (s.moverCfg m).commandList then
      match motion with
      | .dirA => s.driveDir m src .dirA
      | .dirB => s.driveDir m src .dirB
      | .stop => s.driveStop m src
      | .clear => s.driveClear m
    else s.refuseDrive m .notPermitted

/-! ### Timers (Sections 5.3 to 5.7) -/

/-- The hold-to-run timer runs out (R96). -/
def State.holdExpired (s : State) (m : MoverId) : State :=
  match s.mover m with
  | none => s
  | some r =>
    match r.phase with
    | .requesting => s.enterIdle m .released
    | .unlocking => s.enterIdle m .released
    | .running => s.enterStopping m .released none
    | .stopping => s.onMover m fun x => { x with reversal := none }
    | .idle | .locking | .faulted | .unfitted => s

/-- The code of a request refused by its time limit, judged at that instant (R99). -/
def State.limitCode (s : State) (m : MoverId) : RefusalCode :=
  match s.standing m with
  | .blocked => .blocked
  | .occupied => .occupied
  | .cleared => if s.granted m then .lineUnfit else .noSupply
  | .absent => .blocked

/-- The first code the fresh check of a marked reversal fails with (R105, step 1). -/
def State.reversalRefusal (s : State) (m : MoverId) (d : Dir) : Option StopReason :=
  if s.suc.standDown then some .standby
  else if !s.lineFit then some .lineUnfit
  else if s.standing m ≠ .cleared then some .occupied
  else if !s.granted m then some .noSupply
  else if s.endReached m d then some .atLimit
  else none

/-- The rest of the stop dwell's end, with no reversal: LOCKING where the lock is fitted and END_B is active, IDLE
otherwise (R105, steps 2 and 3). -/
def State.comeToRest (s : State) (m : MoverId) (reason : StopReason) : State :=
  if (s.moverCfg m).lockFitted && s.input (s.moverCfg m).endB then
    (s.onMover m fun r => { r with stopReason := some reason }).enterLocking m reason.endCode
  else s.enterIdle m reason.endCode

/-- The stop dwell runs out (R105). -/
def State.dwellOver (s : State) (m : MoverId) (r : Mover) : State :=
  match r.reversal with
  | some d =>
    match s.reversalRefusal m d with
    | some reason => s.comeToRest m reason
    | none => (s.onMover m fun x => { x with direction := some d }).enterRunning m
  | none => s.comeToRest m (r.stopReason.getD .released)

/-! ### The chain counter (Chapter 6) -/

/-- The amount a pulse counts, by phase and direction (Table 6-3), clamped to 0-4095 (R120). -/
def countPulse (r : Mover) : Nat :=
  match r.phase, r.direction with
  | .running, some .dirB => r.count - 1
  | .stopping, some .dirB => r.count - 1
  | _, _ => min Config.chainMax (r.count + 1)

/-- A pulse at a WINDLASS: held while HOME is active (R121), counted otherwise; a running stall span restarts
(R125). -/
def State.pulse (s : State) (m : MoverId) : State :=
  let home := s.input (s.moverCfg m).home
  s.onMover m fun r =>
    { r with
      count := if home then 0 else countPulse r
      stallSpan := if r.stallSpan.isSome then some s.now else none }

/-- A mover whose present direction's end has come to be reached by the count (R123). -/
def State.countEnd (s : State) (m : MoverId) : State :=
  match s.mover m with
  | some r => if r.direction = some .dirA && s.endReached m .dirA then s.reachEnd m else s
  | none => s

/-- HOME is active: the count is 0 and known (R121). -/
def State.atHome (s : State) (m : MoverId) : State := s.onMover m fun r => { r with count := 0, known := true }

/-- The rode length: floor(count × pitch / 100), in 0.1 m (R128). -/
def rodeLength (c : MoverCfg) (count : Nat) : Nat := count * c.chain.pitch / 100

/-- The position summary (R115, R128). -/
def State.summary (s : State) (m : MoverId) : Summary :=
  let c := s.moverCfg m
  match s.mover m with
  | none => .unknown
  | some r =>
    match c.kind with
    | .windlass =>
      if r.phase = .unfitted then .unknown
      else if s.input c.home then .atBEnd
      else if r.known then .between
      else .unknown
    | _ =>
      if r.phase = .unfitted then .unknown
      else if s.input c.endA && s.input c.endB then .unknown
      else if s.input c.endA then .atAEnd
      else if s.input c.endB then .atBEnd
      else .between

/-! ### Current (R103, R125) -/

/-- A mover takes a reading: the last sense reading follows it in any phase; in RUNNING the over-time and, for a
WINDLASS, the stall span start or end by it (R103, R125, R126). A reading taken before the OVERLOAD or the STALL of its
instant may end a span that has run in full there (DESIGN CHOICE, notes/assumptions/32.md). -/
def State.moverReading (s : State) (m : MoverId) (reading : Nat) : State :=
  let c := s.moverCfg m
  s.onMover m fun r =>
    if r.phase = .running then
      { r with
        lastSense := reading
        overTime := if c.overcurrent < reading then some (r.overTime.getD s.now) else none
        stallSpan :=
          if c.kind = .windlass && decide (c.chain.stallThreshold ≤ reading) then some (r.stallSpan.getD s.now)
          else none }
    else { r with lastSense := reading }

end Sys2Proof.Machine
end

