-- ==== Sys2Proof/Machine/Formats.lean ====
section
/-! DEFINITION. The byte layouts of frames (R163, Tables 8-4 to 8-8) and the CRC-16: reading a frame's bytes, total
on any bytes, and writing the bytes of a frame. Fields are read with arithmetic on the byte values. -/

namespace Sys2Proof.Machine

open Sys2Proof

/-! ### CRC-16 (R163) -/

/-- One bit of the CRC register: generator x^16 + x^12 + x^5 + 1, most significant bit first. -/
def crcBit (c : Nat) : Nat := if c < 32768 then 2 * c else Nat.xor (2 * c % 65536) 4129

/-- k bits of the CRC register. -/
def crcBits : Nat → Nat → Nat
  | 0, c => c
  | k + 1, c => crcBits k (crcBit c)

/-- One byte taken into the CRC register. -/
def crcByte (c : Nat) (b : Byte) : Nat := crcBits 8 (Nat.xor c (b.toNat * 256))

/-- The register after a list of bytes. The register is taken apart before each next byte, which changes no value
and lets the kernel evaluate long lists. -/
def crcOver : List Byte → Nat → Nat
  | [], c => c
  | b :: rest, c =>
    match crcByte c b with
    | 0 => crcOver rest 0
    | n + 1 => crcOver rest (n + 1)

/-- The CRC-16: the register starts at all ones, and the result is not inverted (R163). -/
def crc16 (l : List Byte) : Nat := crcOver l 65535

/-! ### Bytes and words -/

/-- Byte i of a list, 0 past its end. -/
def byteAt (l : List Byte) (i : Nat) : Nat := (l.getD i 0#8).toNat

/-- The two-byte field at i, most significant byte first (R163). -/
def wordAt (l : List Byte) (i : Nat) : Nat := byteAt l i * 256 + byteAt l (i + 1)

/-- A byte of a value. -/
def byteOf (n : Nat) : Byte := BitVec.ofNat 8 n

/-- A two-byte field, most significant byte first (R163). -/
def word (n : Nat) : List Byte := [byteOf (n / 256), byteOf n]

/-- A flag's bit as a number. -/
def bit (b : Bool) : Nat := if b then 1 else 0

/-- A station number (R1). -/
def stationNumber (n : Nat) : Bool := decide (1 ≤ n) && decide (n ≤ 48)

/-! ### Codes (Tables 8-6 to 8-8) -/

/-- The period code. -/
def periodCode : Period → Nat
  | .ms50 => 0 | .ms100 => 1 | .ms200 => 2

/-- The period a code names; 3 is not allowed and is refused before this is read. -/
def periodOf (n : Nat) : Period := if n = 0 then .ms50 else if n = 1 then .ms100 else .ms200

/-- The code of an announced channel status. -/
def AnnouncedStatus.code : AnnouncedStatus → Nat
  | .normal => 0 | .shed => 1 | .tripped => 2 | .lockedOut => 3

/-- The announced channel status of a code. -/
def announcedOf (n : Nat) : AnnouncedStatus :=
  if n = 0 then .normal else if n = 1 then .shed else if n = 2 then .tripped else .lockedOut

/-- The severity of a code. -/
def severityOf (n : Nat) : Severity :=
  if n = 0 then .clear else if n = 1 then .notice else if n = 2 then .degraded else .halt

/-- The code of a mover kind in an ANNOUNCE. -/
def moverKindCode : MoverKind → Nat
  | .hatch => 0 | .platform => 1 | .windlass => 2

/-- The mover kind of a code; 3 is not allowed and is refused before this is read. -/
def moverKindOf (n : Nat) : MoverKind := if n = 0 then .hatch else if n = 1 then .platform else .windlass

/-- The code of a mover phase. -/
def MoverPhase.code : MoverPhase → Nat
  | .idle => 0 | .requesting => 1 | .unlocking => 2 | .running => 3
  | .stopping => 4 | .locking => 5 | .faulted => 6 | .unfitted => 7

/-- The mover phase of a code. -/
def phaseOf (n : Nat) : MoverPhase :=
  match n with
  | 0 => .idle | 1 => .requesting | 2 => .unlocking | 3 => .running
  | 4 => .stopping | 5 => .locking | 6 => .faulted | _ => .unfitted

/-- The code of a position summary. -/
def Summary.code : Summary → Nat
  | .atAEnd => 0 | .atBEnd => 1 | .between => 2 | .unknown => 3

/-- The position summary of a code. -/
def summaryOf (n : Nat) : Summary :=
  if n = 0 then .atAEnd else if n = 1 then .atBEnd else if n = 2 then .between else .unknown

/-- The code of a refusal code (Table 8-8). -/
def RefusalCode.code : RefusalCode → Nat
  | .clear => 0 | .notPermitted => 1 | .busy => 2 | .lineUnfit => 3 | .starting => 4 | .standby => 5 | .halted => 6
  | .atLimit => 7 | .blocked => 8 | .occupied => 9 | .noSupply => 10 | .released => 11 | .notCleared => 12
  | .notFitted => 13 | .lockJam => 14 | .travelTimeout => 15 | .overload => 16 | .pumpFault => 17 | .clash => 18
  | .stall => 19

/-- The code of a motion (Table 8-5). -/
def Motion.code : Motion → Nat
  | .stop => 0 | .dirA => 1 | .dirB => 2 | .clear => 3

/-- The motion of a code; above 3 is not allowed and is refused before this is read. -/
def motionOf (n : Nat) : Motion := if n = 0 then .stop else if n = 1 then .dirA else if n = 2 then .dirB else .clear

/-- The mover of an index 0 or 1. -/
def moverOf (n : Nat) : MoverId := if n = 0 then 0 else 1

/-! ### ANNOUNCE bodies (Tables 8-6, 8-7) -/

/-- The mover status entry at byte i. -/
def readMover (b : List Byte) (i : Nat) : MoverStatus :=
  { index := moverOf (byteAt b i / 128)
    kind := moverKindOf (byteAt b i / 32 % 4)
    phase := phaseOf (byteAt b i / 4 % 8)
    summary := summaryOf (byteAt b i % 4)
    detail := wordAt b (i + 1)
    refusal := byteAt b (i + 3) }

/-- The bytes of a mover status entry. -/
def writeMover (m : MoverStatus) : List Byte :=
  byteOf (m.index.val * 128 + moverKindCode m.kind * 32 + m.phase.code * 4 + m.summary.code) ::
    (word m.detail ++ [byteOf m.refusal])

/-- The zone claim entry at byte i. -/
def readClaim (b : List Byte) (i : Nat) : ClaimStatus :=
  { zones := BitVec.ofNat 16 (wordAt b i), held := decide (128 ≤ byteAt b (i + 2)), key := byteAt b (i + 2) % 128 }

/-- The bytes of a zone claim entry. -/
def writeClaim (c : ClaimStatus) : List Byte := word c.zones.toNat ++ [byteOf (bit c.held * 128 + c.key)]

/-- The number of mover status entries m (bytes 1-2, bits 15-14). -/
def moverEntries (b : List Byte) : Nat := wordAt b 1 / 16384

/-- The number of zone claim entries c (bytes 1-2, bits 13-12). -/
def claimEntries (b : List Byte) : Nat := wordAt b 1 / 4096 % 4

/-- The channel status entry of channel n. -/
def readChannel (b : List Byte) (n : Nat) : ChannelStatus :=
  { level := wordAt b (19 + 2 * n) % 512, status := announcedOf (wordAt b (19 + 2 * n) / 16384) }

/-- The mover status entries of a body. -/
def readMovers (b : List Byte) : List MoverStatus :=
  (List.range (moverEntries b)).map fun j => readMover b (49 + 4 * j)

/-- The zone claim entries of a body. -/
def readClaims (b : List Byte) : List ClaimStatus :=
  (List.range (claimEntries b)).map fun j => readClaim b (49 + 4 * moverEntries b + 3 * j)

/-- The fields of an ANNOUNCE body. -/
def readAnnounce (b : List Byte) : Announce :=
  { period := periodOf (byteAt b 0 / 64)
    profile := decide (byteAt b 0 / 32 % 2 = 1)
    starting := decide (byteAt b 0 / 16 % 2 = 1)
    standby := decide (byteAt b 0 / 8 % 2 = 1)
    drained := decide (byteAt b 0 / 4 % 2 = 1)
    island := decide (byteAt b 0 / 2 % 2 = 1)
    listenOnly := decide (byteAt b 0 % 2 = 1)
    islandCap := wordAt b 1 % 4096
    demand := #v[wordAt b 3, wordAt b 5, wordAt b 7, wordAt b 9, wordAt b 11, wordAt b 13, wordAt b 15, wordAt b 17]
    channels := #v[readChannel b 0, readChannel b 1, readChannel b 2, readChannel b 3, readChannel b 4,
      readChannel b 5, readChannel b 6, readChannel b 7, readChannel b 8, readChannel b 9, readChannel b 10,
      readChannel b 11]
    occupied := BitVec.ofNat 16 (wordAt b 43)
    severity := severityOf (byteAt b 45 / 64)
    leadKind := byteAt b 45 % 64
    firstKind := byteAt b 46
    firstTick := wordAt b 47
    movers := readMovers b
    claims := readClaims b }

/-- Two entries of a list of mover statuses carry the same index (R6). -/
def sameIndex : List MoverStatus → Bool
  | [x, y] => x.index = y.index
  | _ => false

/-- A claim entry within its ranges: a nonempty zone set, a key in 2-97 (R6). -/
def claimInRange (c : ClaimStatus) : Bool :=
  c.zones ≠ ZoneSet.empty && decide (2 ≤ c.key) && decide (c.key ≤ 97)

/-- An ANNOUNCE body that is not malformed: its length is that its counts require, no field holds a value that is not
allowed, and its contents lie within the ranges of Table 1-1 (R6, R161). -/
def announceOk (b : List Byte) : Bool :=
  decide (moverEntries b ≤ 2) && decide (claimEntries b ≤ 2) &&
  decide (b.length = 49 + 4 * moverEntries b + 3 * claimEntries b) &&
  decide (byteAt b 0 / 64 ≠ 3) &&
  (List.range 8).all (fun k => decide (wordAt b (3 + 2 * k) ≤ 4095)) &&
  (List.range 12).all (fun n => decide (wordAt b (19 + 2 * n) % 512 ≤ 256)) &&
  (List.range (moverEntries b)).all (fun j => decide (byteAt b (49 + 4 * j) / 32 % 4 ≠ 3)) &&
  !sameIndex (readMovers b) &&
  (readClaims b).all claimInRange

/-- An ANNOUNCE body read, none where it is malformed. -/
def parseAnnounce (b : List Byte) : Option Announce := if announceOk b then some (readAnnounce b) else none

/-- The two bytes of a channel status entry; bits 13-9 are sent as 0. -/
def writeChannel (c : ChannelStatus) : List Byte := word (c.status.code * 16384 + c.level)

/-- The bytes of an ANNOUNCE body (Table 8-6). -/
def writeAnnounce (a : Announce) : List Byte :=
  [byteOf (periodCode a.period * 64 + bit a.profile * 32 + bit a.starting * 16 + bit a.standby * 8 + bit a.drained * 4 +
    bit a.island * 2 + bit a.listenOnly)] ++
  word (a.movers.length * 16384 + a.claims.length * 4096 + a.islandCap) ++
  a.demand.toList.flatMap word ++
  a.channels.toList.flatMap writeChannel ++
  word a.occupied.toNat ++
  [byteOf (a.severity.code * 64 + a.leadKind), byteOf a.firstKind] ++
  word a.firstTick ++
  a.movers.flatMap writeMover ++
  a.claims.flatMap writeClaim

/-! ### Frames (Tables 8-4, 8-5) -/

/-- The kind code of a frame, which is also its place in the order of sending (R158). -/
def Frame.kindCode : Frame → Nat
  | .drive _ _ _ _ => 1
  | .announce _ _ => 2
  | .set _ _ _ _ => 3
  | .scene _ _ => 4
  | .forget _ _ => 5

/-- The source of a frame. -/
def Frame.source : Frame → Nat
  | .drive src _ _ _ => src
  | .announce src _ => src
  | .set src _ _ _ => src
  | .scene src _ => src
  | .forget src _ => src

/-- The body bytes of a frame. -/
def Frame.body : Frame → List Byte
  | .drive _ target mover motion => [byteOf target, byteOf mover.val, byteOf motion.code]
  | .announce _ a => writeAnnounce a
  | .set _ target channel level => byteOf target :: byteOf channel :: word level
  | .scene _ number => [byteOf number]
  | .forget _ target => [byteOf target]

/-- Header and body: what the CRC covers. -/
def Frame.covered (f : Frame) : List Byte :=
  byteOf f.kindCode :: byteOf f.source :: byteOf f.body.length :: f.body

/-- The bytes of a frame on the pair. -/
def encodeFrame (f : Frame) : List Byte := f.covered ++ word (crc16 f.covered)

/-- The CRC of a whole frame is good (R160). -/
def crcGood (frame : List Byte) : Bool :=
  decide (crc16 (frame.take (frame.length - 2)) = wordAt frame (frame.length - 2))

/-- The body of a frame: as many bytes as its length byte says. -/
def frameBody (frame : List Byte) : List Byte := (frame.drop 3).take (byteAt frame 2)

/-- The fields of a DRIVE, none where it is malformed (R161). -/
def parseDrive (src : Nat) (b : List Byte) : Option Frame :=
  if b.length = 3 && stationNumber (byteAt b 0) && decide (byteAt b 1 ≤ 1) && decide (byteAt b 2 ≤ 3) then
    some (.drive src (byteAt b 0) (moverOf (byteAt b 1)) (motionOf (byteAt b 2)))
  else none

/-- The fields of a SET, none where it is malformed (R161). -/
def parseSet (src : Nat) (b : List Byte) : Option Frame :=
  if b.length = 4 && stationNumber (byteAt b 0) then some (.set src (byteAt b 0) (byteAt b 1) (wordAt b 2)) else none

/-- The fields of a SCENE, none where it is malformed (R161). -/
def parseScene (src : Nat) (b : List Byte) : Option Frame :=
  if b.length = 1 && decide (byteAt b 0 ≤ 31) then some (.scene src (byteAt b 0)) else none

/-- The fields of a FORGET, none where it is malformed (R161). -/
def parseForget (src : Nat) (b : List Byte) : Option Frame :=
  if b.length = 1 && stationNumber (byteAt b 0) then some (.forget src (byteAt b 0)) else none

/-- A frame read from its bytes, none where it is malformed (R161, R6). -/
def parseFrame (frame : List Byte) : Option Frame :=
  if stationNumber (byteAt frame 1) then
    match byteAt frame 0 with
    | 1 => parseDrive (byteAt frame 1) (frameBody frame)
    | 2 => (parseAnnounce (frameBody frame)).map (Frame.announce (byteAt frame 1))
    | 3 => parseSet (byteAt frame 1) (frameBody frame)
    | 4 => parseScene (byteAt frame 1) (frameBody frame)
    | 5 => parseForget (byteAt frame 1) (frameBody frame)
    | _ => none
  else none

/-! ### Frames that can be sent -/

/-- A mover status entry within the widths of its fields. -/
def MoverStatus.wf (m : MoverStatus) : Bool := decide (m.detail < 65536) && decide (m.refusal < 256)

/-- An ANNOUNCE within the ranges of Table 1-1 and the widths of Table 8-6. -/
def Announce.wf (a : Announce) : Bool :=
  decide (a.islandCap ≤ 4095) && a.demand.toList.all (fun d => decide (d ≤ 4095)) &&
  a.channels.toList.all (fun c => decide (c.level ≤ 256)) &&
  decide (a.leadKind < 64) && decide (a.firstKind < 256) && decide (a.firstTick < 65536) &&
  decide (a.movers.length ≤ 2) && decide (a.claims.length ≤ 2) &&
  a.movers.all MoverStatus.wf && !sameIndex a.movers && a.claims.all claimInRange

/-- A frame whose fields hold values Section 8.7 allows. -/
def Frame.wf : Frame → Bool
  | .drive src target _ _ => stationNumber src && stationNumber target
  | .announce src a => stationNumber src && a.wf
  | .set src target channel level =>
    stationNumber src && stationNumber target && decide (channel < 256) && decide (level < 65536)
  | .scene src number => stationNumber src && decide (number ≤ 31)
  | .forget src target => stationNumber src && stationNumber target

end Sys2Proof.Machine
end

