-- ==== Sys2Proof/Machine/Image.lean ====
section
/-! DEFINITION. The configuration image (R163, Tables 8-9 to 8-17) and the judgement LOAD makes of it (R172): header,
CRC, directory, sections, field ranges, and the cross-checks of the supply budget, load channel, zone, mover, windlass
and field pin chapters. -/

namespace Sys2Proof.Machine

open Sys2Proof

/-! ### Defaults and ranges -/

/-- A field that lies in its range. -/
def inRange (v lo hi : Nat) : Bool := decide (lo ≤ v) && decide (v ≤ hi)

/-- A field that lies in its range or selects its default by holding all ones. -/
def inRangeOr (v lo hi ones : Nat) : Bool := v = ones || inRange v lo hi

/-- The value of a field with a default. -/
def orDefault (v ones dflt : Nat) : Nat := if v = ones then dflt else v

/-- A time held as its count of 10 ms, in ms. -/
def tenths (v ones dflt : Nat) : Nat := if v = ones then dflt else v * 10

/-- A class field. -/
def classOf (n : Nat) : Fin 8 := ⟨n % 8, by omega⟩

/-- A channel number. -/
def channelOf (n : Nat) : ChannelId := ⟨n % 12, by omega⟩

/-- The number of zones in a set. -/
def zoneCount (z : ZoneSet) : Nat := (allZones.filter fun i => z.getLsbD i.val).length

/-! ### Header and directory (Table 8-9, R172) -/

/-- Section codes. -/
def sectionCodes : List Nat := [1, 2, 3, 4, 5, 6, 7]

/-- The directory entry that names a section code, where exactly one does. -/
def entryOf (img : List Byte) (code : Nat) : Option Nat :=
  match (List.range 7).filter fun i => byteAt img (4 + 5 * i) = code with
  | [i] => some i
  | _ => none

/-- A section's offset. -/
def offsetOf (img : List Byte) (code : Nat) : Nat := wordAt img (5 + 5 * (entryOf img code).getD 0)

/-- A section's length. -/
def lengthOf (img : List Byte) (code : Nat) : Nat := wordAt img (7 + 5 * (entryOf img code).getD 0)

/-- A section's bytes. -/
def sectionOf (img : List Byte) (code : Nat) : List Byte := (img.drop (offsetOf img code)).take (lengthOf img code)

/-- The number of pairs in the scene table. -/
def pairTotal (sec : List Byte) : Nat := ((List.range 32).map (byteAt sec)).sum

/-- The length a section's layout requires (Tables 8-10 to 8-17). -/
def requiredLength (img : List Byte) (code : Nat) : Nat :=
  match code with
  | 1 => 36
  | 2 => 5
  | 3 => 96
  | 4 => 108
  | 5 => 68
  | 6 => 96
  | _ => 32 + 3 * pairTotal (sectionOf img 7)

/-- Two sections do not overlap. -/
def sectionsApart (img : List Byte) (a b : Nat) : Bool :=
  a = b || decide (offsetOf img a + lengthOf img a ≤ offsetOf img b) ||
    decide (offsetOf img b + lengthOf img b ≤ offsetOf img a)

/-- The bytes read: byte i of the memory from address 0, all ones past the end of what the memory holds; L of them
where the two length bytes give an L in 41-2048, none where they do not, since the reading then stops (R172). -/
def imageRead (memory : List Byte) : List Byte :=
  let l := (memory.getD 0 255#8).toNat * 256 + (memory.getD 1 255#8).toNat
  if inRange l 41 2048 then memory.take l ++ List.replicate (l - memory.length) 255#8 else []

/-- The header, directory and sections stand as R172 requires. -/
def frameOfImageOk (img : List Byte) : Bool :=
  decide (crc16 (img.take (img.length - 2)) = wordAt img (img.length - 2)) &&
  decide (byteAt img 2 = 1) && decide (byteAt img 3 = 7) &&
  sectionCodes.all (fun c => (entryOf img c).isSome) &&
  sectionCodes.all (fun c => decide (offsetOf img c + lengthOf img c ≤ img.length - 2)) &&
  sectionCodes.all (fun c => decide (39 ≤ offsetOf img c)) &&
  sectionCodes.all (fun a => sectionCodes.all fun b => sectionsApart img a b) &&
  sectionCodes.all (fun c => decide (lengthOf img c = requiredLength img c))

/-! ### Pins (Tables 8-12, 8-13, R133) -/

/-- The function of a code; codes above 22 are refused before this is read. -/
def pinFnOf (n : Nat) : PinFn :=
  match n with
  | 1 => .key | 2 => .endA | 3 => .endB | 4 => .lockOpen | 5 => .lockClosed | 6 => .gypsy | 7 => .home
  | 8 => .powerFault | 9 => .occupancy | 10 => .supply | 11 => .standby | 12 => .channelOut | 13 => .driveA
  | 14 => .driveB | 15 => .slow | 16 => .powerEnable | 17 => .lockRelease | 18 => .beacon | 19 => .keyIndicator
  | 20 => .alert | 21 => .peerAlert | 22 => .drained | _ => .unused

/-- The argument range of an output function that takes one (Table 7-2). -/
def argLimit : PinFn → Option Nat
  | .channelOut => some 11
  | .driveA | .driveB | .slow | .powerEnable | .lockRelease | .beacon => some 1
  | .keyIndicator => some 15
  | .unused | .key | .endA | .endB | .lockOpen | .lockClosed | .gypsy | .home | .powerFault | .occupancy | .supply
  | .standby | .alert | .peerAlert | .drained => none

/-- Pin p's entry. -/
def readPin (sec : List Byte) (p : Nat) : PinCfg :=
  let fn := pinFnOf (byteAt sec (3 * p))
  { fn := fn
    inverted := decide (128 ≤ byteAt sec (3 * p + 1))
    filtered := decide (byteAt sec (3 * p + 1) / 64 % 2 = 1)
    arg := if (argLimit fn).isSome then byteAt sec (3 * p + 2) else 0 }

/-- Pin p's entry is allowed (R133). -/
def pinOk (sec : List Byte) (p : Nat) : Bool :=
  decide (byteAt sec (3 * p) ≤ 22) &&
  match argLimit (pinFnOf (byteAt sec (3 * p))) with
  | some hi => decide (byteAt sec (3 * p + 2) ≤ hi)
  | none => true

/-- A consumer's binding byte: a pin, or none at 255 (Section 8.7). -/
def readBinding (b : Nat) : Option PinId := if h : b < 32 then some ⟨b, h⟩ else none

/-- A binding is allowed: unbound, or a pin 0-31 that carries the consumer's own function (R133). -/
def bindingOk (pins : List Byte) (fn : PinFn) (b : Nat) : Bool :=
  b = 255 || (decide (b ≤ 31) && decide ((readPin pins b).fn = fn))

/-! ### Station section (Table 8-10) -/

/-- The places of a list of station numbers that are not empty. -/
def readNumbers (sec : List Byte) (at' : Nat) : List Nat :=
  ((List.range 4).map fun i => byteAt sec (at' + i)).filter fun n => n ≠ 0

/-- Each place of a list of station numbers holds 0 or 1-48 (R87, R172). -/
def numbersOk (sec : List Byte) (at' : Nat) : Bool :=
  (List.range 4).all fun i => byteAt sec (at' + i) = 0 || stationNumber (byteAt sec (at' + i))

/-- The station section's fields lie in their ranges (R2, R19, R66, R165, R172, R133). -/
def stationOk (st pins : List Byte) : Bool :=
  decide (wordAt st 0 ≤ 9999) && decide (wordAt st 2 ≤ 9999) && decide (wordAt st 4 ≤ 9999) &&
  decide (wordAt st 6 ≤ 4095) &&
  inRangeOr (byteAt st 8) 10 200 255 && inRangeOr (wordAt st 9) 20 500 65535 &&
  inRangeOr (byteAt st 11) 0 2 255 && inRangeOr (byteAt st 12) 10 100 255 &&
  numbersOk st 13 &&
  inRangeOr (byteAt st 17) 0 3 255 &&
  (List.range 16).all (fun z => bindingOk pins .occupancy (byteAt st (18 + z))) &&
  bindingOk pins .supply (byteAt st 34) && bindingOk pins .standby (byteAt st 35) &&
  decide (wordAt st 4 ≤ min (wordAt st 0) (wordAt st 2))

/-! ### Ports section (Table 8-11) -/

/-- The fitness selection of a code. -/
def selectionOf (n : Nat) : FitSelection :=
  if n = 0 then .portA else if n = 1 then .portB else if n = 3 then .both else .either

/-- The dwell of a code: 2, 4, 8 or 16 ms, 4 ms by default. -/
def dwellOf (n : Nat) : Nat := if n = 0 then 2 else if n = 2 then 8 else if n = 3 then 16 else 4

/-- The ports section's fields. -/
def readPorts (sec : List Byte) : PortsCfg :=
  { eqFloor := orDefault (byteAt sec 0) 255 0
    eqMax := orDefault (byteAt sec 1) 255 15
    dwell := dwellOf (byteAt sec 2)
    errorThreshold := orDefault (byteAt sec 3) 255 4
    selection := selectionOf (byteAt sec 4) }

/-- The ports section's fields lie in their ranges (Table 8-2). -/
def portsOk (sec : List Byte) : Bool :=
  inRangeOr (byteAt sec 0) 0 15 255 && inRangeOr (byteAt sec 1) 0 15 255 &&
  decide ((readPorts sec).eqFloor ≤ (readPorts sec).eqMax) &&
  inRangeOr (byteAt sec 2) 0 3 255 && inRangeOr (byteAt sec 3) 1 15 255 && inRangeOr (byteAt sec 4) 0 3 255

/-! ### Channels section (Table 8-14) -/

/-- Channel n's configuration. -/
def readChannelCfg (sec : List Byte) (n : Nat) : ChannelCfg :=
  { kind := if byteAt sec (9 * n) = 1 then .dimmed else .switched
    rating := wordAt sec (9 * n + 1)
    cls := classOf (byteAt sec (9 * n + 3))
    rank := byteAt sec (9 * n + 4)
    lmin := byteAt sec (9 * n + 5)
    fade := byteAt sec (9 * n + 6)
    trip := wordAt sec (9 * n + 7) }

/-- Channel n's fields lie in the ranges of Table 3-1 (R41). -/
def channelOk (sec : List Byte) (n : Nat) : Bool :=
  decide (byteAt sec (9 * n) ≤ 1) && decide (wordAt sec (9 * n + 1) ≤ 400) && decide (byteAt sec (9 * n + 3) ≤ 7) &&
  decide (byteAt sec (9 * n + 4) ≤ 15) && decide (byteAt sec (9 * n + 5) ≤ 128) &&
  decide (byteAt sec (9 * n + 6) ≤ 64) && inRange (wordAt sec (9 * n + 7)) 1 400

/-! ### Movers section (Table 8-15) -/

/-- Mover slot m's bytes. -/
def moverBytes (sec : List Byte) (m : Nat) : List Byte := (sec.drop (34 * m)).take 34

/-- The lock is fitted: the byte holds 1, and the kind can have one (Table 5-1). -/
def lockOf (b : List Byte) : Bool := byteAt b 10 = 1 && byteAt b 0 ≠ 3

/-- A binding of a function Table 5-3 requires for the slot's kind and lock, or of POWER_FAULT, is used; any other is
not. The seven bindings stand in the order of Table 8-15. -/
def bindingUsed (b : List Byte) (i : Nat) : Bool :=
  match i with
  | 0 => byteAt b 0 ≠ 3
  | 1 => byteAt b 0 ≠ 3
  | 2 => lockOf b
  | 3 => lockOf b
  | 4 => byteAt b 0 = 3
  | 5 => byteAt b 0 = 3
  | _ => true

/-- The functions of the seven bindings, in order. -/
def bindingFn (i : Nat) : PinFn :=
  match i with
  | 0 => .endA | 1 => .endB | 2 => .lockOpen | 3 => .lockClosed | 4 => .gypsy | 5 => .home | _ => .powerFault

/-- Binding i of a slot, where it is used. -/
def moverBinding (b : List Byte) (i : Nat) : Option PinId :=
  if bindingUsed b i then readBinding (byteAt b (27 + i)) else none

/-- The chain configuration of a WINDLASS; a slot of another kind carries none (R118). -/
def readChain (b : List Byte) : ChainCfg :=
  if byteAt b 0 = 3 then
    { pitch := wordAt b 17
      slowCount := wordAt b 19
      maxCount := wordAt b 21
      stallThreshold := wordAt b 23
      stallTime := tenths (wordAt b 25) 65535 1500 }
  else {}

/-- A slot's configuration; none where it is unconfigured (R87). -/
def readMoverCfg (b : List Byte) : Option MoverCfg :=
  if byteAt b 0 = 0 then none
  else
    some
      { kind := if byteAt b 0 = 1 then .hatch else if byteAt b 0 = 2 then .platform else .windlass
        zones := BitVec.ofNat 16 (wordAt b 1)
        runRating := wordAt b 3
        cls := classOf (orDefault (byteAt b 5) 255 1)
        rank := orDefault (byteAt b 6) 255 0
        overcurrent := wordAt b 7
        travel := if byteAt b 0 = 3 then 0 else byteAt b 9 * 1000
        lockFitted := lockOf b
        stopDwell := tenths (byteAt b 11) 255 300
        holdTimeout := tenths (byteAt b 12) 255 350
        commandList := readNumbers b 13
        chain := readChain b
        endA := moverBinding b 0
        endB := moverBinding b 1
        lockOpen := moverBinding b 2
        lockClosed := moverBinding b 3
        gypsy := moverBinding b 4
        home := moverBinding b 5
        powerFault := moverBinding b 6 }

/-- The items of a HATCH or PLATFORM: travel time 1-120 s, lock yes, no or default (Table 5-1). -/
def travelOk (b : List Byte) : Bool := inRange (byteAt b 9) 1 120 && inRangeOr (byteAt b 10) 0 1 255

/-- The items of a WINDLASS: no lock fitted (R87), the chain configuration in the ranges of Table 6-1 with the
slow-zone count not above the maximum (R118). -/
def chainOk (b : List Byte) : Bool :=
  decide (byteAt b 10 ≠ 1) && inRange (wordAt b 17) 100 1000 && decide (wordAt b 19 ≤ 4095) &&
  inRange (wordAt b 21) 1 4095 && decide (wordAt b 19 ≤ wordAt b 21) && inRange (wordAt b 23) 1 2047 &&
  inRangeOr (wordAt b 25) 50 300 65535

/-- A slot's bytes are allowed: unconfigured, or every item its kind uses in its range (R66, R87, R118, R133). -/
def moverOk (pins b : List Byte) : Bool :=
  byteAt b 0 = 0 ||
  (decide (byteAt b 0 ≤ 3) && inRange (zoneCount (BitVec.ofNat 16 (wordAt b 1))) 1 4 &&
    decide (wordAt b 3 ≤ 4095) && inRangeOr (byteAt b 5) 0 7 255 && inRangeOr (byteAt b 6) 0 15 255 &&
    inRange (wordAt b 7) 1 2047 && inRangeOr (byteAt b 11) 10 200 255 && inRangeOr (byteAt b 12) 25 100 255 &&
    numbersOk b 13 &&
    (if byteAt b 0 = 3 then chainOk b else travelOk b) &&
    (List.range 7).all fun i => !bindingUsed b i || bindingOk pins (bindingFn i) (byteAt b (27 + i)))

/-! ### Keys section (Table 8-16) -/

/-- Key entry k's bytes. -/
def keyBytes (sec : List Byte) (k : Nat) : List Byte := (sec.drop (6 * k)).take 6

/-- Key entry's action with the operands Table 7-4 gives it. -/
def readAction (b : List Byte) : KeyAction :=
  match byteAt b 1 with
  | 1 => .setLevel (byteAt b 2) (channelOf (byteAt b 3)) (wordAt b 4)
  | 2 => .toggle (byteAt b 2) (channelOf (byteAt b 3)) (wordAt b 4)
  | 3 => .scene ⟨byteAt b 3 % 32, by omega⟩
  | 4 => .holdDrive (byteAt b 2) (moverOf (byteAt b 3)) (if wordAt b 4 = 1 then .dirA else .dirB)
  | 5 => .clear (byteAt b 2) (moverOf (byteAt b 3))
  | 6 => .forget (byteAt b 2)
  | _ => .nothing

/-- A key entry's configuration; one whose action is none uses none of its other bytes. -/
def readKey (b : List Byte) : KeyCfg :=
  if byteAt b 1 = 0 then {} else { pin := readBinding (byteAt b 0), action := readAction b }

/-- The items an action uses lie in their ranges (R138). -/
def actionOk (b : List Byte) : Bool :=
  match byteAt b 1 with
  | 1 => stationNumber (byteAt b 2) && decide (byteAt b 3 ≤ 11) && decide (wordAt b 4 ≤ 256)
  | 2 => stationNumber (byteAt b 2) && decide (byteAt b 3 ≤ 11) && inRange (wordAt b 4) 1 256
  | 3 => decide (byteAt b 3 ≤ 31)
  | 4 => stationNumber (byteAt b 2) && decide (byteAt b 3 ≤ 1) && inRange (wordAt b 4) 1 2
  | 5 => stationNumber (byteAt b 2) && decide (byteAt b 3 ≤ 1)
  | 6 => stationNumber (byteAt b 2)
  | _ => false

/-- A key entry is allowed: no action, or an action of Table 7-5 with its items in range and its pin a KEY pin or
unbound (R138, R133). -/
def keyOk (pins b : List Byte) : Bool :=
  byteAt b 1 = 0 || (actionOk b && bindingOk pins .key (byteAt b 0))

/-! ### Scenes section (Table 8-17) -/

/-- The place of scene n's first pair: after the 32 counts and the pairs of the scenes before it. -/
def pairStart (sec : List Byte) (n : Nat) : Nat := 32 + 3 * ((List.range n).map (byteAt sec)).sum

/-- Scene n's channel numbers. -/
def sceneChannels (sec : List Byte) (n : Nat) : List Nat :=
  (List.range (byteAt sec n)).map fun j => byteAt sec (pairStart sec n + 3 * j)

/-- Scene n's levels. -/
def sceneLevels (sec : List Byte) (n : Nat) : List Nat :=
  (List.range (byteAt sec n)).map fun j => wordAt sec (pairStart sec n + 3 * j + 1)

/-- Scene n's pairs. -/
def readScene (sec : List Byte) (n : Nat) : List ScenePair :=
  ((sceneChannels sec n).zip (sceneLevels sec n)).map fun q => { channel := channelOf q.1, level := q.2 }

/-- A list names nothing twice. -/
def noRepeat : List Nat → Bool
  | [] => true
  | n :: rest => !rest.contains n && noRepeat rest

/-- Scene n is allowed: at most 12 pairs, channels 0-11 each named once, levels 0-256 (R60). -/
def sceneOk (sec : List Byte) (n : Nat) : Bool :=
  decide (byteAt sec n ≤ 12) && (sceneChannels sec n).all (fun c => decide (c ≤ 11)) &&
  (sceneLevels sec n).all (fun l => decide (l ≤ 256)) && noRepeat (sceneChannels sec n)

/-! ### The image as a whole -/

/-- The ratings of the class-0 channels and movers together (R19). -/
def essentialTotal (channels movers : List Byte) : Nat :=
  ((List.range 12).map fun n =>
      if byteAt channels (9 * n + 3) = 0 then wordAt channels (9 * n + 1) else 0).sum +
  ((List.range 2).map fun m =>
      if byteAt (moverBytes movers m) 0 ≠ 0 && byteAt (moverBytes movers m) 5 = 0 then wordAt (moverBytes movers m) 3
      else 0).sum

/-- Every field lies in its range and every cross-check holds (R172). -/
def fieldsOk (img : List Byte) : Bool :=
  let pins := sectionOf img 3
  stationOk (sectionOf img 1) pins && portsOk (sectionOf img 2) &&
  (List.range 32).all (pinOk pins) &&
  (List.range 12).all (channelOk (sectionOf img 4)) &&
  (List.range 2).all (fun m => moverOk pins (moverBytes (sectionOf img 5) m)) &&
  (List.range 16).all (fun k => keyOk pins (keyBytes (sectionOf img 6) k)) &&
  (List.range 32).all (sceneOk (sectionOf img 7)) && decide (pairTotal (sectionOf img 7) ≤ 128) &&
  decide (essentialTotal (sectionOf img 4) (sectionOf img 5) ≤ 4095)

/-- The configuration an accepted image gives. -/
def readImage (img : List Byte) : Cfg :=
  let st := sectionOf img 1
  let pin := readPin (sectionOf img 3)
  let ch := readChannelCfg (sectionOf img 4)
  let key := fun k => readKey (keyBytes (sectionOf img 6) k)
  let sc := readScene (sectionOf img 7)
  let occ := fun z => readBinding (byteAt st (18 + z))
  { s0 := wordAt st 0
    s1 := wordAt st 2
    margin := wordAt st 4
    islandCap := wordAt st 6
    settle := tenths (byteAt st 8) 255 400
    islandDelay := tenths (wordAt st 9) 65535 1000
    period := periodOf (orDefault (byteAt st 11) 255 1)
    listenWindow := tenths (byteAt st 12) 255 300
    officers := readNumbers st 13
    reportNotice := decide (orDefault (byteAt st 17) 255 1 / 2 = 1)
    reportDegraded := decide (orDefault (byteAt st 17) 255 1 % 2 = 1)
    occupancy := #v[occ 0, occ 1, occ 2, occ 3, occ 4, occ 5, occ 6, occ 7, occ 8, occ 9, occ 10, occ 11, occ 12,
      occ 13, occ 14, occ 15]
    supply := readBinding (byteAt st 34)
    standby := readBinding (byteAt st 35)
    ports := readPorts (sectionOf img 2)
    pins := #v[pin 0, pin 1, pin 2, pin 3, pin 4, pin 5, pin 6, pin 7, pin 8, pin 9, pin 10, pin 11, pin 12, pin 13,
      pin 14, pin 15, pin 16, pin 17, pin 18, pin 19, pin 20, pin 21, pin 22, pin 23, pin 24, pin 25, pin 26, pin 27,
      pin 28, pin 29, pin 30, pin 31]
    channels := #v[ch 0, ch 1, ch 2, ch 3, ch 4, ch 5, ch 6, ch 7, ch 8, ch 9, ch 10, ch 11]
    movers := #v[readMoverCfg (moverBytes (sectionOf img 5) 0), readMoverCfg (moverBytes (sectionOf img 5) 1)]
    keys := #v[key 0, key 1, key 2, key 3, key 4, key 5, key 6, key 7, key 8, key 9, key 10, key 11, key 12, key 13,
      key 14, key 15]
    scenes := #v[sc 0, sc 1, sc 2, sc 3, sc 4, sc 5, sc 6, sc 7, sc 8, sc 9, sc 10, sc 11, sc 12, sc 13, sc 14, sc 15,
      sc 16, sc 17, sc 18, sc 19, sc 20, sc 21, sc 22, sc 23, sc 24, sc 25, sc 26, sc 27, sc 28, sc 29, sc 30,
      sc 31] }

/-- The judgement of LOAD: the configuration of an accepted image, none where it is refused (R172). -/
def judgeImage (memory : List Byte) : Option Cfg :=
  let img := imageRead memory
  if !img.isEmpty && frameOfImageOk img && fieldsOk img then some (readImage img) else none

end Sys2Proof.Machine
end

