-- ==== Sys2Proof/Machine/Compose.lean ====
section
/-! DEFINITION. The station's own ANNOUNCE: what each block supplies to it, its composition into the slot, and the
extra ANNOUNCE at a change of the announced claims (R82, R113, R157, R166, R167). -/

namespace Sys2Proof.Machine

open Sys2Proof

/-- A mover's entry of the mover status list (R113); the position detail is the rode length of a WINDLASS (R128). -/
def State.moverStatus (s : State) (m : MoverId) : Option MoverStatus :=
  match s.mover m with
  | none => none
  | some r =>
    some
      { index := m
        kind := (s.moverCfg m).kind
        phase := r.phase
        summary := s.summary m
        detail := if (s.moverCfg m).kind = .windlass then rodeLength (s.moverCfg m) r.count else 0
        refusal := r.lastRefusal.code }

/-- The twelve channel status entries, in channel order (R43). -/
def State.channelStatuses (s : State) : Vector ChannelStatus 12 :=
  let f := fun (c : ChannelId) => announcedChannel s.lcu.channels[c]
  #v[f 0, f 1, f 2, f 3, f 4, f 5, f 6, f 7, f 8, f 9, f 10, f 11]

/-- The station's state record as it stands: what an ANNOUNCE composed now carries. -/
def State.announceNow (s : State) : Announce :=
  { period := s.cfg.period
    profile := s.sbu.profile
    starting := s.running && decide (s.suc.runEntry = some s.now)
    standby := decide (s.standDownState ≠ .normal)
    drained := decide (s.standDownState = .drained)
    island := s.inIsland
    listenOnly := decide (s.suc.phase = .listenOnly)
    islandCap := s.cfg.islandCap
    demand := ownDemands s.sbu.demands
    channels := s.channelStatuses
    occupied := s.ownOccupied
    severity := worstSeverity s
    leadKind := match leadingKind s with | some k => k.code | none => 0
    firstKind := match s.fcl.firstFault with | some (k, _) => k.code | none => 0
    firstTick := match s.fcl.firstFault with | some (_, t) => t | none => 0
    movers := allMovers.filterMap s.moverStatus
    claims := s.announcedClaims }

/-- The LIU composes an ANNOUNCE (R157): permitted to transmit, it enters the slot in place of the one there, with its
offers (R30); at any other time it is discarded at composition. -/
def State.compose (s : State) : State :=
  if s.mayTransmit then
    { s with
      liu := { s.liu with
        slot := some { serial := s.liu.serial, frame := .announce s.number s.announceNow, queuedAt := s.now }
        serial := s.liu.serial + 1 }
      sbu := { s.sbu with offers := s.offersNow } }
  else s

/-- The end of a step that may have changed the claims: an extra ANNOUNCE is composed when the announced claims list
has changed; several changes at one instant give one ANNOUNCE (R82). -/
def announceChange (before after : State) : State :=
  if after.announcedClaims = before.announcedClaims then after else after.compose

end Sys2Proof.Machine
end

