-- ==== Sys2Proof/Machine/Line.lean ====
section
/-! DEFINITION. The Line Interface Unit and the peer table (Chapters 1 and 8): ports, line fitness, the transmit queue,
reception and delivery, peer records and their ageing, FORGET, TWIN. -/

namespace Sys2Proof.Machine

open Sys2Proof

/-! ### TWIN (R14, R15, R156) -/

/-- The transmit queue is emptied: the slot with its offers, and the FIFO (R15). -/
def State.emptyQueue (s : State) : State :=
  { s with
    liu := { s.liu with slot := none, fifo := [] }
    sbu := { s.sbu with offers := [] } }

/-- TWIN is raised, once until the next reset (R14): the queue is emptied, the movers are halted, and the SBU enters
island mode at once (R15, R34). TWIN and ISLAND become active at one instant and R167 lets either be taken first; TWIN
fills an empty first-fault record here (DESIGN CHOICE, notes/assumptions/25.md). -/
def State.raiseTwin (s : State) : State :=
  if s.active .twin then s else (s.emptyQueue.raiseHalt .twin).enterIsland .twin

/-! ### Line fitness (R154) -/

/-- Line fitness is lost: LINE_UNFIT is raised, movers stop (R100, R102), the island timer starts (R34). Listening
intents stay as they are (R76). -/
def State.loseFitness (s : State) : State :=
  let t := allMovers.foldl State.fitnessStop (s.raiseCond .lineUnfit)
  { t with sbu := { t.sbu with islandTimer := some (t.now + t.cfg.islandDelay) } }

/-- Line fitness returns: LINE_UNFIT clears, the island timer stops or island mode is left (R34, R38), listening intents
restart their windows (R76), and the movers look again (R97). -/
def State.regainFitness (s : State) : State :=
  (allMovers.foldl State.restartWindow (s.clearFlag .lineUnfit).leaveIsland).reactAll

/-- Line fitness judged after a change of a port, and at entry into RUN: a loss or a return in RUN; before RUN and in
LISTEN_ONLY a change is neither (R154). LINE_UNFIT stands from each loss to the next return. -/
def State.judgeFitness (s : State) : State :=
  if s.running then
    if s.lineFit then (if s.active .lineUnfit then s.regainFitness else s)
    else if s.active .lineUnfit then s else s.loseFitness
  else s

/-! ### Ports (R150 to R153) -/

/-- The PORT_DARK kind of a port. -/
def darkKind (p : PortId) : FaultKind := if p = 0 then .portDarkA else .portDarkB

/-- The PORT_UNFIT kind of a port. -/
def unfitKind (p : PortId) : FaultKind := if p = 0 then .portUnfitA else .portUnfitB

/-- PORT_DARK holds: the port is DARK with its carrier lost (R150). -/
def portDarkHolds (x : Port) : Bool := x.state = .dark && x.carrier.isNone

/-- PORT_UNFIT holds: the port is SEEKING or LOCKED with its was-fit mark set (R153). -/
def portUnfitHolds (x : Port) : Bool := (x.state = .seeking || x.state = .locked) && x.wasFit

/-- The LIU reports a port's conditions as they now stand. -/
def State.reportPort (s : State) (p : PortId) : State :=
  (s.reportCond (darkKind p) (portDarkHolds s.liu.ports[p])).reportCond (unfitKind p) (portUnfitHolds s.liu.ports[p])

/-- Port p changes state: its conditions are reported and line fitness is judged. The port's own kinds are reported
before LINE_UNFIT (DESIGN CHOICE among the orders of R167, notes/assumptions/25.md). -/
def State.movePort (s : State) (p : PortId) (f : Port → Port) : State := ((s.onPort p f).reportPort p).judgeFitness

/-- A port as it comes into operation: DARK at the floor, flags clear, counts 0, its carrier span starting (R151). R150
times the first link pulse from the last transition on the pair and does not say what that is before any has been seen;
here it is the instant the ports come into operation (DESIGN CHOICE, notes/assumptions/27.md). -/
def freshPort (cfg : Cfg) (now : Nat) : Port :=
  { state := .dark, eq := cfg.ports.eqFloor, carrier := some now, lastTransition := now }

/-- The ports come into operation (R151). -/
def State.startPorts (s : State) : State :=
  { s with liu := { s.liu with ports := Vector.replicate 2 (freshPort s.cfg s.now) } }

/-- The setting steps up by one, or returns to the floor from the maximum (R152). -/
def stepSetting (c : PortsCfg) (eq : Nat) : Nat := if eq < c.eqMax then eq + 1 else c.eqFloor

/-- SEEKING at the next setting, with a new dwell (R152, R153). R153 sets the count of consecutive good frames to 0 at
entry into LOCKED; here it is 0 from SEEKING on (DESIGN CHOICE, notes/assumptions/28.md). -/
def seekOn (cfg : Cfg) (now : Nat) (x : Port) : Port :=
  { x with
    state := .seeking
    eq := stepSetting cfg.ports x.eq
    dwell := some { start := now }
    good := 0
    errors := 0
    windowEnd := none }

/-- Entry into DARK at the loss of carrier: the flag and the mark are cleared and any attempt is abandoned (R150,
R152, R153, R159); an attempt abandoned drove the pair until now, which is then the last transition the next link pulse
waits 1 ms from (R150; DESIGN CHOICE, notes/assumptions/21.md). The count of consecutive good frames and the window's count, which R151 keeps and no rule gives in
DARK, are 0 (DESIGN CHOICE, notes/assumptions/28.md). -/
def goDark (now : Nat) (x : Port) : Port :=
  { x with
    state := .dark
    restartDone := false
    wasFit := false
    dwell := none
    good := 0
    errors := 0
    windowEnd := none
    carrier := none
    attempt := none
    lastTransition := if x.attempt.isSome then now else x.lastTransition }

/-- The first transition a DARK port sees from another station: SEEKING at the floor with a new dwell (R150, R152). -/
def wakePort (cfg : Cfg) (now : Nat) (x : Port) : Port :=
  { x with
    state := .seeking
    eq := cfg.ports.eqFloor
    dwell := some { start := now }
    carrier := some now
    lastTransition := now }

/-- A dwell that runs out (R152): it succeeds when a start symbol was decoded in it and the errors of its second half
are within the threshold; a first success makes the settling restart, a later one enters LOCKED. -/
def endDwell (cfg : Cfg) (now : Nat) (d : Dwell) (x : Port) : Port :=
  if d.decoded && decide (d.lateErrors ≤ cfg.ports.errorThreshold) then
    if x.restartDone then { x with state := .locked, dwell := none, good := 0 }
    else { x with restartDone := true, eq := cfg.ports.eqFloor, dwell := some { start := now } }
  else seekOn cfg now x

/-- A frame with a good CRC completes on a port: LOCKED counts it, and the eighth enters FIT (R153). -/
def countGood (now : Nat) (x : Port) : Port :=
  if x.state = .locked then
    if Config.goodFramesForFit ≤ x.good + 1 then
      { x with state := .fit, good := Config.goodFramesForFit, wasFit := true, errors := 0,
               windowEnd := some (now + Config.errorWindow) }
    else { x with good := x.good + 1 }
  else x

/-- A CRC error counts by the port's state: in a SEEKING dwell's second half (R152), against the run of good frames in
LOCKED, in the window in FIT, where exceeding the threshold returns the port to LOCKED (R153). -/
def countError (cfg : Cfg) (now : Nat) (x : Port) : Port :=
  match x.state with
  | .dark => x
  | .seeking =>
    match x.dwell with
    | some d =>
      if d.start + cfg.ports.dwell / 2 ≤ now then { x with dwell := some { d with lateErrors := d.lateErrors + 1 } }
      else x
    | none => x
  | .locked => { x with good := 0 }
  | .fit =>
    if cfg.ports.errorThreshold < x.errors + 1 then
      { x with state := .locked, good := 0, errors := 0, windowEnd := none }
    else { x with errors := x.errors + 1 }

/-- A transition from another station: the carrier span and the link-pulse interval start again (R150). -/
def seeTransition (now : Nat) (x : Port) : Port := { x with carrier := some now, lastTransition := now }

/-- A start symbol of another station decoded in the dwell in progress (R152). -/
def seeStart (x : Port) : Port := { x with dwell := x.dwell.map fun d => { d with decoded := true } }

/-- Port p receives: the ports operate, it is not DARK, and it is not itself sending (R150, R160). A start symbol that
comes while it sends is thus not decoded in its dwell (DESIGN CHOICE, notes/assumptions/34.md). -/
def State.hears (s : State) (p : PortId) : Bool :=
  s.portsOperate && decide ((s.liu.ports[p]).state ≠ .dark) && (s.liu.ports[p]).attempt.isNone

/-! ### The transmit queue (Section 8.5) -/

/-- A queued frame leaves at the first instant at which it has been sent on at least one port and on every port that is
not DARK (R158). -/
def departs (ports : Vector Port 2) (q : Queued) : Bool :=
  allPorts.any (fun p => q.sent[p]) && allPorts.all fun p => q.sent[p] || (ports[p]).state = .dark

/-- Departure from the queue is judged (R158). -/
def State.judgeDepartures (s : State) : State :=
  { s with liu := { s.liu with
      slot := s.liu.slot.filter fun q => !departs s.liu.ports q
      fifo := s.liu.fifo.filter fun q => !departs s.liu.ports q } }

/-- A DRIVE that has been queued for more than 200 ms, which is not started (R157, R159). -/
def tooOld (now : Nat) (q : Queued) : Bool :=
  q.frame.kindCode = 1 && decide (q.queuedAt + Config.driveAge < now)

/-- The queued frames port p may start: not yet sent on it, no DRIVE past its age; in the order of queueing within
each kind. -/
def State.candidates (s : State) (p : PortId) : List Queued :=
  (s.liu.slot.toList ++ s.liu.fifo).filter fun q => !q.sent[p] && !tooOld s.now q

/-- The frame port p takes: the one whose kind comes first, and the one queued earliest within that kind (R158). -/
def State.chooseFrame (s : State) (p : PortId) : Option Queued :=
  ([1, 2, 3, 4, 5] : List Nat).findSome? fun k => (s.candidates p).find? fun q => q.frame.kindCode = k

/-- A queue record changed, wherever in the queue it stands. -/
def State.onQueued (s : State) (serial : Nat) (f : Queued → Queued) : State :=
  let g := fun (q : Queued) => if q.serial = serial then f q else q
  { s with liu := { s.liu with slot := s.liu.slot.map g, fifo := s.liu.fifo.map g } }

/-- The queue record an attempt was taken from, while it is still queued. -/
def State.queuedOf (s : State) (serial : Nat) : Option Queued :=
  (s.liu.slot.toList ++ s.liu.fifo).find? fun q => q.serial = serial

/-- The slot holds this record. -/
def State.inSlot (s : State) (serial : Nat) : Bool :=
  match s.liu.slot with
  | some q => q.serial = serial
  | none => false

/-- An attempt ends on port p: the pair's last transition is now. -/
def endAttempt (now : Nat) (x : Port) : Port := { x with attempt := none, lastTransition := now }

/-- A frame is sent on port p: its sent mark is set and its mismatch mark ends (R156). -/
def markSent (p : PortId) (q : Queued) : Queued := { q with sent := q.sent.set p true, mismatch := q.mismatch.set p false }

/-- A frame has met its first mismatch on port p (R156). -/
def markMismatch (p : PortId) (q : Queued) : Queued := { q with mismatch := q.mismatch.set p true }

/-- The completion of a frame on port p (R156): its record, while queued, is sent on p; the first completion of the
slot's ANNOUNCE makes its offers pending (R31); departure is judged (R158). -/
def State.completeFrame (s : State) (p : PortId) (a : Attempt) : State :=
  let t := s.onPort p (endAttempt s.now)
  match s.queuedOf a.serial with
  | none => t
  | some q =>
    let u := t.onQueued a.serial (markSent p)
    (if s.inSlot a.serial && !allPorts.any (fun x => q.sent[x]) then u.takeOffers else u).judgeDepartures

/-- A mismatch after the arbitration field on port p (R156): a second one on the same port for the same frame raises
TWIN; a record no longer queued is not tried again (R159). -/
def State.mismatchFrame (s : State) (p : PortId) (a : Attempt) : State :=
  let t := s.onPort p (endAttempt s.now)
  match s.queuedOf a.serial with
  | none => t
  | some q => if q.mismatch[p] then t.raiseTwin else t.onQueued a.serial (markMismatch p)

/-- A command frame offered to the queue (R157): behind the frames already there; a full FIFO refuses it with
TXQ_FULL; while TWIN is active it is discarded (R15). -/
def State.offerFrame (s : State) (f : Frame) : State :=
  if s.active .twin then s
  else if Config.fifoDepth ≤ s.liu.fifo.length then s.raiseEvent .txqFull
  else
    { s with liu := { s.liu with
        fifo := s.liu.fifo ++ [{ serial := s.liu.serial, frame := f, queuedAt := s.now }]
        serial := s.liu.serial + 1 } }

/-- A queued DRIVE that has reached 200 ms (R159). -/
def driveDue (now : Nat) (q : Queued) : Bool :=
  q.frame.kindCode = 1 && decide (q.queuedAt + Config.driveAge ≤ now)

/-- The earliest queued DRIVE that has reached its age leaves the queue; DRIVE_STALE is raised if it was sent on no port
(R159). -/
def State.ageDrive (s : State) : State :=
  match s.liu.fifo.find? (driveDue s.now) with
  | none => s
  | some q =>
    let t := { s with liu := { s.liu with fifo := s.liu.fifo.filter fun x => x.serial ≠ q.serial } }
    if allPorts.any (fun p => q.sent[p]) then t else t.raiseEvent .driveStale

/-! ### Peer records (Chapter 1) -/

/-- The PTU reports PEER_ORPHANED as it now stands: active while at least one record is ORPHAN (R10). -/
def State.reportOrphans (s : State) : State :=
  s.reportCond .peerOrphaned (s.records.any fun r => r.status = .orphan)

/-- A clash on the claim of mover m with a claim of the record just filed faults the mover (R80, R110). -/
def State.judgeClash (filed : List ClaimStatus) (s : State) (m : MoverId) : State :=
  if s.clashes m filed then s.faultInMotion m .clash else s

/-- An ANNOUNCE is filed whole in slot i, LIVE, heard now (R5), with its effects on PEER_ORPHANED (R10), on the claims
and on the movers (R73 to R75, R78, R80). Of a clash and an occupied zone that one filing brings to an UNLOCKING mover
the clash is judged first (DESIGN CHOICE among the orders of R81, notes/assumptions/30.md). -/
def State.fileAnnounce (s : State) (i : SlotId) (a : Announce) : State :=
  let t := (s.setPeer i (some { status := .live, heard := s.now, ann := a })).reportOrphans
  (allMovers.foldl (State.judgeClash a.claims) t).reexamine

/-- An ANNOUNCE delivered to the PTU: the own number reveals a twin (R14), any other is filed (R5). -/
def State.deliverAnnounce (s : State) (src : Nat) (a : Announce) : State :=
  if s.suc.ownNumber = some src then s.raiseTwin
  else
    match slotOf src with
    | some i => s.fileAnnounce i a
    | none => s

/-- A FORGET delivered to the PTU (R11): obeyed from an officer for a number other than the own; the slot becomes
ABSENT, and its claims and zones leave the view (R84). -/
def State.deliverForget (s : State) (src target : Nat) : State :=
  if src ∈ s.cfg.officers ∧ s.suc.ownNumber ≠ some target then
    match slotOf target with
    | none => s
    | some i =>
      match s.ptu.peers[i] with
      | none => s
      | some _ => ((s.setPeer i none).reportOrphans).reexamine
  else s

/-- A record's status changed by ageing; its fields are not touched (R8). -/
def State.ageTo (s : State) (i : SlotId) (status : PeerStatus) : State :=
  (s.setPeer i ((s.ptu.peers[i]).map fun r => { r with status := status })).reportOrphans

/-- The instant a record has been silent for k of its own periods (R8). -/
def silentSince (r : PeerRec) (k : Nat) : Nat := r.heard + k * r.ann.period.ms

/-! ### Reception (Section 8.6) -/

/-- A frame delivered to the blocks (R162): a SET or DRIVE for another number is discarded. -/
def State.deliver (s : State) (f : Frame) : State :=
  match f with
  | .announce src a => s.deliverAnnounce src a
  | .scene _ number => s.deliverScene number
  | .forget src target => s.deliverForget src target
  | .set _ target channel level => if s.suc.ownNumber = some target then s.deliverSet channel level else s
  | .drive src target m motion => if s.suc.ownNumber = some target then s.deliverDrive src m motion else s

/-- A frame whose CRC fails: its port counts the error in the state it is in, and from entry into QUIET or LISTEN_ONLY
on CRC_ERROR is raised (R160), after the kinds of the port and of line fitness (DESIGN CHOICE among the orders of R167,
notes/assumptions/25.md). -/
def State.takeBadFrame (s : State) (p : PortId) : State :=
  let t := s.movePort p fun x => countError s.cfg s.now (seeTransition s.now x)
  if s.delivers then t.raiseEvent .crcError else t

/-- A frame whose CRC is good counts for its port's state (R160, R153). -/
def State.takeGoodFrame (s : State) (p : PortId) : State :=
  s.movePort p fun x => countGood s.now (seeTransition s.now x)

/-- A good frame checked and delivered, from entry into QUIET or LISTEN_ONLY on (R161, R162). -/
def State.checkAndDeliver (s : State) (frame : List Byte) : State :=
  if s.delivers then
    match parseFrame frame with
    | none => s.raiseEvent .malformed
    | some f => s.deliver f
  else s

/-- The frame is not that of another row: it is malformed, or the row's test holds of it. -/
def ofRow (mine : Frame → Bool) (frame : List Byte) : Bool :=
  match parseFrame frame with
  | none => true
  | some f => mine f

/-- A frame ends on port p (R160 to R162). A port that does not receive, bytes that are no whole frame, and a
well-formed frame of another row change nothing. -/
def State.receive (s : State) (p : PortId) (frame : List Byte) (mine : Frame → Bool) : State :=
  if s.hears p && frameWhole frame then
    if crcGood frame then
      if ofRow mine frame then announceChange s ((s.takeGoodFrame p).checkAndDeliver frame) else s
    else announceChange s (s.takeBadFrame p)
  else s

end Sys2Proof.Machine
end

