-- ==== Sys2Proof/Machine/Keys.lean ====
section
/-! DEFINITION. The Field Pin Router's inputs and the Key Table Unit (Chapter 7): delivered values, what each consumer
does at a change, presses and releases, hold-to-run keys. -/

namespace Sys2Proof.Machine

open Sys2Proof

/-! ### Inputs (R134, R135) -/

/-- An input function makes the pin an input (Table 7-2). -/
def PinFn.isInput : PinFn → Bool
  | .key | .endA | .endB | .lockOpen | .lockClosed | .gypsy | .home | .powerFault | .occupancy | .supply | .standby => true
  | .unused | .channelOut | .driveA | .driveB | .slow | .powerEnable | .lockRelease | .beacon | .keyIndicator
  | .alert | .peerAlert | .drained => false

/-- The phases in which the input pins are sampled: from the end of LOAD, but not in LISTEN_ONLY (R134, R137). -/
def State.sampling (s : State) : Bool := s.working || s.suc.phase = .calibrate

/-- A pin's delivered value becomes `active`: the pin has shown the level that stands for it (R134). -/
def State.deliverPin (s : State) (p : PinId) (active : Bool) : State :=
  s.onPin p fun _ => { level := active != (s.cfg.pins[p]).inverted, delivered := active, candidate := none }

/-- The delivered value of pin p, whose function is one of `fns`, changes to `active`. -/
def State.changes (s : State) (p : PinId) (active : Bool) (fns : List PinFn) : Bool :=
  s.sampling && decide ((s.cfg.pins[p]).fn ∈ fns) && (s.fpr.pins[p]).delivered != active

/-- A change of a delivered value, and what its consumers do with it (R134, R135). Where the value does not change
there is no event. -/
def State.onChange (s : State) (p : PinId) (active : Bool) (fns : List PinFn) (act : State → State) : State :=
  if s.changes p active fns then announceChange s (act (s.deliverPin p active)) else s

/-- The end switch of a direction (R102). -/
def switchOf (c : MoverCfg) : Dir → Option PinId
  | .dirA => c.endA
  | .dirB => c.endB

/-- An end switch on pin p becomes active at mover m: the end of its present direction may be reached (R98, R100,
R102). -/
def State.endSwitch (p : PinId) (s : State) (m : MoverId) : State :=
  match s.mover m with
  | none => s
  | some r =>
    match r.direction with
    | none => s
    | some d =>
      if (s.moverCfg m).kind ≠ .windlass ∧ switchOf (s.moverCfg m) d = some p then s.reachEnd m else s

/-- LOCK_OPEN on pin p becomes active at mover m: UNLOCKING goes to RUNNING (R100). -/
def State.lockOpened (p : PinId) (s : State) (m : MoverId) : State :=
  match s.mover m with
  | none => s
  | some r => if r.phase = .unlocking ∧ (s.moverCfg m).lockOpen = some p then s.enterRunning m else s

/-- LOCK_CLOSED on pin p becomes active at mover m: LOCKING goes to IDLE (R106). -/
def State.lockShut (p : PinId) (s : State) (m : MoverId) : State :=
  match s.mover m with
  | none => s
  | some r =>
    if r.phase = .locking ∧ (s.moverCfg m).lockClosed = some p then s.enterIdle m (endCodeOf r) else s

/-- HOME on pin p becomes active at windlass m: the count is 0 and known (R121), and a haul-in ends (R123). -/
def State.homed (p : PinId) (s : State) (m : MoverId) : State :=
  match s.mover m with
  | none => s
  | some r =>
    if (s.moverCfg m).kind = .windlass ∧ (s.moverCfg m).home = some p then
      if r.direction = some .dirB then (s.atHome m).reachEnd m else s.atHome m
    else s

/-- A gypsy pulse on pin p at windlass m (R119), which may reach the end of pay-out (R123). -/
def State.gypsy (p : PinId) (s : State) (m : MoverId) : State :=
  if (s.mover m).isSome ∧ (s.moverCfg m).kind = .windlass ∧ (s.moverCfg m).gypsy = some p then (s.pulse m).countEnd m
  else s

/-- POWER_FAULT on pin p becomes active at mover m: in motion, it enters FAULTED with PUMP_FAULT (R108). -/
def State.pumpFault (p : PinId) (s : State) (m : MoverId) : State :=
  if (s.moverCfg m).powerFault = some p then s.faultInMotion m .pumpFault else s

/-- A POWER_FAULT input becomes active: its movers are faulted, PUMP_FAULT is reported, and the HALT reaches the movers
not already FAULTED (R108, R109, R169). -/
def State.powerFailed (p : PinId) (s : State) : State :=
  let t := (allMovers.foldl (State.pumpFault p) s).reportReason .pumpFault
  if !s.haltActive && t.haltActive then t.haltMovers else t

/-- Stand-down begins (R175): the state leaves NORMAL, and movers are abandoned or stopped with STANDBY. -/
def State.beginStandDown (s : State) : State :=
  allMovers.foldl State.standbyStop { s with suc := { s.suc with standDown := true } }

/-! ### Keys (Sections 7.3, 7.4) -/

/-- A frame a key composes: delivered to the station's own blocks where it concerns them, then offered to the queue
(R140); the kinds of the delivery are taken before TXQ_FULL (among the orders of R167, notes/assumptions/25.md). -/
def State.emit (s : State) (f : Frame) : State := (s.deliver f).offerFrame f

/-- Key k is pressed now: in QUIET or RUN its pin is bound and it is not held (R139). -/
def State.canPress (s : State) (k : KeyId) : Bool :=
  s.working && (s.cfg.keys[k]).pin.isSome && !(s.ktu.keys[k]).held

/-- The Held field and the delivered value of the key's pin. -/
def State.hold (s : State) (k : KeyId) (active : Bool) : State :=
  let t := s.onKey k fun x => { x with held := active }
  match (s.cfg.keys[k]).pin with
  | some p => t.deliverPin p active
  | none => t

/-- A press of key k: the frames of `act` are composed once it is held. -/
def State.press (s : State) (k : KeyId) (act : State → State) : State :=
  if s.canPress k then announceChange s (act (s.hold k true)) else s

/-- The level a TOGGLE reads: from the own LCU, from the target's record, or 0 (R142). -/
def State.presentLevel (s : State) (target : Nat) (c : ChannelId) : Nat :=
  if s.suc.ownNumber = some target then (s.lcu.channels[c]).leff
  else
    match slotOf target with
    | none => 0
    | some i =>
      match s.ptu.peers[i] with
      | some r => (r.ann.channels[c]).level
      | none => 0

/-- Two HOLD_DRIVE entries contend: the same target station and the same mover (R144). -/
def contend : KeyAction → KeyAction → Bool
  | .holdDrive t m _, .holdDrive t' m' _ => t = t' && m = m'
  | _, _ => false

/-- Every contending entry that is DRIVING becomes SUPPRESSED and drops its next repeat (R144). -/
def State.suppress (k : KeyId) (s : State) (j : KeyId) : State :=
  if j ≠ k ∧ contend (s.cfg.keys[k]).action (s.cfg.keys[j]).action ∧ (s.ktu.keys[j]).standing = .driving then
    s.onKey j fun x => { x with standing := .suppressed, nextRepeat := none }
  else s

/-- The motion of a direction. -/
def motionOfDir : Dir → Motion
  | .dirA => .dirA
  | .dirB => .dirB

/-- A press of a HOLD_DRIVE entry (R143, R144). -/
def State.startHold (s : State) (k : KeyId) (target : Nat) (m : MoverId) (d : Dir) : State :=
  ((allKeys.foldl (State.suppress k) s).onKey k fun x =>
      { x with standing := .driving, nextRepeat := some (s.now + Config.repeatInterval) }).emit
    (.drive s.number target m (motionOfDir d))

/-- A repeat of a held DRIVING entry: the next one falls 100 ms on, and a further DRIVE is composed (R143). -/
def State.repeatHold (s : State) (k : KeyId) : State :=
  match (s.cfg.keys[k]).action, (s.ktu.keys[k]).nextRepeat with
  | .holdDrive target m d, some t =>
    (s.onKey k fun y => { y with nextRepeat := some (t + Config.repeatInterval) }).emit
      (.drive s.number target m (motionOfDir d))
  | _, _ => s

/-- A release of key k: a DRIVING entry composes its STOP; the drive standing becomes NONE (R143). -/
def State.releaseHold (s : State) (k : KeyId) : State :=
  let t := s.onKey k fun x => { x with standing := .idle, nextRepeat := none }
  match (s.cfg.keys[k]).action with
  | .holdDrive target m _ =>
    if (s.ktu.keys[k]).standing = .driving then t.emit (.drive s.number target m .stop) else t
  | _ => t

/-- A SCENE or FORGET key is acknowledged for 1000 ms from its press (R141). -/
def State.acknowledge (s : State) (k : KeyId) : State :=
  s.onKey k fun x => { x with ackUntil := some (s.now + Config.acknowledgeSpan) }

end Sys2Proof.Machine
end

