-- ==== Sys2Proof/Machine/Startup.lean ====
section
/-! DEFINITION. The Start-up Controller, the Current Sense Array's calibration and the own period tick (Chapters 7 and
10, R2): the phases from reset to RUN, LISTEN_ONLY, the two resets. -/

namespace Sys2Proof.Machine

open Sys2Proof

/-! ### The own period tick (R2) -/

/-- The SUPPLY pin as a tick finds it. The tick reads the delivered value and leaves the pin's conditioning alone, a
candidate change under way included (R17, R134). A tick from outside may carry another value, which the pin has then come
to deliver; the table has no other row for that change (notes/assumptions/16.md). -/
def State.settleSupply (s : State) (p : PinId) (supply : Bool) : State :=
  if (s.fpr.pins[p]).delivered = supply then s else s.deliverPin p supply

/-- The SUPPLY input as sampled: the value read where the input is bound, profile 0 otherwise (R17). -/
def State.sampleSupply (s : State) (supply : Bool) : State :=
  match s.cfg.supply with
  | some p =>
    let t := s.settleSupply p supply
    { t with sbu := { t.sbu with profile := supply } }
  | none => { s with sbu := { s.sbu with profile := false } }

/-- The blocks' part of a tick in QUIET and RUN: SUPPLY, grants and allocation (R17, R26, R28), the channels (R50,
R53), the movers (R29, R97). In LISTEN_ONLY there is nothing to compute (R39). -/
def State.tickBlocks (s : State) (supply : Bool) : State :=
  if s.working then allMovers.foldl State.tickMover (((s.sampleSupply supply).budgetTick).tickChannels) else s

/-- The next tick falls P after this one (R2). -/
def State.advanceTick (s : State) : State :=
  { s with suc := { s.suc with nextTick := some (s.suc.nextTick.getD s.now + s.cfg.period.ms) } }

/-- An own period tick: SUPPLY is sampled, grants are computed and allocated, the tick count advances, an ANNOUNCE is
composed. -/
def State.ownTick (s : State) (supply : Bool) : State := ((s.tickBlocks supply).advanceTick.countTick).compose

/-! ### LISTEN_ONLY (R174) -/

/-- Entry into LISTEN_ONLY with its HALT kind: nothing is configured, retained counts are discarded (R131), the ports
operate with their defaults, the fault is raised at the count held before the first tick (R167), which falls at this
instant. -/
def State.enterListenOnly (s : State) (kind : FaultKind) : State :=
  ((State.startPorts
      { s with
        cfg := Cfg.unconfigured
        suc := { s.suc with phase := .listenOnly, since := s.now, nextTick := some s.now }
        mvu := {} }).raiseHalt kind).ownTick false

/-! ### STRAP and LOAD (R171, R172) -/

/-- The strap value sampled: 1-48 becomes the own number and LOAD begins; any other is BAD_NUMBER (R1, R171). -/
def State.takeStraps (s : State) (v : Nat) : State :=
  if stationNumber v then
    { s with suc := { s.suc with ownNumber := some v, phase := .load, since := s.now } }
  else s.enterListenOnly .badNumber

/-- The count retained for a slot at the end of LOAD: kept only where the new image configures a WINDLASS (R131). -/
def keepRetained (cfg : Cfg) (retained : Vector (Option (Nat × Bool)) 2) (m : MoverId) : Option (Nat × Bool) :=
  match cfg.movers[m] with
  | some c => if c.kind = .windlass then retained[m] else none
  | none => none

/-- A pin at the first sample after LOAD: its delivered value is set from the level shown, with no filter delay and no
change event (R134). -/
def firstSample (cfg : Cfg) (levels : BitVec 32) (s : State) (p : PinId) : State :=
  s.onPin p fun _ =>
    { level := levels.getLsbD p.val
      delivered := PinFn.isInput (cfg.pins[p]).fn && (levels.getLsbD p.val != (cfg.pins[p]).inverted)
      candidate := none }

/-- The image is accepted: every block takes its configuration, the ports come into operation, the inputs take their
first sample, CALIBRATE begins (R172, R151, R134, R131). -/
def State.acceptImage (s : State) (cfg : Cfg) (levels : BitVec 32) : State :=
  allPins.foldl (firstSample cfg levels)
    (State.startPorts
      { s with
        cfg := cfg
        suc := { s.suc with phase := .calibrate, since := s.now, image := .valid }
        mvu := { s.mvu with
          retained := #v[keepRetained cfg s.mvu.retained 0, keepRetained cfg s.mvu.retained 1] } })

/-- The image is refused: image status INVALID, CONFIG_INVALID, LISTEN_ONLY (R172). -/
def State.refuseImage (s : State) : State :=
  State.enterListenOnly { s with suc := { s.suc with image := .invalid } } .configInvalid

/-! ### CALIBRATE (R42, R88, R146, R173) -/

/-- Some pin carries an output function with an argument. -/
def pinCarries (cfg : Cfg) (fn : PinFn) (arg : Nat) : Bool := cfg.pins.toList.any fun p => p.fn = fn && p.arg = arg

/-- A sense input is in use when its consumer is (R146). -/
def senseInUse (cfg : Cfg) (cs : SenseId) : Bool :=
  if cs.val < 12 then pinCarries cfg .channelOut cs.val
  else if cs.val = 12 then (cfg.movers[(0 : MoverId)]).isSome
  else (cfg.movers[(1 : MoverId)]).isSome

/-- The sense input of a channel (R41). -/
def senseOfChannel (c : ChannelId) : SenseId := ⟨c.val, by omega⟩

/-- The sense input of a mover (R87). -/
def senseOfMover (m : MoverId) : SenseId := ⟨12 + m.val, by omega⟩

/-- The offset of an input in use: the floored mean of its conversions, accepted from -50 to +50 and otherwise FAULTY;
an input not in use has none (R146). -/
def takeOffset (cfg : Cfg) (s : State) (cs : SenseId) : State :=
  s.onSense cs fun x =>
    if senseInUse cfg cs then
      { x with
        offset := some (x.sum / Config.offsetSamples)
        faulty := !(decide (-Config.offsetMax ≤ x.sum / Config.offsetSamples) &&
          decide (x.sum / Config.offsetSamples ≤ Config.offsetMax)) }
    else { x with offset := none, faulty := false }

/-- Sense input cs has been found FAULTY. -/
def State.senseFaulty (s : State) (cs : SenseId) : Bool := (s.csa.inputs[cs]).faulty

/-- A channel at the end of CALIBRATE: UNFITTED where no pin carries its output or its sense is FAULTY (R42). -/
def fitChannel (s : State) (c : ChannelId) : State :=
  if pinCarries s.cfg .channelOut c.val && !s.senseFaulty (senseOfChannel c) then s
  else s.onChannel c fun ch => { ch with mark := .unfitted }

/-- The field functions a mover's kind requires are bound (Table 5-3). -/
def moverBound (cfg : Cfg) (c : MoverCfg) (m : MoverId) : Bool :=
  pinCarries cfg .driveA m.val && pinCarries cfg .driveB m.val && pinCarries cfg .powerEnable m.val &&
  match c.kind with
  | .windlass => pinCarries cfg .slow m.val && c.gypsy.isSome && c.home.isSome
  | _ =>
    c.endA.isSome && c.endB.isSome &&
    (!c.lockFitted || (pinCarries cfg .lockRelease m.val && c.lockOpen.isSome && c.lockClosed.isSome))

/-- A mover record comes into force: IDLE, or UNFITTED where a required binding is missing or its sense is FAULTY
(R88, R117); a retained count comes with it (R131). -/
def State.newMover (s : State) (m : MoverId) (c : MoverCfg) : Mover :=
  { phase := if moverBound s.cfg c m && !s.senseFaulty (senseOfMover m) then .idle else .unfitted
    count := match s.mvu.retained[m] with | some r => r.1 | none => 0
    known := match s.mvu.retained[m] with | some r => r.2 | none => false }

/-- A mover slot at the end of CALIBRATE; HOME acts at once on a windlass whose HOME input is active (R121). -/
def fitMover (s : State) (m : MoverId) : State :=
  match s.cfg.movers[m] with
  | none => s
  | some c =>
    let t := { s with mvu := { s.mvu with movers := s.mvu.movers.set m (some (s.newMover m c)) } }
    if c.kind = .windlass ∧ s.input c.home then t.atHome m else t

/-- A key entry at entry into QUIET: held where its input is already active, without a press (R139). -/
def heldAtStart (s : State) (k : KeyId) : State := s.onKey k fun x => { x with held := s.input (s.cfg.keys[k]).pin }

/-- The offsets taken and the channels and movers marked (R146, R42, R88). -/
def State.fitAll (s : State) : State :=
  let t := allMovers.foldl fitMover (allChannels.foldl fitChannel (allSenses.foldl (takeOffset s.cfg) s))
  { t with mvu := { t.mvu with retained := Vector.replicate 2 none } }

/-- The conditions found at the end of CALIBRATE: SENSE_FAULT (R146), COUNT_UNKNOWN (R122), PUMP_FAULT (R117), taken in
this order (DESIGN CHOICE among the orders of R167, notes/assumptions/25.md). -/
def State.reportFitted (s : State) : State :=
  ((s.reportCond .senseFault (allSenses.any s.senseFaulty)).reportCount).reportReason .pumpFault

/-- QUIET is entered, with the first own period tick (R173, R2). -/
def State.enterQuiet (s : State) : State :=
  (State.ownTick
    (allKeys.foldl heldAtStart
      { s with suc := { s.suc with phase := .quiet, since := s.now, nextTick := some s.now } })
    (s.input s.cfg.supply))

/-! ### QUIET to RUN (R173, R154, R175) -/

/-- RUN is entered: line fitness is judged, a STANDBY input already active takes effect, and the first sendable
ANNOUNCE, marked STARTING, is composed. -/
def State.enterRun (s : State) : State :=
  let t := State.judgeFitness
    { s with suc := { s.suc with phase := .run, since := s.now, runEntry := some s.now } }
  (if t.input t.cfg.standby then t.beginStandDown else t).compose

/-! ### Resets (R130, R131, R171) -/

/-- The count a PIN RESET retains for a slot: that of a WINDLASS record in force, or one retained before and not yet
discarded or brought into force (R131). -/
def State.retain (s : State) (m : MoverId) : Option (Nat × Bool) :=
  match s.mover m with
  | some r => if (s.moverCfg m).kind = .windlass then some (r.count, r.known) else none
  | none => s.mvu.retained[m]

/-- What the outside puts on the pins and the sense inputs stands through a reset, and so do the commands waiting;
nothing else does. -/
def State.afterReset (s : State) : State :=
  { State.reset with
    pending := s.pending
    fpr := { State.reset.fpr with pins := s.fpr.pins.map fun x => { level := x.level } }
    csa := { inputs := s.csa.inputs.map fun x => { raw := x.raw } } }

/-- A PIN RESET (R131, R171). -/
def State.pinReset (s : State) : State :=
  { s.afterReset with mvu := { State.reset.mvu with retained := #v[s.retain 0, s.retain 1] } }

/-! ### Sense readings (R147) -/

/-- A reading: the raw value less the offset, raised to 0 and lowered to 2047 (R147). -/
def readingOf (raw offset : Int) : Nat := (max 0 (min Config.readingMax (raw - offset))).toNat

/-- A reading delivered to its consumer (R147). -/
def State.deliverReading (s : State) (cs : SenseId) (reading : Nat) : State :=
  if h : cs.val < 12 then
    s.onChannel ⟨cs.val, h⟩ fun ch =>
      compareReading s.now s.cfg.channels[cs.val] { ch with lastReading := reading }
  else if cs.val = 12 then s.moverReading 0 reading
  else s.moverReading 1 reading

/-- A conversion of a sense input: in CALIBRATE it counts toward the offset (R146), in QUIET and RUN it gives a reading
(R147); an input not in use or FAULTY gives none. -/
def State.convert (s : State) (cs : SenseId) (raw : Int) : State :=
  let t := s.onSense cs fun x => { x with raw := raw }
  if senseInUse s.cfg cs then
    if s.suc.phase = .calibrate then t.onSense cs fun x => { x with sum := x.sum + raw }
    else if s.working && !s.senseFaulty cs then
      match (s.csa.inputs[cs]).offset with
      | some o => t.deliverReading cs (readingOf raw o)
      | none => t
    else t
  else t

end Sys2Proof.Machine
end

