-- ==== Sys2Proof/Machine/Symbols.lean ====
section
/-! DEFINITION. The symbols of a pair (R149, Table 8-1): what a port sends for a frame and for a link pulse, what two
senders make of a pair, how a port's own symbols are compared with the pair (R155, R156), and what a receiver makes of
the bit times it sees (R149, R160). The commands carry the outcomes; `attemptCommand` and `heardCommand` say which
command an outcome is (notes/assumptions/21.md). -/

namespace Sys2Proof.Machine

open Sys2Proof

/-- The level of a pair in the two halves of a bit time; true is dominant. -/
structure BitTime where
  first : Bool
  second : Bool
  deriving DecidableEq, Repr

/-- The symbols of Table 8-1. -/
inductive Symbol where
  | start | arb0 | arb1 | data0 | data1 | collision | empty
  deriving DecidableEq, Repr

/-- The levels of a symbol's halves (Table 8-1). -/
def Symbol.halves : Symbol → BitTime
  | .start => { first := true, second := true }
  | .arb0 => { first := true, second := true }
  | .arb1 => { first := true, second := false }
  | .data0 => { first := true, second := false }
  | .data1 => { first := false, second := true }
  | .collision => { first := true, second := true }
  | .empty => { first := false, second := false }

/-! ### Sending -/

/-- The bits of a byte, bit 7 first (R163). -/
def bitsOf (b : Byte) : List Bool :=
  [b.getLsbD 7, b.getLsbD 6, b.getLsbD 5, b.getLsbD 4, b.getLsbD 3, b.getLsbD 2, b.getLsbD 1, b.getLsbD 0]

/-- A bit of the arbitration field in its code. -/
def arbSymbol (b : Bool) : Symbol := if b then .arb1 else .arb0

/-- A bit from the length byte on in its code. -/
def dataSymbol (b : Bool) : Symbol := if b then .data1 else .data0

/-- The arbitration field of a frame: the kind and the source, in the arbitration code. -/
def arbitration (frame : List Byte) : List Symbol := ((frame.take 2).flatMap bitsOf).map arbSymbol

/-- The rest of a frame, from the length byte to the CRC, in the data code. -/
def dataPart (frame : List Byte) : List Symbol := ((frame.drop 2).flatMap bitsOf).map dataSymbol

/-- The symbols a port sends for a frame; after the last of them it releases the pair (R149). -/
def frameSymbols (frame : List Byte) : List Symbol := .start :: (arbitration frame ++ dataPart frame)

/-- A link pulse: a start symbol followed by a bit time that is recessive throughout (R149). -/
def linkPulseSymbols : List Symbol := [.start, .empty]

/-- The pair has been recessive for the idle gap, its last 11 bit times, before a frame is started (R149). -/
def idleGapSeen (seen : List BitTime) : Bool :=
  decide (Config.idleGap ≤ seen.length) &&
    (seen.reverse.take Config.idleGap).all fun b => !b.first && !b.second

/-- What port p sends on its pair for the frame under way. -/
def State.sentSymbols (s : State) (p : PortId) : List Symbol :=
  match (s.liu.ports[p]).attempt with
  | some a => frameSymbols (encodeFrame a.frame)
  | none => if (s.liu.ports[p]).pulseAt = some s.now then linkPulseSymbols else []

/-! ### Two senders on a pair -/

/-- A dominant level from any sender overrides a recessive one (Section 8.1). -/
def overlay (a b : BitTime) : BitTime := { first := a.first || b.first, second := a.second || b.second }

/-- A half bit a port drives recessive is overridden by a dominant one: the one mismatch there can be (R155). -/
def overridden (sent seen : BitTime) : Bool := (!sent.first && seen.first) || (!sent.second && seen.second)

/-- How an attempt ends on a pair: it completes, or a mismatch stops it in the arbitration field or after it. -/
inductive AttemptEnd where
  | completed | lostArbitration | mismatched
  deriving DecidableEq, Repr

/-- The end of an attempt whose start symbol and arbitration field take up the first `left` bit times (R155, R156): the
port compares each half bit it sends with the pair and stops at the first mismatch. -/
def endOfAttempt : Nat → List BitTime → List BitTime → AttemptEnd
  | left, sent :: rest, seen :: later =>
    if overridden sent seen then (if left = 0 then .mismatched else .lostArbitration)
    else endOfAttempt (left - 1) rest later
  | _, _, _ => .completed

/-- The bit times of the start symbol and the arbitration field: one and sixteen (R149). -/
def arbitrationSpan : Nat := 17

/-- The command an attempt's end is. -/
def attemptCommand (p : PortId) : AttemptEnd → Instr
  | .completed => .frameCompletion p
  | .lostArbitration => .arbitrationLoss p
  | .mismatched => .echoMismatch p

/-! ### Receiving -/

/-- A bit read in the arbitration code, none where the bit time is no bit of it. -/
def arbBit (b : BitTime) : Option Bool := if b.first then some (!b.second) else none

/-- A bit read in the data code; a collision or an empty symbol is none (Table 8-1). -/
def dataBit (b : BitTime) : Option Bool := if b.first = b.second then none else some b.second

/-- The first n bits of a list of bit times in a code; none where one is missing or is no bit of the code. -/
def readBits (code : BitTime → Option Bool) : Nat → List BitTime → Option (List Bool)
  | 0, _ => some []
  | _ + 1, [] => none
  | n + 1, b :: rest =>
    match code b, readBits code n rest with
    | some x, some l => some (x :: l)
    | _, _ => none

/-- The value of bits, most significant first. -/
def bitsValue (l : List Bool) : Nat := l.foldl (fun n b => 2 * n + bit b) 0

/-- The first n bytes of a list of bits. -/
def bytesOfBits : Nat → List Bool → List Byte
  | 0, _ => []
  | n + 1, l => byteOf (bitsValue (l.take 8)) :: bytesOfBits n (l.drop 8)

/-- What a receiver makes of a dominant span and the bit times after it. -/
inductive Heard where
  /-- The span is no start symbol. -/
  | noise
  | linkPulse
  /-- The frame stops at an empty or collision symbol before its end, or at a bit time of no code
  (notes/assumptions/31.md). -/
  | aborted
  | whole (frame : List Byte)
  deriving DecidableEq, Repr

/-- The bytes of the frame whose bit times follow a start symbol: the arbitration field, the length byte, and as many
bytes as it says with the CRC (R160). A bit time of the arbitration field that is neither a bit of its code nor empty,
recessive then dominant, is named by no rule; the frame ends there, aborted (DESIGN CHOICE, notes/assumptions/31.md). -/
def readFrame (l : List BitTime) : Option (List Byte) :=
  match readBits arbBit 16 l, readBits dataBit 8 (l.drop 16) with
  | some field, some len =>
    match readBits dataBit (8 * (bitsValue len + 2)) (l.drop 24) with
    | some rest => some (bytesOfBits (bitsValue len + 5) (field ++ len ++ rest))
    | none => none
  | _, _ => none

/-- A dominant span of one or two bit times is a start symbol; followed by a bit time that is recessive throughout it is
a link pulse (R149), and by an arbitration bit the start of a frame (R160); one that is neither, recessive then
dominant, is taken as the start of a frame that is aborted there (DESIGN CHOICE, notes/assumptions/31.md). -/
def hearPair (span : Nat) (after : List BitTime) : Heard :=
  if span = 1 ∨ span = 2 then
    match after with
    | [] => .linkPulse
    | b :: _ =>
      if b.first = false ∧ b.second = false then .linkPulse
      else
        match readFrame after with
        | some frame => .whole frame
        | none => .aborted
  else .noise

/-- The row of a well-formed frame. -/
def rowOf (p : PortId) (frame : List Byte) : Frame → Instr
  | .announce _ _ => .announceReceived p frame
  | .set _ _ _ _ => .set p frame
  | .scene _ _ => .scene p frame
  | .forget _ _ => .forget p frame
  | .drive _ _ _ .dirA => .driveDirA p frame
  | .drive _ _ _ .dirB => .driveDirB p frame
  | .drive _ _ _ .stop => .driveStop p frame
  | .drive _ _ _ .clear => .driveClear p frame

/-- The command that what a receiver has heard is on port p, where the port is not DARK; a malformed frame comes as an
ANNOUNCE, and does the same under any row. -/
def heardCommand (p : PortId) : Heard → Instr
  | .noise => .transitionFromAnotherStation p false
  | .linkPulse => .transitionFromAnotherStation p true
  | .aborted => .frameAborted p
  | .whole frame =>
    if crcGood frame then
      match parseFrame frame with
      | some f => rowOf p frame f
      | none => .announceReceived p frame
    else .crcError p

end Sys2Proof.Machine
end

