-- ==== Sys2Proof/Machine/Outputs.lean ====
section
/-! DEFINITION. What the outside sees at the field pins (Table 5-5, Table 7-6, R114, R124, R136, R137, R145, R168,
R174, R176). Every output is a view of the state: nothing is stored twice, and no command reads one. -/

namespace Sys2Proof.Machine

open Sys2Proof

/-- A lamp that blinks: lit in the half of the second the last half-second boundary began (R114, R145). -/
def State.blink (s : State) : Bool := s.fpr.blinkLit

/-- The outputs a mover's phase calls for (Table 5-5, R124). -/
structure MoverOutputs where
  driveA : Bool := false
  driveB : Bool := false
  slow : Bool := false
  powerEnable : Bool := false
  lockRelease : Bool := false
  beacon : Bool := false
  deriving DecidableEq, Repr

/-- SLOW is active in a haul-in whose count is not known or at or below the slow-zone count (R124). -/
def slowNow (c : MoverCfg) (r : Mover) : Bool :=
  c.kind = .windlass && r.phase = .running && r.direction = some .dirB &&
    (!r.known || decide (r.count ≤ c.chain.slowCount))

/-- The outputs of a record in force, by its phase (Table 5-5, R89, R114, R124). -/
def phaseOutputs (c : MoverCfg) (lit : Bool) (r : Mover) : MoverOutputs :=
  match r.phase with
  | .idle => {}
  | .unfitted => {}
  | .faulted => { beacon := true }
  | .requesting => { beacon := lit }
  | .unlocking => { powerEnable := true, lockRelease := c.lockFitted, beacon := lit }
  | .running =>
    { driveA := r.direction = some .dirA
      driveB := r.direction = some .dirB
      slow := slowNow c r
      powerEnable := true
      lockRelease := c.lockFitted
      beacon := lit }
  | .stopping => { powerEnable := true, lockRelease := c.lockFitted, beacon := lit }
  | .locking => { powerEnable := true, beacon := lit }

/-- The outputs of mover m; a slot without a record drives none (R87, R136). -/
def State.moverOutputs (s : State) (m : MoverId) : MoverOutputs :=
  match s.mover m with
  | some r => phaseOutputs (s.moverCfg m) s.blink r
  | none => {}

/-! ### Key indicators (R145, Table 7-6) -/

/-- The states of a key indicator. -/
inductive Indicator where
  | on | off | blinking
  deriving DecidableEq, Repr

/-- A mover's phase and summary as an indicator reads them: from the own MVU, or from the target's record; none where
there is nothing to read (R145). -/
def State.moverSeen (s : State) (target : Nat) (m : MoverId) : Option (MoverPhase × Summary) :=
  if s.suc.ownNumber = some target then (s.mover m).map fun r => (r.phase, s.summary m)
  else
    match slotOf target with
    | none => none
    | some i =>
      match s.ptu.peers[i] with
      | some r => (r.ann.movers.find? fun x => x.index = m).map fun x => (x.phase, x.summary)
      | none => none

/-- The summary that is a direction's end. -/
def endOf : Dir → Summary
  | .dirA => .atAEnd
  | .dirB => .atBEnd

/-- A HOLD_DRIVE indicator from what it reads (Table 7-6). -/
def holdIndicator (d : Dir) (seen : Option (MoverPhase × Summary)) : Indicator :=
  match seen with
  | none => .off
  | some (phase, summary) =>
    if phase = .faulted then .on
    else if phase.inMotion then .blinking
    else if phase = .unfitted then .off
    else if summary = endOf d then .on
    else .off

/-- The indicator state of key entry k (Table 7-6). -/
def State.indicator (s : State) (k : KeyId) : Indicator :=
  match (s.cfg.keys[k]).action with
  | .nothing => .off
  | .setLevel target c _ => if 0 < s.presentLevel target c then .on else .off
  | .toggle target c _ => if 0 < s.presentLevel target c then .on else .off
  | .scene _ => if (s.ktu.keys[k]).ackUntil.isSome then .on else .off
  | .forget _ => if (s.ktu.keys[k]).ackUntil.isSome then .on else .off
  | .holdDrive target m d => holdIndicator d (s.moverSeen target m)
  | .clear target m =>
    match s.moverSeen target m with
    | some (phase, _) => if phase = .faulted then .on else .off
    | none => .off

/-- The lamp an indicator state lights. -/
def lampOf (lit : Bool) : Indicator → Bool
  | .on => true
  | .off => false
  | .blinking => lit

/-! ### Alerts (R168) -/

/-- ALERT is active while at least one kind is reported-active (R168). -/
def State.alert (s : State) : Bool := FaultKind.all.any s.reportedActive

/-- A record that lights PEER_ALERT: LIVE or STALE, with a worst severity of DEGRADED or HALT (R168, R9). -/
def alertsPeer (r : PeerRec) : Bool :=
  (r.status = .live || r.status = .stale) && (r.ann.severity = .degraded || r.ann.severity = .halt)

/-- PEER_ALERT (R168, R174). -/
def State.peerAlert (s : State) : Bool := s.suc.phase ≠ .listenOnly && s.records.any alertsPeer

/-- DRAINED (R176). -/
def State.drained (s : State) : Bool := s.standDownState = .drained

/-! ### Pins (R136, R137, R174) -/

/-- What a pin carries. -/
inductive PinDrive where
  /-- The station does not drive the pin. -/
  | undriven
  /-- The pin stands high (true) or low. -/
  | level (high : Bool)
  /-- A pulse-width drive: active for `duty` 256ths, where active is high unless `inverted` (R41). -/
  | pulse (duty : Nat) (inverted : Bool)
  deriving DecidableEq, Repr

/-- An output active or inactive, as its pin's polarity shows it (R136). -/
def shown (p : PinCfg) (active : Bool) : PinDrive := .level (active != p.inverted)

/-- A pin carrying CHANNEL_OUT for channel c (R41, R136). -/
def channelPin (p : PinCfg) (k : ChannelCfg) (ch : Channel) : PinDrive :=
  match k.kind with
  | .switched => shown p (ch.position = 256)
  | .dimmed =>
    if ch.position = 0 then shown p false
    else if 256 ≤ ch.position then shown p true
    else .pulse ch.position p.inverted

/-- A channel argument. -/
def argChannel (n : Nat) : ChannelId := ⟨n % 12, by omega⟩

/-- A mover argument. -/
def argMover (n : Nat) : MoverId := if n = 0 then 0 else 1

/-- A key argument. -/
def argKey (n : Nat) : KeyId := ⟨n % 16, by omega⟩

/-- An output pin from the end of CALIBRATE (R136); an input or unused pin is not driven (R132). -/
def State.ownerDrive (s : State) (p : PinCfg) : PinDrive :=
  match p.fn with
  | .unused | .key | .endA | .endB | .lockOpen | .lockClosed | .gypsy | .home | .powerFault | .occupancy | .supply
  | .standby => .undriven
  | .channelOut => channelPin p s.cfg.channels[argChannel p.arg] s.lcu.channels[argChannel p.arg]
  | .driveA => shown p (s.moverOutputs (argMover p.arg)).driveA
  | .driveB => shown p (s.moverOutputs (argMover p.arg)).driveB
  | .slow => shown p (s.moverOutputs (argMover p.arg)).slow
  | .powerEnable => shown p (s.moverOutputs (argMover p.arg)).powerEnable
  | .lockRelease => shown p (s.moverOutputs (argMover p.arg)).lockRelease
  | .beacon => shown p (s.moverOutputs (argMover p.arg)).beacon
  | .keyIndicator => shown p (lampOf s.blink (s.indicator (argKey p.arg)))
  | .alert => shown p s.alert
  | .peerAlert => shown p s.peerAlert
  | .drained => shown p s.drained

/-- An output function makes the pin an output (Table 7-2). -/
def isOutput (fn : PinFn) : Bool := !PinFn.isInput fn && fn ≠ .unused

/-- What pin p carries, by the start-up phase (R136, R137, R174). -/
def State.pinDrive (s : State) (p : PinId) : PinDrive :=
  let c := s.cfg.pins[p]
  match s.suc.phase with
  | .strap => .undriven
  | .load => .undriven
  | .calibrate => if isOutput c.fn then shown c false else .undriven
  | .quiet => s.ownerDrive c
  | .run => s.ownerDrive c
  | .listenOnly => if p = 31 then .level true else .undriven

end Sys2Proof.Machine
end

