-- ==== Sys2Proof/Machine/Due.lean ====
section
/-! DEFINITION. When each command that follows from the time base and the state can occur: the conditions the rules
give for the instants at which timers, spans and windows run out. Each meaning tests its own condition, and the clock
finds with the same ones which commands have come due. -/

namespace Sys2Proof.Machine

open Sys2Proof

/-! ### Start-up and the tick -/

/-- The strap sample falls 2 ms after reset release (R171). -/
def State.strapDue (s : State) : Bool :=
  decide (s.suc.phase = .strap) && decide (s.suc.since + Config.strapDelay ≤ s.now)

/-- CALIBRATE has lasted 64 ms (R173). -/
def State.calibrateDue (s : State) : Bool :=
  decide (s.suc.phase = .calibrate) && decide (s.suc.since + Config.calibrateSpan ≤ s.now)

/-- QUIET has lasted 3 × P (R173). -/
def State.quietDue (s : State) : Bool :=
  decide (s.suc.phase = .quiet) && decide (s.suc.since + 3 * s.cfg.period.ms ≤ s.now)

/-- The next own period tick has been reached (R2). -/
def State.tickDue (s : State) : Bool := s.delivers && due s.suc.nextTick s.now

/-! ### Ports and queue -/

/-- Port p has seen no transition from another station for 20 ms (R150). -/
def State.carrierDue (s : State) (p : PortId) : Bool :=
  s.portsOperate && elapsed (s.liu.ports[p]).carrier Config.carrierSpan s.now

/-- Port p is DARK, in operation. -/
def State.portDark (s : State) (p : PortId) : Bool := s.portsOperate && decide ((s.liu.ports[p]).state = .dark)

/-- Port p sends a link pulse: 1 ms since the last transition on its pair, no frame being sent, the station permitted
to transmit (R150). -/
def State.pulseDue (s : State) (p : PortId) : Bool :=
  s.mayTransmit && (s.liu.ports[p]).attempt.isNone &&
    decide ((s.liu.ports[p]).lastTransition + Config.pulseInterval ≤ s.now)

/-- The dwell in progress at a SEEKING port that has run out (R152). -/
def State.dwellDue (s : State) (p : PortId) : Option Dwell :=
  if s.portsOperate && decide ((s.liu.ports[p]).state = .seeking) then
    match (s.liu.ports[p]).dwell with
    | some d => if d.start + s.cfg.ports.dwell ≤ s.now then some d else none
    | none => none
  else none

/-- A FIT port's error window ends (R153). -/
def State.windowDue (s : State) (p : PortId) : Bool :=
  s.portsOperate && s.portFit p && due (s.liu.ports[p]).windowEnd s.now

/-- Port p can start a frame: the station is permitted to transmit, the port is not DARK and not sending (R155). -/
def State.canStart (s : State) (p : PortId) : Bool :=
  s.mayTransmit && decide ((s.liu.ports[p]).state ≠ .dark) && (s.liu.ports[p]).attempt.isNone

/-! ### Budget and peers -/

/-- The pending amount of an entry has settled (R32). -/
def settleDue (now q : Nat) (d : Demand) : Bool := elapsed (d.pending.map (·.2)) q now

/-- The record of slot n is LIVE and has been silent for 3 of its periods (R8). -/
def State.staleDue (s : State) (n : SlotId) : Bool :=
  match s.ptu.peers[n] with
  | some r => r.status = .live && decide (silentSince r 3 ≤ s.now)
  | none => false

/-- The record of slot n is not yet ORPHAN and has been silent for 10 of its periods (R8). -/
def State.orphanDue (s : State) (n : SlotId) : Bool :=
  match s.ptu.peers[n] with
  | some r => r.status ≠ .orphan && decide (silentSince r 10 ≤ s.now)
  | none => false

/-! ### Channels -/

/-- A trip of channel c has come: the over-time of an output that is on has run for 100 ms (R55), or it had at this
instant when a SET, a SCENE, a tick or a fade beat taken first put the output off (R59, R62). -/
def State.tripDue (s : State) (c : ChannelId) : Bool :=
  overrun s.now s.lcu.channels[c] || tripOwed s.now s.lcu.channels[c]

/-! ### Movers -/

/-- Mover m is in this phase. -/
def State.inPhase (s : State) (m : MoverId) (phase : MoverPhase) : Bool :=
  match s.mover m with
  | some r => r.phase = phase
  | none => false

/-- The phase timer of mover m has run out. -/
def State.phaseTimerDue (s : State) (m : MoverId) : Bool :=
  match s.mover m with
  | some r => due r.timer s.now
  | none => false

/-- The listen window of mover m's intent has run out (R75). -/
def State.windowOver (s : State) (m : MoverId) : Bool :=
  match s.claim m with
  | .listening start => decide (start + s.cfg.listenWindow ≤ s.now)
  | .unclaimed => false
  | .waiting => false
  | .held => false

/-- The phases in which the hold-to-run timer runs (R96). -/
def holdRuns : MoverPhase → Bool
  | .requesting | .unlocking | .running | .stopping => true
  | .idle | .locking | .faulted | .unfitted => false

/-- The hold-to-run timer of mover m has run out (R96). -/
def State.holdDue (s : State) (m : MoverId) : Bool :=
  match s.mover m with
  | some r => holdRuns r.phase && elapsed r.lastDrive (s.moverCfg m).holdTimeout s.now
  | none => false

/-- The request time limit has run out (R99). -/
def State.limitDue (s : State) (m : MoverId) : Bool := s.inPhase m .requesting && s.phaseTimerDue m

/-- The release guard has run out (R95). -/
def State.guardDue (s : State) (m : MoverId) : Bool :=
  match s.mover m with
  | some r => due (r.releaseGuard.map (·.2)) s.now
  | none => false

/-- The lock timer has run out (R100, R106). -/
def State.lockDue (s : State) (m : MoverId) : Bool :=
  (s.inPhase m .unlocking || s.inPhase m .locking) && s.phaseTimerDue m

/-- The travel timer has run out (R104). -/
def State.travelDue (s : State) (m : MoverId) : Bool :=
  decide ((s.moverCfg m).kind ≠ .windlass) && s.inPhase m .running && s.phaseTimerDue m

/-- The over-time of a running mover has run for 200 ms (R103). -/
def State.overloadDue (s : State) (m : MoverId) : Bool :=
  match s.mover m with
  | some r => decide (r.phase = .running) && elapsed r.overTime Config.moverOverSpan s.now
  | none => false

/-- The stop dwell has run out (R105). -/
def State.stopDue (s : State) (m : MoverId) : Bool := s.inPhase m .stopping && s.phaseTimerDue m

/-- The stall span of a running windlass has run for the stall time (R125). -/
def State.stallDue (s : State) (m : MoverId) : Bool :=
  match s.mover m with
  | some r =>
    decide ((s.moverCfg m).kind = .windlass) && decide (r.phase = .running) &&
      elapsed r.stallSpan (s.moverCfg m).chain.stallTime s.now
  | none => false

/-! ### Keys and flags -/

/-- The next repeat of a held DRIVING entry has been reached (R143). -/
def State.repeatDue (s : State) (k : KeyId) : Bool :=
  s.working && (s.ktu.keys[k]).held && decide ((s.ktu.keys[k]).standing = .driving) &&
    due (s.ktu.keys[k]).nextRepeat s.now

/-- The hold timer of an event kind has run out (R164). -/
def State.flagDue (s : State) (kind : FaultKind) : Bool :=
  isEvent kind && due (s.fcl.flags[kind.idx]).hold s.now

end Sys2Proof.Machine
end

