-- ==== Sys2Proof/Machine/Clock.lean ====
section
/-! DEFINITION. The clock: what 1 ms of the time base does when no command is waiting (notes/assumptions/1.md). The time
base rises by one, the input pins are sampled (R134), and every command that the time base and the pins have made due
is put in the queue, in one fixed order. -/

namespace Sys2Proof.Machine

open Sys2Proof

/-! ### Sampling the pins (R134) -/

/-- A pin is FILTERED; one carrying KEY is, whatever its filter field holds. -/
def pinFiltered (c : PinCfg) : Bool := c.filtered || c.fn = .key

/-- The level of a pin stands for active. -/
def pinActive (c : PinCfg) (x : Pin) : Bool := x.level != c.inverted

/-- The sample shows a value the pin does not deliver yet, and delivers it now: at once for a RAW pin, 20 ms after the
first sample that showed it for a FILTERED one. -/
def pinDelivers (c : PinCfg) (now : Nat) (x : Pin) : Bool :=
  pinActive c x != x.delivered && (!pinFiltered c || elapsed x.candidate Config.filterSpan now)

/-- A pin's candidate change after a sample: kept or started while the level differs, discarded otherwise. -/
def nextCandidate (c : PinCfg) (now : Nat) (x : Pin) : Option Nat :=
  if pinActive c x != x.delivered && pinFiltered c then some (x.candidate.getD now) else none

/-- The key entries bound to pin p. -/
def keysOn (s : State) (p : PinId) : List KeyId := allKeys.filter fun k => (s.cfg.keys[k]).pin = some p

/-- The command a press or a release of key k is. -/
def keyCommand (s : State) (active : Bool) (k : KeyId) : Instr :=
  if active then
    match (s.cfg.keys[k]).action with
    | .setLevel _ _ _ => .keySetLevel k
    | .toggle _ _ _ => .keyToggle k
    | .scene _ => .keyScene k
    | .holdDrive _ _ _ => .keyHoldDrive k
    | .clear _ _ => .keyClear k
    | .forget _ => .keyForget k
    | .nothing => .keyRelease k
  else .keyRelease k

/-- The commands a change of pin p's delivered value to `active` is; none where nothing but the value itself follows
it (SUPPLY, which the tick samples, and a pin to which no consumer is bound). -/
def changeCommands (s : State) (p : PinId) (active : Bool) : List Instr :=
  match (s.cfg.pins[p]).fn with
  | .key => if s.working then (keysOn s p).map (keyCommand s active) else []
  | .endA => [.endSwitchChange p active]
  | .endB => [.endSwitchChange p active]
  | .lockOpen => [.lockOpenChange p active]
  | .lockClosed => [.lockClosedChange p active]
  | .gypsy => [.gypsyPulse p active]
  | .home => [.homeChange p active]
  | .powerFault => [.powerFaultChange p active]
  | .occupancy => [.occupancyChange p active]
  | .supply => []
  | .standby =>
    if s.cfg.standby = some p then [if active then .standbyAssert else .standbyDeassert] else []
  | .unused | .channelOut | .driveA | .driveB | .slow | .powerEnable | .lockRelease | .beacon | .keyIndicator
  | .alert | .peerAlert | .drained => []

/-- Pin p sampled now: its candidate, and its delivered value where it changes and no command follows the change. -/
def State.samplePin (s : State) (p : PinId) : State :=
  let c := s.cfg.pins[p]
  s.onPin p fun x =>
    if pinDelivers c s.now x && (changeCommands s p (pinActive c x)).isEmpty then
      { x with delivered := pinActive c x, candidate := none }
    else { x with candidate := nextCandidate c s.now x }

/-- Pin p is read: it carries an input function, in a phase that samples the inputs (R134, R137). -/
def State.pinRead (s : State) (p : PinId) : Bool := s.sampling && PinFn.isInput (s.cfg.pins[p]).fn

/-- Every input pin sampled. -/
def State.samplePins (s : State) : State := (allPins.filter s.pinRead).foldl State.samplePin s

/-- The commands of pin p that its sample now makes. -/
def State.pinCommands (s : State) (p : PinId) : List Instr :=
  let c := s.cfg.pins[p]
  if s.pinRead p && pinDelivers c s.now s.fpr.pins[p] then changeCommands s p (pinActive c s.fpr.pins[p]) else []

/-! ### The commands that have come due -/

/-- A command where its condition holds. -/
def dueIf (b : Bool) (i : Instr) : List Instr := if b then [i] else []

/-- Sense input cs is converted at this instant (R146, R147): in CALIBRATE the clock makes this at T + 1 to T + 64 of a
LOAD that ended at T (DESIGN CHOICE, notes/assumptions/26.md). -/
def State.converts (s : State) (cs : SenseId) : Bool :=
  senseInUse s.cfg cs && (s.suc.phase = .calibrate || (s.working && !s.senseFaulty cs))

/-- The conversions of this instant. -/
def State.senseCommands (s : State) : List Instr :=
  allSenses.flatMap fun cs => dueIf (s.converts cs) (.senseReading cs (s.csa.inputs[cs]).raw)

/-- What is due at port p. -/
def State.portCommands (s : State) (p : PortId) : List Instr :=
  dueIf (s.carrierDue p) (.carrierLoss p) ++ dueIf (s.dwellDue p).isSome (.dwellEnd p) ++
    dueIf (s.windowDue p) (.errorWindowEnd p) ++ dueIf (s.pulseDue p) (.linkPulse p)

/-- What is due in the transmit queue, the budget and the peer table. -/
def State.sharedCommands (s : State) : List Instr :=
  (s.liu.fifo.filter (driveDue s.now)).map (fun _ => .driveStale) ++
    s.sbu.demands.flatMap (fun d => dueIf (settleDue s.now s.cfg.settle d) (.settle d.source)) ++
    dueIf (due s.sbu.islandTimer s.now) .islandDelayExpiry ++
    allSlots.flatMap fun n => dueIf (s.staleDue n) (.peerStale n) ++ dueIf (s.orphanDue n) (.peerOrphan n)

/-- What is due at channel c. -/
def State.channelCommands (s : State) (c : ChannelId) : List Instr :=
  dueIf (due (s.lcu.channels[c]).inrush s.now) (.inrushWindowExpiry c) ++ dueIf (s.tripDue c) (.channelTrip c) ++
    dueIf (due (s.lcu.channels[c]).tripMemory s.now) (.tripMemoryExpiry c)

/-- What is due at mover m. -/
def State.moverCommands (s : State) (m : MoverId) : List Instr :=
  dueIf (s.windowOver m) (.listenWindowExpiry m) ++ dueIf (s.stallDue m) (.stall m) ++
    dueIf (s.overloadDue m) (.overload m) ++ dueIf (s.travelDue m) (.travelTimeout m) ++
    dueIf (s.lockDue m) (.lockTimerExpiry m) ++ dueIf (s.holdDue m) (.holdToRunTimeout m) ++
    dueIf (s.limitDue m) (.requestTimeLimit m) ++ dueIf (s.stopDue m) (.stopDwellEnd m) ++
    dueIf (s.guardDue m) (.releaseGuardExpiry m)

/-- What is due at key entry k. -/
def State.keyCommands (s : State) (k : KeyId) : List Instr :=
  dueIf (s.repeatDue k) (.keyRepeat k) ++ dueIf (due (s.ktu.keys[k]).ackUntil s.now) (.acknowledgeExpiry k)

/-- The hold timers that have run out. -/
def State.flagCommands (s : State) : List Instr :=
  FaultKind.all.flatMap fun kind => dueIf (s.flagDue kind) (.holdTimerExpiry kind)

/-- Every command that has come due at this instant, in the order notes/assumptions/4.md gives. The strap sample, the
end of LOAD and everything that happens on the pairs come from outside. With LOAD ended at T, the 64 conversions of
CALIBRATE fall at T + 1 to T + 64, the last one before the CALIBRATE_END of its instant, and the first reading at T + 65
(DESIGN CHOICE, notes/assumptions/26.md). The readings stand first: one at or below the threshold takes the trip, the
overload or the stall due at its instant away (DESIGN CHOICE, notes/assumptions/32.md), and one of the instant an inrush
window runs out meets the double threshold (DESIGN CHOICE, notes/assumptions/33.md). -/
def State.dueCommands (s : State) : List Instr :=
  s.senseCommands ++ dueIf s.calibrateDue .calibrateEnd ++ dueIf s.quietDue .quietEnd ++
    allPorts.flatMap s.portCommands ++ s.sharedCommands ++ allChannels.flatMap s.channelCommands ++
    allMovers.flatMap s.moverCommands ++ allKeys.flatMap s.keyCommands ++ s.flagCommands ++
    dueIf (s.now % Config.beatInterval = 0) .fadeBeat ++ dueIf (s.now % Config.blinkHalf = 0) .beaconBlink ++
    dueIf s.tickDue (.ownPeriodTick (s.input s.cfg.supply))

/-- One ms passes with no command waiting: the pins are sampled, and the commands they make stand before those the time
base makes. -/
def State.passTime (s : State) : State :=
  let t := { s with now := s.now + 1 }
  let u := t.samplePins
  { u with pending := allPins.flatMap t.pinCommands ++ u.dueCommands }

/-- The idle step: 1 ms passes, up to the last value of the 48-bit time base. -/
def State.idle (s : State) : Result :=
  if s.now + 1 < Config.timeBaseEnd then .next s.passTime else .fault .timeBaseExhausted

end Sys2Proof.Machine
end

