-- ==== Sys2Proof/Machine/BudgetRows.lean ====
section
/-! DEFINITION. The commands of the supply budget and of the peer table's ageing (Chapters 1 and 2): SETTLE,
ISLAND_DELAY_EXPIRY, PEER_STALE, PEER_ORPHAN. -/

namespace Sys2Proof.Machine

open Sys2Proof

/-- SETTLE (R32): the entry's settled amount becomes its pending amount at Pt + Q; the drawing does not change. -/
def execSettle (src : Source) (s : State) : Result :=
  .next (s.setDemands (mapSource src (settleEntry s.now s.cfg.settle) s.sbu.demands))

/-- The island timer stops as it runs out. -/
def State.stopIslandTimer (s : State) : State := { s with sbu := { s.sbu with islandTimer := none } }

/-- ISLAND_DELAY_EXPIRY (R34): island mode is entered; where TWIN already brought it about it holds on. -/
def execIslandDelayExpiry (s : State) : Result :=
  .next
    (if due s.sbu.islandTimer s.now then
      (if s.inIsland then s.stopIslandTimer else s.stopIslandTimer.enterIsland .timer)
    else s)

/-- PEER_STALE (R8). -/
def execPeerStale (n : SlotId) (s : State) : Result := .next (if s.staleDue n then s.ageTo n .stale else s)

/-- PEER_ORPHAN (R8, R10). -/
def execPeerOrphan (n : SlotId) (s : State) : Result := .next (if s.orphanDue n then s.ageTo n .orphan else s)

end Sys2Proof.Machine
end

