-- ==== Sys2Proof/Machine/FrameRows.lean ====
section
/-! DEFINITION. The commands that are frames ending with a good CRC on a port (Sections 8.6, 8.7): ANNOUNCE_RECEIVED,
SET, SCENE, FORGET and the four motions of DRIVE. A command's frame is one of its row's kind, or a malformed one. -/

namespace Sys2Proof.Machine

open Sys2Proof

/-- The frame is an ANNOUNCE. -/
def isAnnounce : Frame → Bool
  | .announce _ _ => true
  | .drive _ _ _ _ | .set _ _ _ _ | .scene _ _ | .forget _ _ => false

/-- The frame is a SET. -/
def isSet : Frame → Bool
  | .set _ _ _ _ => true
  | .drive _ _ _ _ | .announce _ _ | .scene _ _ | .forget _ _ => false

/-- The frame is a SCENE. -/
def isScene : Frame → Bool
  | .scene _ _ => true
  | .drive _ _ _ _ | .announce _ _ | .set _ _ _ _ | .forget _ _ => false

/-- The frame is a FORGET. -/
def isForget : Frame → Bool
  | .forget _ _ => true
  | .drive _ _ _ _ | .announce _ _ | .set _ _ _ _ | .scene _ _ => false

/-- The frame is a DRIVE of this motion. -/
def isDrive (motion : Motion) : Frame → Bool
  | .drive _ _ _ x => x = motion
  | .announce _ _ | .set _ _ _ _ | .scene _ _ | .forget _ _ => false

/-- ANNOUNCE_RECEIVED (R5, R6, R14). -/
def execAnnounceReceived (p : PortId) (frame : List Byte) (s : State) : Result :=
  .next (s.receive p frame isAnnounce)

/-- SET (R44 to R47). -/
def execSet (p : PortId) (frame : List Byte) (s : State) : Result := .next (s.receive p frame isSet)

/-- SCENE (R61). -/
def execScene (p : PortId) (frame : List Byte) (s : State) : Result := .next (s.receive p frame isScene)

/-- FORGET (R11). -/
def execForget (p : PortId) (frame : List Byte) (s : State) : Result := .next (s.receive p frame isForget)

/-- DRIVE_DIR_A (R93, R94). -/
def execDriveDirA (p : PortId) (frame : List Byte) (s : State) : Result := .next (s.receive p frame (isDrive .dirA))

/-- DRIVE_DIR_B (R93, R94). -/
def execDriveDirB (p : PortId) (frame : List Byte) (s : State) : Result := .next (s.receive p frame (isDrive .dirB))

/-- DRIVE_STOP (R94, R95). -/
def execDriveStop (p : PortId) (frame : List Byte) (s : State) : Result := .next (s.receive p frame (isDrive .stop))

/-- DRIVE_CLEAR (R111). -/
def execDriveClear (p : PortId) (frame : List Byte) (s : State) : Result := .next (s.receive p frame (isDrive .clear))

end Sys2Proof.Machine
end

