-- ==== Sys2Proof/Machine/KeyRows.lean ====
section
/-! DEFINITION. The commands of the key table (Sections 7.3 to 7.5): the presses by action, KEY_RELEASE, KEY_REPEAT,
ACKNOWLEDGE_EXPIRY. A press command whose entry carries another action changes nothing. -/

namespace Sys2Proof.Machine

open Sys2Proof

/-- KEY_SET_LEVEL (R141). -/
def execKeySetLevel (k : KeyId) (s : State) : Result :=
  .next
    (match (s.cfg.keys[k]).action with
    | .setLevel target c level => s.press k fun t => t.emit (.set t.number target c.val level)
    | _ => s)

/-- The level a TOGGLE press sends: 0 where the present level is above 0, the on-level otherwise (R142). -/
def State.toggleLevel (s : State) (target : Nat) (c : ChannelId) (onLevel : Nat) : Nat :=
  if 0 < s.presentLevel target c then 0 else onLevel

/-- KEY_TOGGLE (R142). -/
def execKeyToggle (k : KeyId) (s : State) : Result :=
  .next
    (match (s.cfg.keys[k]).action with
    | .toggle target c onLevel =>
      s.press k fun t => t.emit (.set t.number target c.val (t.toggleLevel target c onLevel))
    | _ => s)

/-- KEY_SCENE (R141). -/
def execKeyScene (k : KeyId) (s : State) : Result :=
  .next
    (match (s.cfg.keys[k]).action with
    | .scene number => s.press k fun t => (t.acknowledge k).emit (.scene t.number number.val)
    | _ => s)

/-- KEY_HOLD_DRIVE (R143, R144). -/
def execKeyHoldDrive (k : KeyId) (s : State) : Result :=
  .next
    (match (s.cfg.keys[k]).action with
    | .holdDrive target m d => s.press k fun t => t.startHold k target m d
    | _ => s)

/-- KEY_CLEAR (R141). -/
def execKeyClear (k : KeyId) (s : State) : Result :=
  .next
    (match (s.cfg.keys[k]).action with
    | .clear target m => s.press k fun t => t.emit (.drive t.number target m .clear)
    | _ => s)

/-- KEY_FORGET (R141). -/
def execKeyForget (k : KeyId) (s : State) : Result :=
  .next
    (match (s.cfg.keys[k]).action with
    | .forget target => s.press k fun t => (t.acknowledge k).emit (.forget t.number target)
    | _ => s)

/-- Key k is released now: in QUIET or RUN it is held (R139). -/
def State.canRelease (s : State) (k : KeyId) : Bool := s.working && (s.ktu.keys[k]).held

/-- KEY_RELEASE (R143). -/
def execKeyRelease (k : KeyId) (s : State) : Result :=
  .next (if s.canRelease k then announceChange s ((s.hold k false).releaseHold k) else s)

/-- KEY_REPEAT (R143). -/
def execKeyRepeat (k : KeyId) (s : State) : Result :=
  .next (if s.repeatDue k then announceChange s (s.repeatHold k) else s)

/-- ACKNOWLEDGE_EXPIRY (R145). -/
def execAcknowledgeExpiry (k : KeyId) (s : State) : Result :=
  .next (if due (s.ktu.keys[k]).ackUntil s.now then s.onKey k fun x => { x with ackUntil := none } else s)

end Sys2Proof.Machine
end

