-- ==== Sys2Proof/Machine/LineRows.lean ====
section
/-! DEFINITION. The commands of the ports and the transmit queue (Chapter 8): CARRIER_LOSS, DARK_PORT_TRANSITION,
LINK_PULSE, DWELL_END, LOSS_OF_LOCK, ERROR_WINDOW_END, CRC_ERROR, FRAME_ABORTED, TRANSMIT_START, ARBITRATION_LOSS,
ECHO_MISMATCH, FRAME_COMPLETION, DRIVE_STALE, TRANSITION_FROM_ANOTHER_STATION. -/

namespace Sys2Proof.Machine

open Sys2Proof

/-- CARRIER_LOSS (R150): the port enters DARK, its attempt is abandoned, departure is judged (R158, R159). -/
def execCarrierLoss (p : PortId) (s : State) : Result :=
  .next (if s.carrierDue p then announceChange s (s.movePort p (goDark s.now)).judgeDepartures else s)

/-- DARK_PORT_TRANSITION (R150, R152). -/
def execDarkPortTransition (p : PortId) (s : State) : Result :=
  .next (if s.portDark p then announceChange s (s.movePort p (wakePort s.cfg s.now)) else s)

/-- LINK_PULSE (R150): a pulse is sent, and it is itself the last transition on the pair. R152 does not say whether its
start symbol counts as one the port's receiver has decoded in a dwell; here it does not (DESIGN CHOICE,
notes/assumptions/34.md). -/
def execLinkPulse (p : PortId) (s : State) : Result :=
  .next (if s.pulseDue p then s.onPort p fun x => { x with lastTransition := s.now, pulseAt := some s.now } else s)

/-- DWELL_END (R152). -/
def execDwellEnd (p : PortId) (s : State) : Result :=
  .next
    (match s.dwellDue p with
    | some d => announceChange s (s.movePort p (endDwell s.cfg s.now d))
    | none => s)

/-- The receiver loses clock lock: the search goes on at the next setting (R152, R153). The transition that loses it
counts as carrier where the port is not itself sending (R150). -/
def loseLock (cfg : Cfg) (now : Nat) (x : Port) : Port :=
  seekOn cfg now (if x.attempt.isNone then seeTransition now x else x)

/-- LOSS_OF_LOCK (R152, R153, R160). -/
def execLossOfLock (p : PortId) (s : State) : Result :=
  .next
    (if s.portsOperate ∧ (s.liu.ports[p]).state ≠ .dark then announceChange s (s.movePort p (loseLock s.cfg s.now))
    else s)

/-- A window that ends: the next one follows without gap, with no errors (R153). -/
def nextWindow (x : Port) : Port := { x with windowEnd := x.windowEnd.map (· + Config.errorWindow), errors := 0 }

/-- ERROR_WINDOW_END (R153). -/
def execErrorWindowEnd (p : PortId) (s : State) : Result :=
  .next (if s.windowDue p then s.onPort p nextWindow else s)

/-- CRC_ERROR (R160): a frame ends with a failing CRC. -/
def execCrcError (p : PortId) (s : State) : Result :=
  .next (if s.hears p then announceChange s (s.takeBadFrame p) else s)

/-- FRAME_ABORTED (R160): no count and no fault; what was seen of the frame was transitions (R150). -/
def execFrameAborted (p : PortId) (s : State) : Result :=
  .next (if s.hears p then s.onPort p (seeTransition s.now) else s)

/-- TRANSMIT_START (R155, R158), at an idle gap. -/
def execTransmitStart (p : PortId) (s : State) : Result :=
  .next
    (if s.canStart p then
      match s.chooseFrame p with
      | some q => s.onPort p fun x => { x with attempt := some { serial := q.serial, frame := q.frame } }
      | none => s
    else s)

/-- ARBITRATION_LOSS (R155): the port stops driving, and the frame stays unsent on it. -/
def execArbitrationLoss (p : PortId) (s : State) : Result :=
  .next (if (s.liu.ports[p]).attempt.isSome then s.onPort p (endAttempt s.now) else s)

/-- ECHO_MISMATCH (R156), after the arbitration field. -/
def execEchoMismatch (p : PortId) (s : State) : Result :=
  .next
    (match (s.liu.ports[p]).attempt with
    | some a => announceChange s (s.mismatchFrame p a)
    | none => s)

/-- FRAME_COMPLETION (R156). -/
def execFrameCompletion (p : PortId) (s : State) : Result :=
  .next
    (match (s.liu.ports[p]).attempt with
    | some a => s.completeFrame p a
    | none => s)

/-- DRIVE_STALE (R159). -/
def execDriveStale (s : State) : Result := .next s.ageDrive

/-- A transition seen at a port that is not DARK, and whether it completed a start symbol (R150, R152). -/
def heardAt (now : Nat) (startSymbol : Bool) (x : Port) : Port :=
  if startSymbol then seeStart (seeTransition now x) else seeTransition now x

/-- TRANSITION_FROM_ANOTHER_STATION (R150). -/
def execTransitionFromAnotherStation (p : PortId) (startSymbol : Bool) (s : State) : Result :=
  .next (if s.hears p then s.onPort p (heardAt s.now startSymbol) else s)

end Sys2Proof.Machine
end

