-- ==== Sys2Proof/Machine/LoadRows.lean ====
section
/-! DEFINITION. The commands of the load channels and the sense inputs (Chapters 3 and 7): FADE_BEAT,
INRUSH_WINDOW_EXPIRY, SENSE_READING, CHANNEL_TRIP, TRIP_MEMORY_EXPIRY. -/

namespace Sys2Proof.Machine

open Sys2Proof

/-- FADE_BEAT (R51), at a whole multiple of 10 ms. -/
def execFadeBeat (s : State) : Result :=
  .next (if s.now % Config.beatInterval = 0 then allChannels.foldl State.beatChannel s else s)

/-- The window runs out: the single threshold is in force from here, and the current as last read is compared with it
at this instant (R54, R55). -/
def windowOut (now : Nat) (c : ChannelCfg) (ch : Channel) : Channel := compareReading now c { ch with inrush := none }

/-- INRUSH_WINDOW_EXPIRY (R54). -/
def execInrushWindowExpiry (c : ChannelId) (s : State) : Result :=
  .next (if due (s.lcu.channels[c]).inrush s.now then s.onChannel c (windowOut s.now s.cfg.channels[c]) else s)

/-- SENSE_READING (R146, R147): a conversion of an input. -/
def execSenseReading (cs : SenseId) (raw : Int) (s : State) : Result := .next (s.convert cs raw)

/-- CHANNEL_TRIP (R55 to R57), in either order with what else reaches the channel at its instant (R59, R62). -/
def execChannelTrip (c : ChannelId) (s : State) : Result := .next (if s.tripDue c then s.trip c else s)

/-- TRIP_MEMORY_EXPIRY (R58). -/
def execTripMemoryExpiry (c : ChannelId) (s : State) : Result :=
  .next
    (if due (s.lcu.channels[c]).tripMemory s.now then s.onChannel c fun ch => { ch with tripMemory := none } else s)

end Sys2Proof.Machine
end

