-- ==== Sys2Proof/Machine/MoverRows.lean ====
section
/-! DEFINITION. The commands of the movers, their claims and their inputs (Chapters 4 to 6): OCCUPANCY_CHANGE,
LISTEN_WINDOW_EXPIRY, HOLD_TO_RUN_TIMEOUT, REQUEST_TIME_LIMIT, RELEASE_GUARD_EXPIRY, LOCK_OPEN_CHANGE,
LOCK_CLOSED_CHANGE, LOCK_TIMER_EXPIRY, END_SWITCH_CHANGE, TRAVEL_TIMEOUT, OVERLOAD, STOP_DWELL_END,
POWER_FAULT_CHANGE, GYPSY_PULSE, HOME_CHANGE, STALL. -/

namespace Sys2Proof.Machine

open Sys2Proof

/-- OCCUPANCY_CHANGE (R67, R71, R75, R78). -/
def execOccupancyChange (pin : PinId) (active : Bool) (s : State) : Result :=
  .next (s.onChange pin active [.occupancy] State.reexamine)

/-- LISTEN_WINDOW_EXPIRY (R75). -/
def execListenWindowExpiry (m : MoverId) (s : State) : Result :=
  .next (if s.windowOver m then announceChange s s.reexamine else s)

/-- HOLD_TO_RUN_TIMEOUT (R96). -/
def execHoldToRunTimeout (m : MoverId) (s : State) : Result :=
  .next (if s.holdDue m then announceChange s (s.holdExpired m) else s)

/-- REQUEST_TIME_LIMIT (R99). -/
def execRequestTimeLimit (m : MoverId) (s : State) : Result :=
  .next (if s.limitDue m then announceChange s (s.enterIdle m (s.limitCode m)) else s)

/-- RELEASE_GUARD_EXPIRY (R95). -/
def execReleaseGuardExpiry (m : MoverId) (s : State) : Result :=
  .next (if s.guardDue m then s.onMover m fun r => { r with releaseGuard := none } else s)

/-- LOCK_OPEN at its new value: becoming active it acts on the movers bound to the pin (R100). -/
def State.lockOpenNow (p : PinId) (active : Bool) (s : State) : State :=
  if active then allMovers.foldl (State.lockOpened p) s else s

/-- LOCK_OPEN_CHANGE (R100). -/
def execLockOpenChange (pin : PinId) (active : Bool) (s : State) : Result :=
  .next (s.onChange pin active [.lockOpen] (State.lockOpenNow pin active))

/-- LOCK_CLOSED at its new value (R106). -/
def State.lockClosedNow (p : PinId) (active : Bool) (s : State) : State :=
  if active then allMovers.foldl (State.lockShut p) s else s

/-- LOCK_CLOSED_CHANGE (R106). -/
def execLockClosedChange (pin : PinId) (active : Bool) (s : State) : Result :=
  .next (s.onChange pin active [.lockClosed] (State.lockClosedNow pin active))

/-- LOCK_TIMER_EXPIRY (R100, R106). -/
def execLockTimerExpiry (m : MoverId) (s : State) : Result :=
  .next (if s.lockDue m then announceChange s (s.enterFaulted m .lockJam) else s)

/-- An end switch at its new value: becoming active it may end motion; inactive, the summary alone follows (R102,
R115). -/
def State.endSwitchNow (p : PinId) (active : Bool) (s : State) : State :=
  if active then allMovers.foldl (State.endSwitch p) s else s

/-- END_SWITCH_CHANGE (R98, R100, R102). -/
def execEndSwitchChange (pin : PinId) (active : Bool) (s : State) : Result :=
  .next (s.onChange pin active [.endA, .endB] (State.endSwitchNow pin active))

/-- TRAVEL_TIMEOUT (R104). -/
def execTravelTimeout (m : MoverId) (s : State) : Result :=
  .next (if s.travelDue m then announceChange s (s.enterFaulted m .travelTimeout) else s)

/-- OVERLOAD (R103). -/
def execOverload (m : MoverId) (s : State) : Result :=
  .next (if s.overloadDue m then announceChange s (s.enterFaulted m .overload) else s)

/-- STOP_DWELL_END (R105). -/
def execStopDwellEnd (m : MoverId) (s : State) : Result :=
  .next
    (match s.mover m with
    | some r => if s.stopDue m then announceChange s (s.dwellOver m r) else s
    | none => s)

/-- POWER_FAULT at its new value (R107, R108). -/
def State.powerFaultNow (p : PinId) (active : Bool) (s : State) : State :=
  if active then s.powerFailed p else s.reportReason .pumpFault

/-- POWER_FAULT_CHANGE (R108). -/
def execPowerFaultChange (pin : PinId) (active : Bool) (s : State) : Result :=
  .next (s.onChange pin active [.powerFault] (State.powerFaultNow pin active))

/-- GYPSY at its new value: only the change to active is a pulse (R119). -/
def State.gypsyNow (p : PinId) (active : Bool) (s : State) : State :=
  if active then allMovers.foldl (State.gypsy p) s else s

/-- GYPSY_PULSE (R119). -/
def execGypsyPulse (pin : PinId) (active : Bool) (s : State) : Result :=
  .next (s.onChange pin active [.gypsy] (State.gypsyNow pin active))

/-- HOME at its new value (R121, R122). -/
def State.homeNow (p : PinId) (active : Bool) (s : State) : State :=
  if active then (allMovers.foldl (State.homed p) s).reportCount else s

/-- HOME_CHANGE (R121). -/
def execHomeChange (pin : PinId) (active : Bool) (s : State) : Result :=
  .next (s.onChange pin active [.home] (State.homeNow pin active))

/-- STALL (R125). -/
def execStall (m : MoverId) (s : State) : Result :=
  .next (if s.stallDue m then announceChange s (s.enterFaulted m .stall) else s)

end Sys2Proof.Machine
end

