-- ==== Sys2Proof/Machine/SystemRows.lean ====
section
/-! DEFINITION. The commands of start-up and of the own period: POWER_ON, PIN_RESET, STRAP_SAMPLE, LOAD_END,
CALIBRATE_END, QUIET_END, OWN_PERIOD_TICK, STANDBY_ASSERT, STANDBY_DEASSERT, HOLD_TIMER_EXPIRY, BEACON_BLINK. -/

namespace Sys2Proof.Machine

open Sys2Proof

/-- POWER_ON (R171, R130): every block takes its after-reset value. -/
def execPowerOn (s : State) : Result := .next s.afterReset

/-- PIN_RESET (R171, R131): as POWER_ON, with the windlass counts retained. -/
def execPinReset (s : State) : Result := .next s.pinReset

/-- STRAP_SAMPLE (R1, R171), 2 ms after reset release. -/
def execStrapSample (straps : BitVec 6) (s : State) : Result :=
  .next (if s.strapDue then s.takeStraps straps.toNat else s)

/-- LOAD_END (R172): the image is judged, with the levels the pins show at the first sample after it (R134). -/
def execLoadEnd (image : List Byte) (levels : BitVec 32) (s : State) : Result :=
  .next
    (if s.suc.phase = .load then
      match judgeImage image with
      | some cfg => s.acceptImage cfg levels
      | none => s.refuseImage
    else s)

/-- CALIBRATE_END (R173): offsets, marks, conditions found, QUIET and the first tick. -/
def execCalibrateEnd (s : State) : Result :=
  .next (if s.calibrateDue then s.fitAll.reportFitted.enterQuiet else s)

/-- QUIET_END (R173). -/
def execQuietEnd (s : State) : Result := .next (if s.quietDue then s.enterRun else s)

/-- OWN_PERIOD_TICK (R2), with the value the SUPPLY input delivers. -/
def execOwnPeriodTick (supply : Bool) (s : State) : Result := .next (if s.tickDue then s.ownTick supply else s)

/-- STANDBY becomes active: taken in RUN (R175); in QUIET it is taken at entry into RUN. -/
def State.standbyAsserted (s : State) : State := if s.running then s.beginStandDown else s

/-- STANDBY_ASSERT (R175). -/
def execStandbyAssert (s : State) : Result :=
  .next
    (match s.cfg.standby with
    | some p => s.onChange p true [.standby] State.standbyAsserted
    | none => s)

/-- The stand-down state returns to NORMAL (R175). -/
def State.endStandDown (s : State) : State := { s with suc := { s.suc with standDown := false } }

/-- STANDBY_DEASSERT (R175). -/
def execStandbyDeassert (s : State) : Result :=
  .next
    (match s.cfg.standby with
    | some p => s.onChange p false [.standby] State.endStandDown
    | none => s)

/-- HOLD_TIMER_EXPIRY (R164). -/
def execHoldTimerExpiry (kind : FaultKind) (s : State) : Result :=
  .next (if s.flagDue kind then s.clearFlag kind else s)

/-- BEACON_BLINK (R114): at each half-second boundary the blinking lamps take the state of their half. -/
def execBeaconBlink (s : State) : Result :=
  .next
    (if s.now % Config.blinkHalf = 0 then
      { s with fpr := { s.fpr with blinkLit := decide (s.now % (2 * Config.blinkHalf) < Config.blinkHalf) } }
    else s)

end Sys2Proof.Machine
end

