-- ==== Sys2Proof/Machine/Dispatch.lean ====
section
/-! DEFINITION. The meaning of each command: one arm per row of spec/opcode_table.json. -/

namespace Sys2Proof.Machine

open Sys2Proof

/-- The effect of a command on everything but the queue. -/
def exec (i : Instr) (s : State) : Host.Outcome State Fault Refusal :=
  match i with
  | .powerOn => Sys2Proof.Machine.execPowerOn s
  | .pinReset => Sys2Proof.Machine.execPinReset s
  | .strapSample straps => Sys2Proof.Machine.execStrapSample straps s
  | .loadEnd image levels => Sys2Proof.Machine.execLoadEnd image levels s
  | .calibrateEnd => Sys2Proof.Machine.execCalibrateEnd s
  | .quietEnd => Sys2Proof.Machine.execQuietEnd s
  | .ownPeriodTick supply => Sys2Proof.Machine.execOwnPeriodTick supply s
  | .carrierLoss p => Sys2Proof.Machine.execCarrierLoss p s
  | .darkPortTransition p => Sys2Proof.Machine.execDarkPortTransition p s
  | .linkPulse p => Sys2Proof.Machine.execLinkPulse p s
  | .dwellEnd p => Sys2Proof.Machine.execDwellEnd p s
  | .lossOfLock p => Sys2Proof.Machine.execLossOfLock p s
  | .errorWindowEnd p => Sys2Proof.Machine.execErrorWindowEnd p s
  | .crcError p => Sys2Proof.Machine.execCrcError p s
  | .frameAborted p => Sys2Proof.Machine.execFrameAborted p s
  | .announceReceived p frame => Sys2Proof.Machine.execAnnounceReceived p frame s
  | .set p frame => Sys2Proof.Machine.execSet p frame s
  | .scene p frame => Sys2Proof.Machine.execScene p frame s
  | .forget p frame => Sys2Proof.Machine.execForget p frame s
  | .driveDirA p frame => Sys2Proof.Machine.execDriveDirA p frame s
  | .driveDirB p frame => Sys2Proof.Machine.execDriveDirB p frame s
  | .driveStop p frame => Sys2Proof.Machine.execDriveStop p frame s
  | .driveClear p frame => Sys2Proof.Machine.execDriveClear p frame s
  | .transmitStart p => Sys2Proof.Machine.execTransmitStart p s
  | .arbitrationLoss p => Sys2Proof.Machine.execArbitrationLoss p s
  | .echoMismatch p => Sys2Proof.Machine.execEchoMismatch p s
  | .frameCompletion p => Sys2Proof.Machine.execFrameCompletion p s
  | .driveStale => Sys2Proof.Machine.execDriveStale s
  | .settle src => Sys2Proof.Machine.execSettle src s
  | .islandDelayExpiry => Sys2Proof.Machine.execIslandDelayExpiry s
  | .peerStale n => Sys2Proof.Machine.execPeerStale n s
  | .peerOrphan n => Sys2Proof.Machine.execPeerOrphan n s
  | .fadeBeat => Sys2Proof.Machine.execFadeBeat s
  | .inrushWindowExpiry c => Sys2Proof.Machine.execInrushWindowExpiry c s
  | .senseReading cs raw => Sys2Proof.Machine.execSenseReading cs raw s
  | .channelTrip c => Sys2Proof.Machine.execChannelTrip c s
  | .tripMemoryExpiry c => Sys2Proof.Machine.execTripMemoryExpiry c s
  | .occupancyChange pin active => Sys2Proof.Machine.execOccupancyChange pin active s
  | .listenWindowExpiry m => Sys2Proof.Machine.execListenWindowExpiry m s
  | .holdToRunTimeout m => Sys2Proof.Machine.execHoldToRunTimeout m s
  | .requestTimeLimit m => Sys2Proof.Machine.execRequestTimeLimit m s
  | .releaseGuardExpiry m => Sys2Proof.Machine.execReleaseGuardExpiry m s
  | .lockOpenChange pin active => Sys2Proof.Machine.execLockOpenChange pin active s
  | .lockClosedChange pin active => Sys2Proof.Machine.execLockClosedChange pin active s
  | .lockTimerExpiry m => Sys2Proof.Machine.execLockTimerExpiry m s
  | .endSwitchChange pin active => Sys2Proof.Machine.execEndSwitchChange pin active s
  | .travelTimeout m => Sys2Proof.Machine.execTravelTimeout m s
  | .overload m => Sys2Proof.Machine.execOverload m s
  | .stopDwellEnd m => Sys2Proof.Machine.execStopDwellEnd m s
  | .powerFaultChange pin active => Sys2Proof.Machine.execPowerFaultChange pin active s
  | .beaconBlink => Sys2Proof.Machine.execBeaconBlink s
  | .gypsyPulse pin active => Sys2Proof.Machine.execGypsyPulse pin active s
  | .homeChange pin active => Sys2Proof.Machine.execHomeChange pin active s
  | .stall m => Sys2Proof.Machine.execStall m s
  | .keySetLevel k => Sys2Proof.Machine.execKeySetLevel k s
  | .keyToggle k => Sys2Proof.Machine.execKeyToggle k s
  | .keyScene k => Sys2Proof.Machine.execKeyScene k s
  | .keyHoldDrive k => Sys2Proof.Machine.execKeyHoldDrive k s
  | .keyClear k => Sys2Proof.Machine.execKeyClear k s
  | .keyForget k => Sys2Proof.Machine.execKeyForget k s
  | .keyRelease k => Sys2Proof.Machine.execKeyRelease k s
  | .keyRepeat k => Sys2Proof.Machine.execKeyRepeat k s
  | .acknowledgeExpiry k => Sys2Proof.Machine.execAcknowledgeExpiry k s
  | .holdTimerExpiry kind => Sys2Proof.Machine.execHoldTimerExpiry kind s
  | .standbyAssert => Sys2Proof.Machine.execStandbyAssert s
  | .standbyDeassert => Sys2Proof.Machine.execStandbyDeassert s
  | .transitionFromAnotherStation p startSymbol => Sys2Proof.Machine.execTransitionFromAnotherStation p startSymbol s

end Sys2Proof.Machine
end

