-- ==== Sys2Proof/Safety.lean ====
section
/-! DEFINITION. What holds of every state a run reaches, in the terms the rules use: invariants of the budget, of the
movers and their claims, of the transmit queue, of the peer table, of line fitness and of the conditions; what the bytes
of an image spell; what the clock finds due; and the names the statements use for the commands that are frames. -/

namespace Sys2Proof.Safety

open Sys2Proof Sys2Proof.Machine

/-! ### Invariants -/

/-- An entry of the demand list keeps Table 2-2: a class-0 entry is settled and draws its W, with nothing pending; in
classes 1-7 its drawing is at most Sd, Sd at most W, a pending amount above Sd and at most W, and the drawing at most
the island ceiling (R21, R22, R28, R31, R35). -/
def EntryOk (d : Demand) : Prop :=
  if d.cls = 0 then d.settled = d.want ∧ d.drawing = d.want ∧ d.pending = none
  else
    d.drawing ≤ d.settled ∧ d.settled ≤ d.want ∧
      (∀ x, d.pending = some x → d.settled < x.1 ∧ x.1 ≤ d.want) ∧ (∀ c, d.ceiling = some c → d.drawing ≤ c)

/-- The drawings of the entries of class k together. -/
def drawn (k : Fin 8) (l : List Demand) : Nat := ((l.filter fun d => d.cls = k).map fun d => d.drawing).sum

/-- The demand list is in its order with no source twice (R20), its entries keep Table 2-2, no offer is of a class-0
entry (R30), the drawings of a class above 0 stay within its last grant (R28), and in island mode nothing is offered or
pending and every entry of classes 1-7 is settled at min(W, ceiling) (R35, R36); outside it no entry has a ceiling
(R38). -/
structure BudgetOk (s : State) : Prop where
  ordered : s.sbu.demands.Pairwise fun d e => d.key < e.key
  once : (s.sbu.demands.map fun d => d.source).Nodup
  entries : ∀ d ∈ s.sbu.demands, EntryOk d
  offers : ∀ o ∈ s.sbu.offers, ∀ d ∈ s.sbu.demands, d.source = o.1 → d.cls ≠ 0
  granted : ∀ k : Fin 8, k ≠ 0 → drawn k s.sbu.demands ≤ s.sbu.grants[k]
  island : s.inIsland = true → s.sbu.offers = [] ∧ (∀ d ∈ s.sbu.demands, d.pending = none) ∧
    ∀ d ∈ s.sbu.demands, d.cls ≠ 0 → ∃ c, d.ceiling = some c ∧ d.settled = min d.want c
  line : s.inIsland = false → ∀ d ∈ s.sbu.demands, d.ceiling = none

/-- The amount a channel's entry wants (R46). -/
def wants (k : ChannelCfg) (lreq : Nat) : Nat :=
  match k.kind with
  | .switched => k.rating
  | .dimmed => (k.rating * lreq + 255) / 256

/-- The level a drawing gives a channel (R48, R49): a SWITCHED one is on exactly when it draws its rating, a DIMMED one
runs at the level its drawing pays for, or at 0 below Lmin; one rated 0 BU runs at Lreq. -/
def levelOf (k : ChannelCfg) (lreq : Nat) (drawing : Option Nat) : Nat :=
  if k.rating = 0 then lreq
  else
    match k.kind with
    | .switched => if drawing = some k.rating then 256 else 0
    | .dimmed =>
      if min lreq (drawing.getD 0 * 256 / k.rating) < k.lmin then 0 else min lreq (drawing.getD 0 * 256 / k.rating)

/-- A requested level a channel can hold (R45). -/
def requestable (k : ChannelCfg) (lreq : Nat) : Prop :=
  match k.kind with
  | .switched => lreq = 0 ∨ lreq = 256
  | .dimmed => lreq = 0 ∨ (k.lmin ≤ lreq ∧ lreq ≤ 256)

/-- The channels keep Chapter 3: an entry exactly while Lreq is above 0 and the rating is above 0 BU, wanting what R46
gives; Leff as R48 and R49 give it from the drawing; a SWITCHED output, and a DIMMED one with fade rate 0, at its Leff
(R49, R51); a DIMMED position 0 or from Lmin to 256 (R51); a channel out of service dark (R42, R56, R57); before QUIET
and in LISTEN_ONLY every channel as after reset (R64, R65). -/
structure LevelsOk (s : State) : Prop where
  entry : ∀ c : ChannelId, (s.demandOf (.chan c)).isSome = true ↔
    (s.lcu.channels[c]).lreq ≠ 0 ∧ (s.cfg.channels[c]).rating ≠ 0
  want : ∀ (c : ChannelId) (d : Demand), s.demandOf (.chan c) = some d →
    d.cls = (s.cfg.channels[c]).cls ∧ d.rank = (s.cfg.channels[c]).rank ∧
      d.want = wants s.cfg.channels[c] (s.lcu.channels[c]).lreq
  request : ∀ c : ChannelId, requestable s.cfg.channels[c] (s.lcu.channels[c]).lreq
  level : ∀ c : ChannelId, (s.lcu.channels[c]).leff =
    levelOf s.cfg.channels[c] (s.lcu.channels[c]).lreq ((s.demandOf (.chan c)).map fun d => d.drawing)
  follows : ∀ c : ChannelId, (s.cfg.channels[c]).kind = .switched ∨ (s.cfg.channels[c]).fade = 0 →
    (s.lcu.channels[c]).position = (s.lcu.channels[c]).leff
  position : ∀ c : ChannelId, (s.lcu.channels[c]).position = 0 ∨
    ((s.cfg.channels[c]).lmin ≤ (s.lcu.channels[c]).position ∧ (s.lcu.channels[c]).position ≤ 256)
  dark : ∀ c : ChannelId, (s.lcu.channels[c]).mark ≠ .inService →
    (s.lcu.channels[c]).lreq = 0 ∧ (s.lcu.channels[c]).position = 0
  minimum : ∀ c : ChannelId, (s.cfg.channels[c]).lmin ≤ 128
  early : s.working = false → ∀ c : ChannelId, s.lcu.channels[c] = {}

/-- The phases in which a mover may move or its lock may be open or opening: its claim is HELD (R100, R101, R105). -/
def holdsZones : MoverPhase → Bool
  | .unlocking | .running | .stopping | .locking => true
  | .idle | .requesting | .faulted | .unfitted => false

/-- A mover has a demand entry and a claim exactly in REQUESTING to LOCKING, the entry wanting its run rating in its class
and rank (R90, R20), the claim is HELD from UNLOCKING on (R97), a slot without a record has neither, no record is in
force before QUIET and in LISTEN_ONLY (R116), the two own claims are never both HELD on a common zone (R75), and every
chain count lies within 0-4095 (R120). -/
structure MotionOk (s : State) : Prop where
  entry : ∀ m r, s.mover m = some r → (r.phase.inMotion = true ↔ (s.demandOf (.mover m)).isSome = true)
  claim : ∀ m r, s.mover m = some r → (r.phase.inMotion = true ↔ s.claim m ≠ .unclaimed)
  held : ∀ m r, s.mover m = some r → holdsZones r.phase = true → s.claim m = .held
  want : ∀ m d, s.demandOf (.mover m) = some d → d.want = (s.moverCfg m).runRating ∧
    d.cls = (s.moverCfg m).cls ∧ d.rank = (s.moverCfg m).rank
  absent : ∀ m, s.mover m = none → s.claim m = .unclaimed ∧ s.demandOf (.mover m) = none
  early : s.working = false → ∀ m, s.mover m = none
  apart : ¬(s.claim 0 = .held ∧ s.claim 1 = .held ∧ zonesMeet (s.zonesOf 0) (s.zonesOf 1) = true)
  count : ∀ m r, s.mover m = some r → r.count ≤ 4095
  retained : ∀ m x, s.mvu.retained[(m : MoverId)] = some x → x.1 ≤ 4095

/-- A queued frame is an ANNOUNCE. -/
def isAnnounceFrame (q : Queued) : Prop := ∃ src a, q.frame = .announce src a

/-- The transmit queue holds at most one ANNOUNCE, in its slot, and four command frames (R157), and nothing while TWIN
is active (R15). -/
structure QueueOk (s : State) : Prop where
  slot : ∀ q, s.liu.slot = some q → isAnnounceFrame q
  depth : s.liu.fifo.length ≤ 4
  commands : ∀ q ∈ s.liu.fifo, ¬isAnnounceFrame q
  silent : s.active .twin = true → s.liu.slot = none ∧ s.liu.fifo = []

/-- The slot of the own number is ABSENT (R3); in STRAP, where the number is not known yet, every slot is. -/
structure TableOk (s : State) : Prop where
  own : ∀ n i, s.suc.ownNumber = some n → slotOf n = some i → s.ptu.peers[i] = none
  strap : s.suc.phase = .strap → ∀ i : SlotId, s.ptu.peers[i] = none

/-- In RUN, LINE_UNFIT is active exactly while line fitness does not hold (R154). -/
def FitnessOk (s : State) : Prop := s.running = true → s.active .lineUnfit = !s.lineFit

/-- Every consumer is bound to a pin that carries its own function (R133). -/
structure BindingsOk (cfg : Cfg) : Prop where
  occupancy : ∀ (z : Fin 16) (p : PinId), cfg.occupancy[z] = some p → (cfg.pins[p]).fn = .occupancy
  supply : ∀ p : PinId, cfg.supply = some p → (cfg.pins[p]).fn = .supply
  standby : ∀ p : PinId, cfg.standby = some p → (cfg.pins[p]).fn = .standby
  keys : ∀ (k : KeyId) (p : PinId), (cfg.keys[k]).pin = some p → (cfg.pins[p]).fn = .key
  movers : ∀ (m : MoverId) (c : MoverCfg) (p : PinId), cfg.movers[m] = some c →
    (c.endA = some p → (cfg.pins[p]).fn = .endA) ∧ (c.endB = some p → (cfg.pins[p]).fn = .endB) ∧
    (c.lockOpen = some p → (cfg.pins[p]).fn = .lockOpen) ∧ (c.lockClosed = some p → (cfg.pins[p]).fn = .lockClosed) ∧
    (c.gypsy = some p → (cfg.pins[p]).fn = .gypsy) ∧ (c.home = some p → (cfg.pins[p]).fn = .home) ∧
    (c.powerFault = some p → (cfg.pins[p]).fn = .powerFault)

/-- What R101 and R109 require of movers: one that is UNLOCKING or RUNNING holds its zones with none of them occupied,
draws its full run rating, and has line fitness; while a HALT fault is active none is in motion; and no mover is in
motion outside RUN (R116). The other clauses are what makes this hold from step to step. -/
structure MoversSafe (s : State) : Prop where
  moving : ∀ m r, s.mover m = some r → r.phase = .unlocking ∨ r.phase = .running →
    s.claim m = .held ∧ s.zoneOccupied m = false ∧ s.granted m = true ∧ s.lineFit = true ∧
      ∃ d, s.demandOf (.mover m) = some d ∧ d.drawing = (s.moverCfg m).runRating
  halted : s.haltActive = true → ∀ m r, s.mover m = some r → r.phase.inMotion = false
  inRun : ∀ m r, s.mover m = some r → r.phase.inMotion = true → s.running = true
  early : s.working = false → ∀ m, s.mover m = none
  fitness : FitnessOk s
  pump : s.active .pumpFault = (s.anyPowerFault || s.anyFaulted .pumpFault)
  bound : BindingsOk s.cfg

/-- PEER_ORPHANED is active exactly while at least one record is ORPHAN (R10). -/
def OrphansShown (s : State) : Prop :=
  s.active .peerOrphaned = true ↔ ∃ (i : SlotId) (r : PeerRec), s.ptu.peers[i] = some r ∧ r.status = .orphan

/-- The conditions stand as their owners' rules give them: PORT_DARK and PORT_UNFIT (R150, R153), ISLAND (R34), the
kinds that hold while a mover is FAULTED with their reason (R107, R126), COUNT_UNKNOWN (R122), CHANNEL_LOCKOUT (R57),
SENSE_FAULT (R146), CONFIG_INVALID and BAD_NUMBER (R174, in LISTEN_ONLY of either cause), SUPPLY_SHORT, which no tick has
judged outside QUIET and RUN (R25, R40). Before QUIET and in LISTEN_ONLY no mover record is in force and no channel is
locked out. The image is judged in LOAD and the number taken in STRAP (R171, R172). -/
structure ConditionsOk (s : State) : Prop where
  dark : ∀ p : PortId, s.active (darkKind p) = (s.portsOperate && portDarkHolds s.liu.ports[p])
  unfit : ∀ p : PortId, s.active (unfitKind p) = (s.portsOperate && portUnfitHolds s.liu.ports[p])
  island : s.active .island = s.inIsland
  lockJam : s.active .lockJam = s.anyFaulted .lockJam
  travel : s.active .travelTimeout = s.anyFaulted .travelTimeout
  overload : s.active .overload = s.anyFaulted .overload
  stall : s.active .stall = s.anyFaulted .stall
  clash : s.active .clash = s.anyFaulted .clash
  count : s.active .countUnknown = s.anyCountUnknown
  lockout : s.active .channelLockout = true ↔ ∃ c : ChannelId, (s.lcu.channels[c]).mark = .lockedOut
  sense : s.active .senseFault = true ↔ ∃ cs : SenseId, s.senseFaulty cs = true
  config : s.active .configInvalid = true ↔ s.suc.phase = .listenOnly ∧ s.suc.image = .invalid
  number : s.active .badNumber = true ↔ s.suc.phase = .listenOnly ∧ s.suc.ownNumber = none
  supply : s.working = false → s.active .supplyShort = false
  strap : s.suc.phase = .strap → s.suc.ownNumber = none ∧ s.suc.image = .unread
  load : s.suc.phase = .load → s.suc.ownNumber ≠ none ∧ s.suc.image = .unread
  early : s.working = false → (∀ m, s.mover m = none) ∧ ∀ c : ChannelId, s.lcu.channels[c] = {}

/-! ### The configuration image (Section 8.7) -/

/-- Byte i of the serial memory as LOAD reads it, all ones past the end of what the memory holds
(notes/assumptions/14.md). -/
def memByte (memory : List Byte) (i : Nat) : Nat := (memory.getD i 255#8).toNat

/-- The two-byte field at byte i, its most significant byte first (R163). -/
def memWord (memory : List Byte) (i : Nat) : Nat := memByte memory i * 256 + memByte memory (i + 1)

/-- A field that selects its default by holding all ones. -/
def given (field ones dflt : Nat) : Nat := if field = ones then dflt else field

/-- The length of a section (Tables 8-10 to 8-17); the scenes section is as long as its 32 counts make it. -/
def sectionLength (memory : List Byte) (o : Nat → Nat) (code : Nat) : Nat :=
  match code with
  | 1 => 36
  | 2 => 5
  | 3 => 96
  | 4 => 108
  | 5 => 68
  | 6 => 96
  | _ => 32 + 3 * ((List.range 32).map fun n => memByte memory (o 7 + n)).sum

/-- The header, the CRC and the directory stand as R172 requires, with the section of each code at offset o code. -/
structure ImageWhole (memory : List Byte) (o : Nat → Nat) : Prop where
  length : 41 ≤ memWord memory 0 ∧ memWord memory 0 ≤ 2048
  crc : crc16 ((List.range (memWord memory 0 - 2)).map fun i => memory.getD i 255#8) =
    memWord memory (memWord memory 0 - 2)
  header : memByte memory 2 = 1 ∧ memByte memory 3 = 7
  directory : ∀ code, 1 ≤ code → code ≤ 7 → ∃ i, i < 7 ∧ memByte memory (4 + 5 * i) = code ∧
    memWord memory (5 + 5 * i) = o code ∧ memWord memory (7 + 5 * i) = sectionLength memory o code ∧
    ∀ j, j < 7 → memByte memory (4 + 5 * j) = code → j = i
  inside : ∀ code, 1 ≤ code → code ≤ 7 →
    39 ≤ o code ∧ o code + sectionLength memory o code ≤ memWord memory 0 - 2
  apart : ∀ a b, 1 ≤ a → a ≤ 7 → 1 ≤ b → b ≤ 7 → a ≠ b →
    o a + sectionLength memory o a ≤ o b ∨ o b + sectionLength memory o b ≤ o a

/-- The code of a pin function (Table 8-13). -/
def pinFnCode : PinFn → Nat
  | .unused => 0 | .key => 1 | .endA => 2 | .endB => 3 | .lockOpen => 4 | .lockClosed => 5 | .gypsy => 6 | .home => 7
  | .powerFault => 8 | .occupancy => 9 | .supply => 10 | .standby => 11 | .channelOut => 12 | .driveA => 13
  | .driveB => 14 | .slow => 15 | .powerEnable => 16 | .lockRelease => 17 | .beacon => 18 | .keyIndicator => 19
  | .alert => 20 | .peerAlert => 21 | .drained => 22

/-- The byte of a binding: the pin, or 255 unbound. -/
def bindingByte : Option PinId → Nat
  | some p => p.val
  | none => 255

/-- The places of four that are not empty, in order. -/
def numbersAt (memory : List Byte) (at' : Nat) : List Nat :=
  ((List.range 4).map fun i => memByte memory (at' + i)).filter fun n => n ≠ 0

/-- The mover slot at byte a (Table 8-15): a kind of 0 leaves it unconfigured; a HATCH or PLATFORM has its travel time,
its lock and their bindings, a WINDLASS its chain configuration and its own; the defaults are those of Table 5-1 and
Table 6-1. -/
def SpellsMover (memory : List Byte) (a : Nat) : Option MoverCfg → Prop
  | none => memByte memory a = 0
  | some c =>
    memByte memory a = (match c.kind with | .hatch => 1 | .platform => 2 | .windlass => 3) ∧
    c.zones.toNat = memWord memory (a + 1) ∧ c.runRating = memWord memory (a + 3) ∧
    c.cls.val = given (memByte memory (a + 5)) 255 1 ∧ c.rank = given (memByte memory (a + 6)) 255 0 ∧
    c.overcurrent = memWord memory (a + 7) ∧ c.stopDwell = 10 * given (memByte memory (a + 11)) 255 30 ∧
    c.holdTimeout = 10 * given (memByte memory (a + 12)) 255 35 ∧ c.commandList = numbersAt memory (a + 13) ∧
    bindingByte c.powerFault = memByte memory (a + 33) ∧
    (c.kind ≠ .windlass →
      c.travel = 1000 * memByte memory (a + 9) ∧ bit c.lockFitted = given (memByte memory (a + 10)) 255 0 ∧
      bindingByte c.endA = memByte memory (a + 27) ∧ bindingByte c.endB = memByte memory (a + 28) ∧
      (c.lockFitted = true → bindingByte c.lockOpen = memByte memory (a + 29) ∧
        bindingByte c.lockClosed = memByte memory (a + 30)) ∧
      (c.lockFitted = false → c.lockOpen = none ∧ c.lockClosed = none) ∧
      c.chain = {} ∧ c.gypsy = none ∧ c.home = none) ∧
    (c.kind = .windlass →
      c.travel = 0 ∧ memByte memory (a + 10) ≠ 1 ∧ c.lockFitted = false ∧
      c.chain = { pitch := memWord memory (a + 17), slowCount := memWord memory (a + 19)
                  maxCount := memWord memory (a + 21), stallThreshold := memWord memory (a + 23)
                  stallTime := 10 * given (memWord memory (a + 25)) 65535 150 } ∧
      bindingByte c.gypsy = memByte memory (a + 31) ∧ bindingByte c.home = memByte memory (a + 32) ∧
      c.endA = none ∧ c.endB = none ∧ c.lockOpen = none ∧ c.lockClosed = none)

/-- The key entry at byte a (Table 8-16): an action of 0 leaves it without one, and the operands of the others are those
of Table 7-5. -/
def SpellsKey (memory : List Byte) (a : Nat) (c : KeyCfg) : Prop :=
  let is := fun (code : Nat) => memByte memory (a + 1) = code ∧ bindingByte c.pin = memByte memory a
  match c.action with
  | .nothing => memByte memory (a + 1) = 0 ∧ c.pin = none
  | .setLevel target channel level => is 1 ∧ target = memByte memory (a + 2) ∧ channel.val = memByte memory (a + 3) ∧
      level = memWord memory (a + 4)
  | .toggle target channel level => is 2 ∧ target = memByte memory (a + 2) ∧ channel.val = memByte memory (a + 3) ∧
      level = memWord memory (a + 4)
  | .scene number => is 3 ∧ number.val = memByte memory (a + 3)
  | .holdDrive target mover d => is 4 ∧ target = memByte memory (a + 2) ∧ mover.val = memByte memory (a + 3) ∧
      memWord memory (a + 4) = (match d with | .dirA => 1 | .dirB => 2)
  | .clear target mover => is 5 ∧ target = memByte memory (a + 2) ∧ mover.val = memByte memory (a + 3)
  | .forget target => is 6 ∧ target = memByte memory (a + 2)

/-- The configuration spelled by the sections at the offsets o (Tables 8-10 to 8-17), field by field, with the defaults of
the chapters where a field that has one holds all ones. -/
structure Spells (memory : List Byte) (o : Nat → Nat) (cfg : Cfg) : Prop where
  budget : cfg.s0 = memWord memory (o 1) ∧ cfg.s1 = memWord memory (o 1 + 2) ∧ cfg.margin = memWord memory (o 1 + 4) ∧
    cfg.islandCap = memWord memory (o 1 + 6) ∧ cfg.settle = 10 * given (memByte memory (o 1 + 8)) 255 40 ∧
    cfg.islandDelay = 10 * given (memWord memory (o 1 + 9)) 65535 100
  station : (match cfg.period with | .ms50 => 0 | .ms100 => 1 | .ms200 => 2) = given (memByte memory (o 1 + 11)) 255 1 ∧
    cfg.listenWindow = 10 * given (memByte memory (o 1 + 12)) 255 30 ∧ cfg.officers = numbersAt memory (o 1 + 13) ∧
    2 * bit cfg.reportNotice + bit cfg.reportDegraded = given (memByte memory (o 1 + 17)) 255 1
  consumers : (∀ z : Fin 16, bindingByte cfg.occupancy[z] = memByte memory (o 1 + 18 + z.val)) ∧
    bindingByte cfg.supply = memByte memory (o 1 + 34) ∧ bindingByte cfg.standby = memByte memory (o 1 + 35)
  ports : cfg.ports.eqFloor = given (memByte memory (o 2)) 255 0 ∧
    cfg.ports.eqMax = given (memByte memory (o 2 + 1)) 255 15 ∧
    cfg.ports.dwell = 2 ^ (1 + given (memByte memory (o 2 + 2)) 255 1) ∧
    cfg.ports.errorThreshold = given (memByte memory (o 2 + 3)) 255 4 ∧
    (match cfg.ports.selection with | .portA => 0 | .portB => 1 | .either => 2 | .both => 3) =
      given (memByte memory (o 2 + 4)) 255 2
  pins : ∀ p : PinId, pinFnCode (cfg.pins[p]).fn = memByte memory (o 3 + 3 * p.val) ∧
    ((cfg.pins[p]).inverted = true ↔ 128 ≤ memByte memory (o 3 + 3 * p.val + 1)) ∧
    ((cfg.pins[p]).filtered = true ↔ memByte memory (o 3 + 3 * p.val + 1) / 64 % 2 = 1) ∧
    (cfg.pins[p]).arg =
      if argLimit (cfg.pins[p]).fn = none then 0 else memByte memory (o 3 + 3 * p.val + 2)
  channels : ∀ c : ChannelId,
    (match (cfg.channels[c]).kind with | .switched => 0 | .dimmed => 1) = memByte memory (o 4 + 9 * c.val) ∧
    (cfg.channels[c]).rating = memWord memory (o 4 + 9 * c.val + 1) ∧
    (cfg.channels[c]).cls.val = memByte memory (o 4 + 9 * c.val + 3) ∧
    (cfg.channels[c]).rank = memByte memory (o 4 + 9 * c.val + 4) ∧
    (cfg.channels[c]).lmin = memByte memory (o 4 + 9 * c.val + 5) ∧
    (cfg.channels[c]).fade = memByte memory (o 4 + 9 * c.val + 6) ∧
    (cfg.channels[c]).trip = memWord memory (o 4 + 9 * c.val + 7)
  movers : ∀ m : MoverId, SpellsMover memory (o 5 + 34 * m.val) cfg.movers[m]
  keys : ∀ k : KeyId, SpellsKey memory (o 6 + 6 * k.val) cfg.keys[k]
  scenes : ∀ n : Fin 32,
    let start := o 7 + 32 + 3 * ((List.range n.val).map fun i => memByte memory (o 7 + i)).sum
    (cfg.scenes[n]).map (fun q => (q.channel.val, q.level)) =
      (List.range (memByte memory (o 7 + n.val))).map fun j =>
        (memByte memory (start + 3 * j), memWord memory (start + 3 * j + 1))

/-- A list of up to four station numbers. -/
def Numbered (l : List Nat) : Prop := l.length ≤ 4 ∧ ∀ n ∈ l, 1 ≤ n ∧ n ≤ 48

/-- A configured mover keeps the ranges of Tables 5-1 and 6-1, with 1-4 zones (R66), no lock on a windlass (R87), and its
slow-zone count not above its maximum (R118). -/
structure MoverRanges (c : MoverCfg) : Prop where
  all : c.runRating ≤ 4095 ∧ c.rank ≤ 15 ∧ (1 ≤ zoneCount c.zones ∧ zoneCount c.zones ≤ 4) ∧
    (1 ≤ c.overcurrent ∧ c.overcurrent ≤ 2047) ∧ (100 ≤ c.stopDwell ∧ c.stopDwell ≤ 2000 ∧ c.stopDwell % 10 = 0) ∧
    (250 ≤ c.holdTimeout ∧ c.holdTimeout ≤ 1000 ∧ c.holdTimeout % 10 = 0) ∧ Numbered c.commandList
  windlass : c.kind = .windlass → c.lockFitted = false ∧ c.chain.slowCount ≤ c.chain.maxCount ∧
    (1 ≤ c.chain.maxCount ∧ c.chain.maxCount ≤ 4095) ∧ (100 ≤ c.chain.pitch ∧ c.chain.pitch ≤ 1000) ∧
    (1 ≤ c.chain.stallThreshold ∧ c.chain.stallThreshold ≤ 2047) ∧
    (500 ≤ c.chain.stallTime ∧ c.chain.stallTime ≤ 3000 ∧ c.chain.stallTime % 10 = 0)
  other : c.kind ≠ .windlass → 1000 ≤ c.travel ∧ c.travel ≤ 120000 ∧ c.travel % 1000 = 0

/-- The operands of a key action lie in their ranges (R138). -/
def ActionRanges : KeyAction → Prop
  | .nothing => True
  | .setLevel target _ level => (1 ≤ target ∧ target ≤ 48) ∧ level ≤ 256
  | .toggle target _ level => (1 ≤ target ∧ target ≤ 48) ∧ 1 ≤ level ∧ level ≤ 256
  | .scene _ => True
  | .holdDrive target _ _ => 1 ≤ target ∧ target ≤ 48
  | .clear target _ => 1 ≤ target ∧ target ≤ 48
  | .forget target => 1 ≤ target ∧ target ≤ 48

/-- The ranges and the cross-checks LOAD holds a configuration to (R172): Table 2-1 with the margin under both capacities
(R19), Tables 8-2 and 3-1, the arguments of output pins and the bindings (R133), the movers, the class-0 ratings together
(R19), the scenes (R60), the key actions (R138). -/
structure RangesOk (cfg : Cfg) : Prop where
  budget : cfg.margin ≤ min cfg.s0 cfg.s1 ∧ cfg.s0 ≤ 9999 ∧ cfg.s1 ≤ 9999 ∧ cfg.islandCap ≤ 4095 ∧
    (100 ≤ cfg.settle ∧ cfg.settle ≤ 2000 ∧ cfg.settle % 10 = 0) ∧
    (200 ≤ cfg.islandDelay ∧ cfg.islandDelay ≤ 5000 ∧ cfg.islandDelay % 10 = 0)
  station : (100 ≤ cfg.listenWindow ∧ cfg.listenWindow ≤ 1000 ∧ cfg.listenWindow % 10 = 0) ∧ Numbered cfg.officers
  ports : (cfg.ports.eqFloor ≤ cfg.ports.eqMax ∧ cfg.ports.eqMax ≤ 15) ∧
    (cfg.ports.dwell = 2 ∨ cfg.ports.dwell = 4 ∨ cfg.ports.dwell = 8 ∨ cfg.ports.dwell = 16) ∧
    (1 ≤ cfg.ports.errorThreshold ∧ cfg.ports.errorThreshold ≤ 15)
  pins : ∀ (p : PinId) (top : Nat), argLimit (cfg.pins[p]).fn = some top → (cfg.pins[p]).arg ≤ top
  channels : ∀ c : ChannelId, (cfg.channels[c]).rating ≤ 400 ∧ (cfg.channels[c]).rank ≤ 15 ∧
    (cfg.channels[c]).lmin ≤ 128 ∧ (cfg.channels[c]).fade ≤ 64 ∧ 1 ≤ (cfg.channels[c]).trip ∧
    (cfg.channels[c]).trip ≤ 400
  movers : ∀ (m : MoverId) (c : MoverCfg), cfg.movers[m] = some c → MoverRanges c
  essential : ((List.finRange 12).map fun (c : ChannelId) =>
        if (cfg.channels[c]).cls = 0 then (cfg.channels[c]).rating else 0).sum +
      ((List.finRange 2).map fun (m : MoverId) =>
        match cfg.movers[m] with
        | some c => if c.cls = 0 then c.runRating else 0
        | none => 0).sum ≤ 4095
  scenes : (∀ n : Fin 32, (cfg.scenes[n]).length ≤ 12 ∧ (∀ q ∈ cfg.scenes[n], q.level ≤ 256) ∧
      ((cfg.scenes[n]).map fun q => q.channel).Nodup) ∧
    ((List.finRange 32).map fun (n : Fin 32) => (cfg.scenes[n]).length).sum ≤ 128
  keys : ∀ k : KeyId, ActionRanges (cfg.keys[k]).action
  bound : BindingsOk cfg

/-! ### What the clock finds due -/

/-- The command has come due by the time base at this instant: the timer, the span, the window or the beat it ends has run
its time in full. What comes from the straps, the memory, the pairs and the pins never does. -/
def DueNow (s : State) : Instr → Prop
  | .senseReading cs raw => raw = (s.csa.inputs[cs]).raw ∧ senseInUse s.cfg cs = true ∧
      (s.suc.phase = .calibrate ∨ (s.working = true ∧ (s.csa.inputs[cs]).faulty = false))
  | .calibrateEnd => s.suc.phase = .calibrate ∧ s.suc.since + 64 ≤ s.now
  | .quietEnd => s.suc.phase = .quiet ∧ s.suc.since + 3 * s.cfg.period.ms ≤ s.now
  | .ownPeriodTick supply => s.delivers = true ∧ supply = s.input s.cfg.supply ∧
      ∃ k, s.suc.nextTick = some k ∧ k ≤ s.now
  | .carrierLoss p => s.portsOperate = true ∧ ∃ k, (s.liu.ports[p]).carrier = some k ∧ k + 20 ≤ s.now
  | .dwellEnd p => s.portsOperate = true ∧ (s.liu.ports[p]).state = .seeking ∧
      ∃ d, (s.liu.ports[p]).dwell = some d ∧ d.start + s.cfg.ports.dwell ≤ s.now
  | .errorWindowEnd p => s.portsOperate = true ∧ (s.liu.ports[p]).state = .fit ∧
      ∃ k, (s.liu.ports[p]).windowEnd = some k ∧ k ≤ s.now
  | .linkPulse p => s.mayTransmit = true ∧ (s.liu.ports[p]).attempt = none ∧
      (s.liu.ports[p]).lastTransition + 1 ≤ s.now
  | .driveStale => ∃ q ∈ s.liu.fifo, q.frame.kindCode = 1 ∧ q.queuedAt + 200 ≤ s.now
  | .settle src => ∃ d ∈ s.sbu.demands, d.source = src ∧ ∃ x, d.pending = some x ∧ x.2 + s.cfg.settle ≤ s.now
  | .islandDelayExpiry => ∃ k, s.sbu.islandTimer = some k ∧ k ≤ s.now
  | .peerStale n => ∃ r, s.ptu.peers[n] = some r ∧ r.status = .live ∧ r.heard + 3 * r.ann.period.ms ≤ s.now
  | .peerOrphan n => ∃ r, s.ptu.peers[n] = some r ∧ r.status ≠ .orphan ∧ r.heard + 10 * r.ann.period.ms ≤ s.now
  | .inrushWindowExpiry c => ∃ k, (s.lcu.channels[c]).inrush = some k ∧ k ≤ s.now
  | .channelTrip c =>
      (0 < (s.lcu.channels[c]).position ∧ ∃ k, (s.lcu.channels[c]).overTime = some k ∧ k + 100 ≤ s.now) ∨
      ((s.lcu.channels[c]).mark = .inService ∧ (s.lcu.channels[c]).owedTrip = some s.now)
  | .tripMemoryExpiry c => ∃ k, (s.lcu.channels[c]).tripMemory = some k ∧ k ≤ s.now
  | .fadeBeat => s.now % 10 = 0
  | .listenWindowExpiry m => ∃ start, s.claim m = .listening start ∧ start + s.cfg.listenWindow ≤ s.now
  | .holdToRunTimeout m => ∃ r k, s.mover m = some r ∧ r.lastDrive = some k ∧
      (r.phase = .requesting ∨ r.phase = .unlocking ∨ r.phase = .running ∨ r.phase = .stopping) ∧
      k + (s.moverCfg m).holdTimeout ≤ s.now
  | .requestTimeLimit m => ∃ r k, s.mover m = some r ∧ r.phase = .requesting ∧ r.timer = some k ∧ k ≤ s.now
  | .releaseGuardExpiry m => ∃ r x, s.mover m = some r ∧ r.releaseGuard = some x ∧ x.2 ≤ s.now
  | .lockTimerExpiry m => ∃ r k, s.mover m = some r ∧ (r.phase = .unlocking ∨ r.phase = .locking) ∧
      r.timer = some k ∧ k ≤ s.now
  | .travelTimeout m => ∃ r k, s.mover m = some r ∧ (s.moverCfg m).kind ≠ .windlass ∧ r.phase = .running ∧
      r.timer = some k ∧ k ≤ s.now
  | .overload m => ∃ r k, s.mover m = some r ∧ r.phase = .running ∧ r.overTime = some k ∧ k + 200 ≤ s.now
  | .stopDwellEnd m => ∃ r k, s.mover m = some r ∧ r.phase = .stopping ∧ r.timer = some k ∧ k ≤ s.now
  | .stall m => ∃ r k, s.mover m = some r ∧ (s.moverCfg m).kind = .windlass ∧ r.phase = .running ∧
      r.stallSpan = some k ∧ k + (s.moverCfg m).chain.stallTime ≤ s.now
  | .keyRepeat k => s.working = true ∧ (s.ktu.keys[k]).held = true ∧ (s.ktu.keys[k]).standing = .driving ∧
      ∃ n, (s.ktu.keys[k]).nextRepeat = some n ∧ n ≤ s.now
  | .acknowledgeExpiry k => ∃ n, (s.ktu.keys[k]).ackUntil = some n ∧ n ≤ s.now
  | .holdTimerExpiry kind => isEvent kind = true ∧ ∃ n, (s.fcl.flags[kind.idx]).hold = some n ∧ n ≤ s.now
  | .beaconBlink => s.now % 500 = 0
  | .powerOn | .pinReset | .strapSample _ | .loadEnd _ _ | .standbyAssert | .standbyDeassert | .darkPortTransition _
  | .lossOfLock _ | .crcError _ | .frameAborted _ | .transmitStart _ | .arbitrationLoss _ | .echoMismatch _
  | .frameCompletion _ | .transitionFromAnotherStation _ _ | .announceReceived _ _ | .set _ _ | .scene _ _
  | .forget _ _ | .driveDirA _ _ | .driveDirB _ _ | .driveStop _ _ | .driveClear _ _ | .occupancyChange _ _
  | .lockOpenChange _ _ | .lockClosedChange _ _ | .endSwitchChange _ _ | .powerFaultChange _ _ | .gypsyPulse _ _
  | .homeChange _ _ | .keySetLevel _ | .keyToggle _ | .keyScene _ | .keyHoldDrive _ | .keyClear _ | .keyForget _
  | .keyRelease _ => False

/-! ### Frames on a port -/

/-- A good frame with these fields ends on port p, in a phase that delivers frames (R160, R161). -/
def GoodFrame (s : State) (p : PortId) (frame : List Byte) (f : Frame) : Prop :=
  s.hears p = true ∧ s.delivers = true ∧ frameWhole frame = true ∧ crcGood frame = true ∧ parseFrame frame = some f

/-- Port p has heard a good frame of another station now: a transition is seen (R150); a LOCKED port counts the frame,
and the eighth in a row makes it FIT, whose PORT_UNFIT clears (R153). -/
def heardNow (s : State) (p : PortId) : State :=
  if (s.liu.ports[p]).state ≠ .locked then
    s.onPort p fun x => { x with carrier := some s.now, lastTransition := s.now }
  else if (s.liu.ports[p]).good + 1 < 8 then
    s.onPort p fun x => { x with carrier := some s.now, lastTransition := s.now, good := x.good + 1 }
  else
    let t := s.onPort p fun x =>
      { x with
        carrier := some s.now
        lastTransition := s.now
        state := .fit
        good := 8
        wasFit := true
        errors := 0
        windowEnd := some (s.now + 1000) }
    if s.active (unfitKind p) = true then t.clearFlag (unfitKind p) else t

/-- A good frame on port p does not move line fitness, and the port's conditions and line fitness stand as reported. The
port is in any state but DARK; a LOCKED one counts the frame. -/
def Calm (s : State) (p : PortId) : Prop :=
  (heardNow s p).lineFit = s.lineFit ∧ s.active (darkKind p) = portDarkHolds s.liu.ports[p] ∧
    s.active (unfitKind p) = portUnfitHolds s.liu.ports[p] ∧ FitnessOk s

/-- The eight commands that are frames. -/
def frameCommands (p : PortId) (frame : List Byte) : List Instr :=
  [.announceReceived p frame, .set p frame, .scene p frame, .forget p frame, .driveDirA p frame, .driveDirB p frame,
    .driveStop p frame, .driveClear p frame]

/-- A good frame ends on port p, and command c is its row; a malformed frame may come as any row (R160, R161). -/
def GoodFrameOf (c : Instr) (s : State) (p : PortId) (frame : List Byte) : Prop :=
  s.hears p = true ∧ frameWhole frame = true ∧ crcGood frame = true ∧
    ((parseFrame frame = none ∧ c ∈ frameCommands p frame) ∨ ∃ f, parseFrame frame = some f ∧ c = rowOf p frame f)

/-- The command a DRIVE of a motion is. -/
def driveCommand (motion : Motion) (p : PortId) (frame : List Byte) : Instr :=
  match motion with
  | .dirA => .driveDirA p frame
  | .dirB => .driveDirB p frame
  | .stop => .driveStop p frame
  | .clear => .driveClear p frame

/-- The motion of a direction's DRIVE. -/
def motionFor : Dir → Motion
  | .dirA => .dirA
  | .dirB => .dirB

/-- The other direction. -/
def opposite : Dir → Dir
  | .dirA => .dirB
  | .dirB => .dirA

/-- A DRIVE for mover m of the own station, from a station of its command list, ends on port p. -/
def DriveFor (s : State) (p : PortId) (frame : List Byte) (src : Nat) (m : MoverId) (motion : Motion) : Prop :=
  ∃ own, s.suc.ownNumber = some own ∧ GoodFrame s p frame (.drive src own m motion) ∧
    src ∈ (s.moverCfg m).commandList

/-- What an indicator or a panel reads of mover m of a target station: the phase and the position summary, from the own
MVU or from the one entry of that index in the target's record (R145). -/
def ReadsMover (s : State) (target : Nat) (m : MoverId) (phase : MoverPhase) (summary : Summary) : Prop :=
  (s.suc.ownNumber = some target ∧ ∃ r, s.mover m = some r ∧ phase = r.phase ∧ summary = s.summary m) ∨
  (s.suc.ownNumber ≠ some target ∧ ∃ (i : SlotId) (x : PeerRec) (y : MoverStatus), slotOf target = some i ∧
    s.ptu.peers[i] = some x ∧ y ∈ x.ann.movers ∧ y.index = m ∧ (∀ z ∈ x.ann.movers, z.index = m → z = y) ∧
    phase = y.phase ∧ summary = y.summary)

/-- There is nothing to read of mover m of a target station: no own record, an ABSENT slot, or no entry of that index
(R145). -/
def ReadsNoMover (s : State) (target : Nat) (m : MoverId) : Prop :=
  (s.suc.ownNumber = some target ∧ s.mover m = none) ∨
  (s.suc.ownNumber ≠ some target ∧ ∀ (i : SlotId) (x : PeerRec), slotOf target = some i → s.ptu.peers[i] = some x →
    ∀ y ∈ x.ann.movers, y.index ≠ m)

/-- The flag of an event kind after an occurrence now: active, held for 5 s (R164). -/
def occurred (now : Nat) : Flag := { active := true, hold := some (now + 5000) }

/-- The ANNOUNCE in the slot was composed now and carries the station's state as it stands. -/
def AnnouncesNow (t : State) : Prop :=
  ∃ q, t.liu.slot = some q ∧ q.frame = .announce t.number t.announceNow ∧ q.queuedAt = t.now ∧
    q.sent = Vector.replicate 2 false ∧ q.mismatch = Vector.replicate 2 false ∧ t.sbu.offers = t.offersNow

/-- The fault collector of t is that of s but for an occurrence of an event kind now (R164, R167). -/
def OccurredNow (s t : State) (k : FaultKind) : Prop :=
  t.fcl.flags[k.idx] = occurred s.now ∧ (∀ j : FaultKind, j ≠ k → t.fcl.flags[j.idx] = s.fcl.flags[j.idx]) ∧
    t.fcl.tickCount = s.fcl.tickCount ∧
    t.fcl.firstFault =
      if s.active k = false ∧ s.fcl.firstFault = none ∧ reportEnabled s.cfg (kindSeverity k) = true
      then some (k, s.fcl.tickCount) else s.fcl.firstFault

end Sys2Proof.Safety
end

