-- ==== Sys2Proof/Certificates/Slice0/Obligations.lean ====
section
/-! DEFINITION. The statements for the provers, in the order of OBLIGATIONS.json. Where a statement rests on a choice
of the model, its docstring names the log entry. -/

open Sys2Proof Sys2Proof.Machine Sys2Proof.Safety

/-! ### The step and the clock -/

/-- A step takes the command at the front of the queue and runs it on the station with the queue's rest (the model's
choice, notes/assumptions/1.md). -/
def Obligations.StepTakesTheFrontCommand : Prop :=
  ∀ (c : Instr) (rest : List Instr) (s : State), s.pending = c :: rest →
    step s = exec c { s with pending := rest }

/-- With no command waiting a step passes 1 ms: the time base rises by one, and nothing but the pins' conditioning and
the queue moves; at the end of the 48-bit time base the station stops (the model's choice, notes/assumptions/1.md and
5.md).
Sampling of an input pin at each instant (R134): a level that stands for the delivered value drops a candidate; a
new level of a FILTERED pin is a candidate from the first sample that shows it and is delivered 20 ms later; one of a
RAW pin is delivered at that sample. What is delivered reaches the consumers as the pin's commands, where it has any.
After the idle step the queue holds every command that the time base has made due at the new instant (DueNow: each
timer's command at the instant it has run its time in full) and those of the pins that deliver a change there, and no
other (the model's clock, notes/assumptions/1.md; the instants it converts in CALIBRATE and the SUPPLY value its tick
carries are the model's too, notes/assumptions/26.md and 16.md). -/
def Obligations.IdleStepSamplesThePins : Prop :=
  (∀ s : State, s.pending = [] →
    (s.now + 1 < 2 ^ 48 → ∃ t, step s = .next t ∧
      t = { s with now := s.now + 1, fpr := t.fpr, pending := t.pending } ∧ t.fpr.blinkLit = s.fpr.blinkLit ∧
      ∀ p : PinId, (t.fpr.pins[p]).level = (s.fpr.pins[p]).level) ∧
    (2 ^ 48 ≤ s.now + 1 → step s = .fault .timeBaseExhausted)) ∧
  (∀ (s : State) (p : PinId), s.pending = [] → s.now + 1 < 2 ^ 48 → s.sampling = true →
    PinFn.isInput (s.cfg.pins[p]).fn = true →
    ∃ t, step s = .next t ∧
      (((s.fpr.pins[p]).level != (s.cfg.pins[p]).inverted) = (s.fpr.pins[p]).delivered →
        t.fpr.pins[p] = { s.fpr.pins[p] with candidate := none }) ∧
      (((s.fpr.pins[p]).level != (s.cfg.pins[p]).inverted) ≠ (s.fpr.pins[p]).delivered →
        (((s.cfg.pins[p]).filtered = true ∨ (s.cfg.pins[p]).fn = .key) ∧
            (∀ k, (s.fpr.pins[p]).candidate = some k → s.now + 1 < k + 20) →
          t.fpr.pins[p] = { s.fpr.pins[p] with candidate := some ((s.fpr.pins[p]).candidate.getD (s.now + 1)) }) ∧
        (((s.cfg.pins[p]).filtered = false ∧ (s.cfg.pins[p]).fn ≠ .key) ∨
            (∃ k, (s.fpr.pins[p]).candidate = some k ∧ k + 20 ≤ s.now + 1) →
          (∀ i ∈ changeCommands s p (!(s.fpr.pins[p]).delivered), i ∈ t.pending) ∧
          (changeCommands s p (!(s.fpr.pins[p]).delivered) = [] →
            (t.fpr.pins[p]).delivered = !(s.fpr.pins[p]).delivered)))) ∧
  ∀ s : State, s.pending = [] → s.now + 1 < 2 ^ 48 →
    ∃ t, step s = .next t ∧ ∀ c : Instr, c ∈ t.pending ↔ DueNow t c ∨
      ∃ p : PinId, s.sampling = true ∧ PinFn.isInput (s.cfg.pins[p]).fn = true ∧
        ((s.fpr.pins[p]).level != (s.cfg.pins[p]).inverted) ≠ (s.fpr.pins[p]).delivered ∧
        (((s.cfg.pins[p]).filtered = false ∧ (s.cfg.pins[p]).fn ≠ .key) ∨
          ∃ k, (s.fpr.pins[p]).candidate = some k ∧ k + 20 ≤ s.now + 1) ∧
        c ∈ changeCommands s p (!(s.fpr.pins[p]).delivered)

/-- Every command completes: it answers a next state, in which the queue is as it was, and the time base too unless the
command is a reset. That a command answers so even where its event cannot occur, and that no command touches the queue,
are the model's choices (notes/assumptions/1.md and 3.md). The configuration, the own number and the image status stand
from LOAD to the next reset (Section 10.1, R132). -/
def Obligations.EveryCommandCompletes : Prop :=
  ∀ (c : Instr) (s : State), ∃ t, exec c s = .next t ∧ t.pending = s.pending ∧
    (c ≠ .powerOn → c ≠ .pinReset → t.now = s.now) ∧
    (s.suc.phase ≠ .strap → s.suc.phase ≠ .load → c ≠ .powerOn → c ≠ .pinReset →
      t.cfg = s.cfg ∧ t.suc.ownNumber = s.suc.ownNumber ∧ t.suc.image = s.suc.image)

/-! ### Resets and start-up -/

/-- The station at reset release: every block at the value its chapter gives after reset, and no output driven (R16, R40,
R65, R86, R117, R137, R139, R148, R151, R157, R170, R171). That no command waits (pending = []) is the model's choice
(notes/assumptions/12.md), and so are the last reading 0 of a channel and no trip owed at it, fields of the model's own
(notes/assumptions/13.md). -/
def Obligations.ResetGivesEveryBlockItsValue : Prop :=
  State.reset.suc =
    { phase := .strap, since := 0, ownNumber := none, image := .unread, standDown := false, runEntry := none,
      nextTick := none } ∧
  (∀ i : SlotId, State.reset.ptu.peers[i] = none) ∧
  State.reset.sbu.demands = [] ∧ State.reset.sbu.offers = [] ∧ State.reset.sbu.island = none ∧
  State.reset.sbu.islandTimer = none ∧ State.reset.sbu.profile = false ∧
  (∀ k : Fin 8, State.reset.sbu.grants[k] = 0) ∧
  (∀ c : ChannelId, State.reset.lcu.channels[c] =
    { lreq := 0, leff := 0, position := 0, mark := .inService, tripMemory := none, inrush := none, overTime := none,
      lastReading := 0, owedTrip := none }) ∧
  (∀ m : MoverId, State.reset.zcu.claims[m] = .unclaimed ∧ State.reset.mvu.movers[m] = none) ∧
  (∀ p : PinId, (State.reset.fpr.pins[p]).delivered = false ∧ State.reset.pinDrive p = .undriven) ∧
  (∀ k : KeyId, State.reset.ktu.keys[k] = { held := false, standing := .idle, nextRepeat := none, ackUntil := none }) ∧
  (∀ cs : SenseId, (State.reset.csa.inputs[cs]).offset = none ∧ (State.reset.csa.inputs[cs]).faulty = false) ∧
  (∀ p : PortId, (State.reset.liu.ports[p]).state = .dark ∧ (State.reset.liu.ports[p]).wasFit = false ∧
    (State.reset.liu.ports[p]).restartDone = false ∧ (State.reset.liu.ports[p]).good = 0 ∧
    (State.reset.liu.ports[p]).errors = 0) ∧
  State.reset.liu.slot = none ∧ State.reset.liu.fifo = [] ∧
  (∀ k : FaultKind, State.reset.fcl.flags[k.idx] = { active := false, hold := none }) ∧
  State.reset.fcl.tickCount = 0 ∧ State.reset.fcl.firstFault = none ∧
  State.reset.alert = false ∧ State.reset.peerAlert = false ∧ State.reset.standDownState = .normal ∧
  State.reset.pending = []

/-- POWER_ON takes the station back to reset from any state (R171, R130); what the outside puts on the pins and the
sense inputs, and the commands waiting, are not the station's to reset (the model's choice, notes/assumptions/12.md).
PIN_RESET does as POWER_ON does, but keeps the chain count and the known flag of each windlass in force, and those
retained before that have not yet come into force (R131, R171). Both complete in every state. -/
def Obligations.ResetsRestartTheStation : Prop :=
  ∀ s : State,
    let restarted := fun (t : State) (mvu : Mvu) =>
      t = { State.reset with pending := s.pending, fpr := t.fpr, csa := t.csa, mvu := mvu } ∧ t.fpr.blinkLit = true ∧
      (∀ p : PinId, t.fpr.pins[p] = { level := (s.fpr.pins[p]).level, delivered := false, candidate := none }) ∧
      ∀ cs : SenseId, t.csa.inputs[cs] = { raw := (s.csa.inputs[cs]).raw, sum := 0, offset := none, faulty := false }
    (∃ t, exec .powerOn s = .next t ∧
      restarted t { movers := Vector.replicate 2 none, retained := Vector.replicate 2 none }) ∧
    ∃ t, exec .pinReset s = .next t ∧
      restarted t { movers := Vector.replicate 2 none, retained := t.mvu.retained } ∧
      ∀ m : MoverId,
        (∀ r, s.mover m = some r → (s.moverCfg m).kind = .windlass → t.mvu.retained[m] = some (r.count, r.known)) ∧
        (∀ r, s.mover m = some r → (s.moverCfg m).kind ≠ .windlass → t.mvu.retained[m] = none) ∧
        (s.mover m = none → t.mvu.retained[m] = s.mvu.retained[m])

/-- STRAP_SAMPLE, 2 ms after reset release: a value of 1-48 becomes the own number and LOAD begins; any other puts the
station in LISTEN_ONLY with BAD_NUMBER, which is the first fault, at tick count 0, and the first tick falls (R1, R171,
R174, R167). That the last transition on the pairs is then the instant the ports come into operation is the model's
choice (notes/assumptions/27.md). -/
def Obligations.StrapSampleGivesTheNumber : Prop :=
  ∀ (v : BitVec 6) (s : State), s.suc.phase = .strap → s.suc.since + 2 ≤ s.now → s.suc.image = .unread → s.fcl = {} →
    ((1 ≤ v.toNat ∧ v.toNat ≤ 48) → exec (.strapSample v) s =
      .next { s with suc := { s.suc with ownNumber := some v.toNat, phase := .load, since := s.now } }) ∧
    (¬(1 ≤ v.toNat ∧ v.toNat ≤ 48) → ∃ t, exec (.strapSample v) s = .next t ∧
      t = { s with
        suc := { s.suc with phase := .listenOnly, since := s.now, nextTick := some (s.now + 100) }
        cfg := Cfg.unconfigured
        mvu := {}
        liu := { s.liu with
          ports := Vector.replicate 2 { state := .dark, eq := 0, carrier := some s.now, lastTransition := s.now } }
        fcl := t.fcl } ∧
      (∀ k : FaultKind, t.active k = decide (k = .badNumber)) ∧ t.fcl.tickCount = 1 ∧
      t.fcl.firstFault = some (.badNumber, 0))

/-- LOAD_END with an image that passes: every block takes its configuration, CALIBRATE begins, the ports come into
operation DARK at the floor, the input pins take the value they show, and a retained chain count is kept only for a
slot configured as WINDLASS (R172, R151, R134, R131).
LOAD_END with an image that is refused: image status INVALID, CONFIG_INVALID as the first fault at tick count 0,
LISTEN_ONLY, retained chain counts discarded, and at the first tick an ANNOUNCE with the LISTEN_ONLY flag and the HALT
summary; a budget still as after reset announces profile 0, island cap 0 BU and demand 0 BU (R172, R174, R131, R167, R39).
In both, that the last transition on the pairs is the instant the ports come into operation is the model's choice
(notes/assumptions/27.md). -/
def Obligations.LoadEndJudgesTheImage : Prop :=
  (∀ (image : List Byte) (levels : BitVec 32) (cfg : Cfg) (s : State), s.suc.phase = .load →
    judgeImage image = some cfg →
    ∃ t, exec (.loadEnd image levels) s = .next t ∧
      t = { s with
        cfg := cfg
        suc := { s.suc with phase := .calibrate, since := s.now, image := .valid }
        liu := { s.liu with
          ports := Vector.replicate 2
            { state := .dark, eq := cfg.ports.eqFloor, carrier := some s.now, lastTransition := s.now } }
        mvu := { s.mvu with retained := t.mvu.retained }
        fpr := { s.fpr with pins := t.fpr.pins } } ∧
      (∀ p : PinId, (t.fpr.pins[p]).level = levels.getLsbD p.val ∧ (t.fpr.pins[p]).candidate = none ∧
        (PinFn.isInput (cfg.pins[p]).fn = true →
          (t.fpr.pins[p]).delivered = (levels.getLsbD p.val != (cfg.pins[p]).inverted)) ∧
        (PinFn.isInput (cfg.pins[p]).fn = false → (t.fpr.pins[p]).delivered = false)) ∧
      ∀ m : MoverId,
        ((∃ c, cfg.movers[m] = some c ∧ c.kind = .windlass) → t.mvu.retained[m] = s.mvu.retained[m]) ∧
        ((∀ c, cfg.movers[m] = some c → c.kind ≠ .windlass) → t.mvu.retained[m] = none)) ∧
  ∀ (image : List Byte) (levels : BitVec 32) (s : State), s.suc.phase = .load → s.fcl = {} →
    judgeImage image = none →
    ∃ t, exec (.loadEnd image levels) s = .next t ∧
      t = { s with
        suc := { s.suc with phase := .listenOnly, since := s.now, nextTick := some (s.now + 100), image := .invalid }
        cfg := Cfg.unconfigured
        mvu := {}
        liu := t.liu
        sbu := t.sbu
        fcl := t.fcl } ∧
      t.liu.ports = Vector.replicate 2 { state := .dark, eq := 0, carrier := some s.now, lastTransition := s.now } ∧
      t.sbu.demands = s.sbu.demands ∧
      (∀ k : FaultKind, t.active k = decide (k = .configInvalid)) ∧ t.fcl.tickCount = 1 ∧
      t.fcl.firstFault = some (.configInvalid, 0) ∧ AnnouncesNow t ∧ t.announceNow.listenOnly = true ∧
      t.announceNow.severity = .halt ∧ t.announceNow.leadKind = FaultKind.configInvalid.code ∧
      t.announceNow.movers = [] ∧
      (s.sbu = {} → t.announceNow.profile = false ∧ t.announceNow.islandCap = 0 ∧
        ∀ k : Fin 8, t.announceNow.demand[k] = 0)

/-- LOAD takes an image exactly where all of this holds, and then into force goes the configuration its bytes spell
(R172). The header, the CRC and the directory stand: a length of 41-2048 bytes, format version 1, seven sections, each of
the codes 1-7 named once, each section at its required length from byte 39 on, before the CRC and apart from the others
(ImageWhole, Table 8-9). The sections spell the configuration field by field, with its defaults (Spells, Tables 8-10 to
8-17). The configuration keeps the ranges and the cross-checks of the chapters (RangesOk): capacities, margin under both
of them, island cap, settle interval, island delay and listen window, officers each a station number, the port settings
of Table 8-2, the arguments of output pins and every consumer bound to a pin of its own function (R133), the channel
ranges of Table 3-1, the mover ranges of Tables 5-1 and 6-1 with 1-4 zones to a mover (R66), no lock on a windlass and its
slow-zone count under its maximum (R87, R118), class-0 ratings of at most 4095 BU together (R19), the scenes (R60) and the
operands of key actions (R138). Any other image is refused. That bytes past the end of the memory read as all ones is the
model's choice (notes/assumptions/14.md). -/
def Obligations.AcceptedImagesKeepTheRanges : Prop :=
  ∀ (memory : List Byte) (cfg : Cfg), judgeImage memory = some cfg ↔
    ∃ o : Nat → Nat, ImageWhole memory o ∧ Spells memory o cfg ∧ RangesOk cfg

/-- CALIBRATE_END, 64 ms after LOAD: the offsets are the floored means of the 64 conversions, inputs outside ±50 are
FAULTY (R146); channels and movers are marked (R42, R88); a windlass at HOME starts at 0 and known (R121); QUIET is
entered, the held fields follow the key pins (R139), the first tick falls, and nothing is transmitted (R173).
QUIET_END, 3 × P after entry into QUIET: RUN is entered, line fitness is lost at once where it does not hold, a
STANDBY input already active takes effect, and the ANNOUNCE composed is the first that can be sent, marked STARTING
(R173, R154, R175, R34). That QUIET_END composes an ANNOUNCE of its own also where the tick of its instant comes after it
is the model's inference (notes/assumptions/9.md). -/
def Obligations.CalibrateEndAndQuietEnd : Prop :=
  (∀ s : State, s.suc.phase = .calibrate → s.suc.since + 64 ≤ s.now →
    (∀ m, s.mover m = none) →
    ∃ t, exec .calibrateEnd s = .next t ∧
      t.suc = { s.suc with phase := .quiet, since := s.now, nextTick := some (s.now + s.cfg.period.ms) } ∧
      t.liu = s.liu ∧ t.ptu = s.ptu ∧ t.zcu = s.zcu ∧
      t.fcl.tickCount = min 65535 (s.fcl.tickCount + 1) ∧
      (∀ cs : SenseId, senseInUse s.cfg cs = true →
        (t.csa.inputs[cs]).offset = some ((s.csa.inputs[cs]).sum / 64) ∧
        ((t.csa.inputs[cs]).faulty = true ↔
          ¬(-50 ≤ (s.csa.inputs[cs]).sum / 64 ∧ (s.csa.inputs[cs]).sum / 64 ≤ 50))) ∧
      (∀ cs : SenseId, senseInUse s.cfg cs = false →
        (t.csa.inputs[cs]).offset = none ∧ (t.csa.inputs[cs]).faulty = false) ∧
      (∀ c : ChannelId, (t.lcu.channels[c]).mark =
        if pinCarries s.cfg .channelOut c.val = true ∧ (t.csa.inputs[senseOfChannel c]).faulty = false
        then (s.lcu.channels[c]).mark else .unfitted) ∧
      (∀ m : MoverId, s.cfg.movers[m] = none → t.mover m = none) ∧
      (∀ (m : MoverId) (c : MoverCfg), s.cfg.movers[m] = some c → t.mover m = some
        { phase := if moverBound s.cfg c m = true ∧ (t.csa.inputs[senseOfMover m]).faulty = false
            then .idle else .unfitted
          count := if c.kind = .windlass ∧ s.input c.home = true then 0
            else ((s.mvu.retained[m]).map fun x => x.1).getD 0
          known := if c.kind = .windlass ∧ s.input c.home = true then true
            else ((s.mvu.retained[m]).map fun x => x.2).getD false }) ∧
      (∀ m : MoverId, t.mvu.retained[m] = none) ∧
      (∀ k : KeyId, t.ktu.keys[k] = { s.ktu.keys[k] with held := s.input (s.cfg.keys[k]).pin }) ∧
      t.active .senseFault = decide (∃ cs : SenseId, (t.csa.inputs[cs]).faulty = true) ∧
      t.active .countUnknown = t.anyCountUnknown ∧
      t.active .pumpFault = t.anyPowerFault) ∧
  ∀ s : State, s.suc.phase = .quiet → s.suc.since + 3 * s.cfg.period.ms ≤ s.now → s.active .lineUnfit = false →
    (∀ m r, s.mover m = some r → r.phase.inMotion = false) →
    ∃ t, exec .quietEnd s = .next t ∧
      t.suc = { s.suc with phase := .run, since := s.now, runEntry := some s.now,
                           standDown := s.suc.standDown || s.input s.cfg.standby } ∧
      t = { s with suc := t.suc, liu := t.liu, sbu := t.sbu, fcl := t.fcl } ∧
      t.liu.ports = s.liu.ports ∧ t.liu.fifo = s.liu.fifo ∧ t.sbu.demands = s.sbu.demands ∧
      t.active .lineUnfit = !s.lineFit ∧
      t.sbu.islandTimer = (if s.lineFit = true then s.sbu.islandTimer else some (s.now + s.cfg.islandDelay)) ∧
      (s.active .twin = false → AnnouncesNow t ∧ t.announceNow.starting = true)

/-! ### The own period tick and the supply budget -/

/-- OWN_PERIOD_TICK: the next tick falls P after this one, the tick count rises to at most 65535, SUPPLY is sampled, the
grants of the demand list and the peers are stored, SUPPLY_SHORT is judged, and an ANNOUNCE is composed where the
station may transmit (R2, R17, R25, R26, R36, R157, R167).
What a tick gives the outputs: every own entry draws what the allocation of the new grants gives it (R28), every
channel's Leff follows its new drawing (R50), a DIMMED position above the level its drawing pays for becomes Leff at
once (R53), a grant loss stops a RUNNING mover and abandons an UNLOCKING one with NO_SUPPLY (R29, R100, R102). A
REQUESTING mover that holds its zones, none of them occupied, goes to motion where the tick grants its entry and line
fitness holds, and waits on where it does not (R97). A tick that finds the SUPPLY input delivering the value sampled
leaves every pin's conditioning alone (R17, R134). -/
def Obligations.TickComputesAndAllocates : Prop :=
  (∀ (supply : Bool) (s : State) (k : Nat), s.delivers = true → s.suc.nextTick = some k → k ≤ s.now →
    ∃ t, exec (.ownPeriodTick supply) s = .next t ∧
      t.suc = { s.suc with nextTick := some (k + s.cfg.period.ms) } ∧
      t.fcl.tickCount = min 65535 (s.fcl.tickCount + 1) ∧
      t.ptu = s.ptu ∧ t.csa = s.csa ∧ t.ktu = s.ktu ∧ t.liu.ports = s.liu.ports ∧ t.liu.fifo = s.liu.fifo ∧
      ((∀ pin, s.cfg.supply = some pin → (s.fpr.pins[pin]).delivered = supply) → t.fpr = s.fpr) ∧
      (s.working = true →
        t.sbu.profile = (s.cfg.supply.isSome && supply) ∧
        t.sbu.grants = (s.sampleSupply supply).computeGrants ∧
        t.active .supplyShort =
          decide ((s.sampleSupply supply).judgedSupply < (s.sampleSupply supply).judgedTotal 0)) ∧
      (s.suc.phase = .listenOnly → t = { s with suc := t.suc, liu := t.liu, sbu := t.sbu, fcl := t.fcl } ∧
        t.sbu.demands = s.sbu.demands ∧ t.fcl.flags = s.fcl.flags) ∧
      (s.mayTransmit = true → AnnouncesNow t) ∧
      (s.mayTransmit = false → t.liu = s.liu)) ∧
  ∀ (supply : Bool) (s : State), s.tickDue = true → s.working = true →
    ∃ t, exec (.ownPeriodTick supply) s = .next t ∧
      ((∀ m r, s.mover m = some r → r.phase ≠ .unlocking) →
        t.sbu.demands = allocate s.cfg t.sbu.grants s.sbu.demands) ∧
      (∀ c : ChannelId, (t.lcu.channels[c]).lreq = (s.lcu.channels[c]).lreq ∧
        (t.lcu.channels[c]).leff = levelOf s.cfg.channels[c] (s.lcu.channels[c]).lreq (t.chanDrawing c)) ∧
      (∀ c : ChannelId, (s.cfg.channels[c]).kind = .dimmed → (s.cfg.channels[c]).rating ≠ 0 →
        (s.cfg.channels[c]).fade ≠ 0 →
        (t.lcu.channels[c]).position =
          if ((t.chanDrawing c).getD 0) * 256 / (s.cfg.channels[c]).rating < (s.lcu.channels[c]).position
          then (t.lcu.channels[c]).leff else (s.lcu.channels[c]).position) ∧
      (∀ m r, s.mover m = some r → r.phase = .running → t.granted m = false →
        t.mover m = some { r with
          phase := .stopping
          stopReason := some .noSupply
          reversal := none
          timer := some (s.now + (s.moverCfg m).stopDwell)
          overTime := none
          stallSpan := none }) ∧
      (∀ m r, s.mover m = some r → r.phase = .running → t.granted m = true → t.mover m = some r) ∧
      (∀ m r, s.mover m = some r → r.phase = .requesting →
        (∀ pin, s.cfg.supply = some pin → (s.fpr.pins[pin]).delivered = supply) →
        s.claim m = .held → s.zoneOccupied m = false → s.lineFit = true →
        (t.granted m = true → ∃ u, t.mover m = some u ∧ u.direction = r.direction ∧ u.driver = r.driver ∧
          u.phase = if (s.moverCfg m).lockFitted = true ∧ s.input (s.moverCfg m).lockClosed = true ∧
            s.input (s.moverCfg m).lockOpen = false then .unlocking else .running) ∧
        (t.granted m = false → t.mover m = some r)) ∧
      ∀ m r, s.mover m = some r → r.phase = .unlocking →
        demandIn (allocate s.cfg t.sbu.grants s.sbu.demands) (.mover m) = none ∨
          (∃ d, demandIn (allocate s.cfg t.sbu.grants s.sbu.demands) (.mover m) = some d ∧ d.drawing ≠ d.want) →
        ∃ u, t.mover m = some u ∧ u.phase = .idle ∧ u.lastRefusal = .noSupply

/-- The grants in closed form (R24 to R26, R36): class 0 in full; a class above it in full where the totals down to and
with it fit the supply; the first class that does not fit shares what the classes before it leave, floored once;
nothing below it. The own demand in a class is the sum of what its entries want, saturated at 4095 BU (R23).
Outside island mode the total of a class adds to it what every record announces, LIVE or STALE, and the island cap of an
ORPHAN one in class 0 (R24, Table 2-3), and the supply is the smallest capacity over the own profile and those of the
LIVE records, less the margin, floored at 0 (R17 to R19). In island mode the total is the own demand alone and the supply
the island cap (R36).
No station grants itself more than there is: its grants of classes 1-7 together fit what class 0 leaves of the
supply, and no class is granted more than the station's own demand in it (R25, R26, R36). -/
def Obligations.GrantsFillTheClassesInOrder : Prop :=
  ∀ s : State,
    let own := fun (k : Fin 8) => min 4095 ((s.sbu.demands.filter fun d => d.cls = k).map fun d => d.want).sum
    let counted := fun (k : Fin 8) (i : SlotId) =>
      match s.ptu.peers[i] with
      | none => 0
      | some r =>
        match r.status with
        | .live => r.ann.demand[k]
        | .stale => r.ann.demand[k]
        | .orphan => if k = 0 then r.ann.islandCap else 0
    let capacity := fun (profile : Bool) => if profile = true then s.cfg.s1 else s.cfg.s0
    let total := fun (k : Fin 8) => s.judgedTotal k
    let above := fun (k : Fin 8) => (((List.finRange 8).filter fun j => j < k).map total).sum
    (∀ k : Fin 8, s.computeGrants[k] =
      if k = 0 then own 0
      else if above k + total k ≤ s.judgedSupply then own k
      else if above k ≤ s.judgedSupply then own k * (s.judgedSupply - above k) / total k
      else 0) ∧
    (s.inIsland = true → s.judgedSupply = s.cfg.islandCap ∧ ∀ k : Fin 8, total k = own k) ∧
    (s.inIsland = false →
      (∀ k : Fin 8, total k = own k + ((List.finRange 48).map (counted k)).sum) ∧
      ∃ S : Nat, s.judgedSupply = S - s.cfg.margin ∧ S ≤ capacity s.sbu.profile ∧
        (∀ (i : SlotId) (r : PeerRec), s.ptu.peers[i] = some r → r.status = .live → S ≤ capacity r.ann.profile) ∧
        (S = capacity s.sbu.profile ∨ ∃ (i : SlotId) (r : PeerRec), s.ptu.peers[i] = some r ∧ r.status = .live ∧
          S = capacity r.ann.profile)) ∧
    (((List.finRange 8).filter fun k => k ≠ 0).map fun k => s.computeGrants[k]).sum ≤ s.judgedSupply - total 0 ∧
    ∀ k : Fin 8, s.computeGrants[k] ≤ own k

/-- The allocation in closed form (R28, Table 2-4): the entry after `pre` in list order draws its share of what the
earlier entries of its class leave of the grant; a class-0 entry draws its W; only Sd of class 0 and the drawings
change. -/
def Obligations.AllocationGoesInListOrder : Prop :=
  ∀ (cfg : Cfg) (g : Vector Nat 8) (pre post : List Demand) (d : Demand),
    let drawnBefore := drawn d.cls (allocate cfg g pre)
    let r := g[d.cls] - drawnBefore
    let base :=
      match d.source with
      | .chan c =>
        if (cfg.channels[c]).kind = .dimmed then min r d.settled
        else if d.settled = d.want ∧ d.want ≤ r then d.settled else 0
      | .mover _ => if d.settled = d.want ∧ d.want ≤ r then d.settled else 0
    ∃ post', allocate cfg g (pre ++ d :: post) = allocate cfg g pre ++
      (if d.cls = 0 then { d with settled := d.want, drawing := d.want }
       else { d with drawing := min base (d.ceiling.getD base) }) :: post'

/-- SETTLE: an entry at Pt + Q takes its pending amount as its settled amount, and its drawing does not change (R32). That
a SETTLE of an entry with nothing pending, or before Pt + Q, leaves it as it is, is the model's choice for a command
whose event cannot occur (notes/assumptions/3.md).
ISLAND_DELAY_EXPIRY: each entry's ceiling becomes its drawing, pending amounts and offers are dropped, Sd becomes
min(W, ceiling), no drawing changes, and ISLAND is raised; island mode entered on TWIN holds on (R34, R35). -/
def Obligations.SettleAndIslandDelayTakeEffect : Prop :=
  (∀ (src : Source) (s : State), ∃ t, exec (.settle src) s = .next t ∧ t = { s with sbu := t.sbu } ∧
    t.sbu = { s.sbu with demands := t.sbu.demands } ∧
    (∀ d, s.demandOf src = some d →
      (∀ pa pt, d.pending = some (pa, pt) → pt + s.cfg.settle ≤ s.now →
        t.demandOf src = some { d with settled := pa, pending := none }) ∧
      (d.pending = none → t.demandOf src = some d) ∧
      (∀ pa pt, d.pending = some (pa, pt) → s.now < pt + s.cfg.settle → t.demandOf src = some d)) ∧
    ∀ other, other ≠ src → t.demandOf other = s.demandOf other) ∧
  ∀ (s : State) (k : Nat), s.sbu.islandTimer = some k → k ≤ s.now →
    ∃ t, exec .islandDelayExpiry s = .next t ∧ t = { s with sbu := t.sbu, fcl := t.fcl } ∧
      t.sbu.islandTimer = none ∧
      (s.sbu.island = none →
        t.sbu = { s.sbu with
          demands := s.sbu.demands.map fun d =>
            { d with ceiling := some d.drawing, pending := none, settled := min d.want d.drawing }
          offers := []
          island := some .timer
          islandTimer := none } ∧ t.active .island = true) ∧
      (∀ cause, s.sbu.island = some cause →
        t.sbu = { s.sbu with islandTimer := none } ∧ t.fcl = s.fcl)

/-- Every step keeps the demand list in its order with one entry to a source, each entry within Table 2-2, drawings
within the last grants, and the ceilings and settled amounts of island mode (R20, R22, R28, R31, R35 to R38). -/
def Obligations.StepKeepsTheBudget : Prop :=
  ∀ s t : State, BudgetOk s → step s = .next t → BudgetOk t

/-! ### The ports -/

/-- What a port does at LINK_PULSE, ERROR_WINDOW_END, ARBITRATION_LOSS, FRAME_ABORTED and
TRANSITION_FROM_ANOTHER_STATION, with nothing else of the station moved (R150, R152, R153, R155, R160; that an aborted
frame counts as transitions seen is the model's inference, notes/assumptions/6.md). That a port's own link pulse is no
start symbol decoded in its dwell is the model's choice (notes/assumptions/34.md). -/
def Obligations.PortEventsMoveOnlyTheirPort : Prop :=
  ∀ (p : PortId) (s : State),
    (s.mayTransmit = true → (s.liu.ports[p]).attempt = none → (s.liu.ports[p]).lastTransition + 1 ≤ s.now →
      exec (.linkPulse p) s =
        .next (s.onPort p fun x => { x with lastTransition := s.now, pulseAt := some s.now })) ∧
    (∀ w, s.portsOperate = true → (s.liu.ports[p]).state = .fit → (s.liu.ports[p]).windowEnd = some w → w ≤ s.now →
      exec (.errorWindowEnd p) s = .next (s.onPort p fun x => { x with windowEnd := some (w + 1000), errors := 0 })) ∧
    (∀ a, (s.liu.ports[p]).attempt = some a →
      exec (.arbitrationLoss p) s = .next (s.onPort p fun x => { x with attempt := none, lastTransition := s.now })) ∧
    (s.portsOperate = true → (s.liu.ports[p]).state ≠ .dark → (s.liu.ports[p]).attempt = none →
      exec (.frameAborted p) s =
        .next (s.onPort p fun x => { x with carrier := some s.now, lastTransition := s.now }) ∧
      exec (.transitionFromAnotherStation p false) s =
        .next (s.onPort p fun x => { x with carrier := some s.now, lastTransition := s.now }) ∧
      exec (.transitionFromAnotherStation p true) s =
        .next (s.onPort p fun x =>
          { x with
            carrier := some s.now
            lastTransition := s.now
            dwell := x.dwell.map fun d => { d with decoded := true } }))

/-- CARRIER_LOSS, 20 ms after the last transition of another station: the port is DARK with everything of its search
and its attempt dropped, PORT_DARK is raised and PORT_UNFIT is not, LINE_UNFIT follows line fitness in RUN, and the
frames that have no port left to wait for leave the queue, the ANNOUNCE in the slot too where the announced claims stand
(R150, R152, R153, R154, R158, R159); where a loss of line fitness changes them, an extra ANNOUNCE takes the slot (R82).
An attempt abandoned here leaves its own last transition at this instant, so that no link pulse falls within 1 ms of it
(R150). That this is the instant of that transition, and that the counts of good frames and of errors are 0 in DARK, are
the model's choices (notes/assumptions/21.md and 28.md).
DARK_PORT_TRANSITION: the port goes to SEEKING at the floor with a new dwell, its carrier span starts, and PORT_DARK
clears (R150, R152). -/
def Obligations.CarrierIsLostAndReturns : Prop :=
  (∀ (p : PortId) (s : State) (k : Nat), s.portsOperate = true → (s.liu.ports[p]).carrier = some k → k + 20 ≤ s.now →
    FitnessOk s →
    ∃ t, exec (.carrierLoss p) s = .next t ∧
      t.liu.ports[p] = { s.liu.ports[p] with
        state := .dark
        restartDone := false
        wasFit := false
        dwell := none
        good := 0
        errors := 0
        windowEnd := none
        carrier := none
        attempt := none
        lastTransition := if (s.liu.ports[p]).attempt = none then (s.liu.ports[p]).lastTransition else s.now } ∧
      ((s.liu.ports[p]).attempt ≠ none → exec (.linkPulse p) t = .next t) ∧
      (∀ q : PortId, q ≠ p → t.liu.ports[q] = s.liu.ports[q]) ∧
      t.active (darkKind p) = true ∧ t.active (unfitKind p) = false ∧ FitnessOk t ∧
      t.liu.fifo = s.liu.fifo.filter (fun q => !departs t.liu.ports q) ∧
      (t.announcedClaims = s.announcedClaims → t.liu.slot = s.liu.slot.filter fun q => !departs t.liu.ports q) ∧
      (t.announcedClaims ≠ s.announcedClaims → s.mayTransmit = true → AnnouncesNow t) ∧
      t.suc = s.suc ∧ t.cfg = s.cfg ∧ t.ptu = s.ptu ∧ t.fpr = s.fpr ∧ t.ktu = s.ktu ∧ t.csa = s.csa ∧ t.lcu = s.lcu) ∧
  ∀ (p : PortId) (s : State), s.portsOperate = true → (s.liu.ports[p]).state = .dark → FitnessOk s →
    ∃ t, exec (.darkPortTransition p) s = .next t ∧ t = { s with liu := t.liu, fcl := t.fcl } ∧
      t.liu = { s.liu with ports := t.liu.ports } ∧
      t.liu.ports[p] = { s.liu.ports[p] with
        state := .seeking
        eq := s.cfg.ports.eqFloor
        dwell := some { start := s.now, decoded := false, lateErrors := 0 }
        carrier := some s.now
        lastTransition := s.now } ∧
      (∀ q : PortId, q ≠ p → t.liu.ports[q] = s.liu.ports[q]) ∧
      t.active (darkKind p) = false ∧ t.active (unfitKind p) = (s.liu.ports[p]).wasFit

/-- DWELL_END: a successful dwell makes the settling restart the first time and locks the port after it; an
undecoded or noisy one moves to the next setting, or from the maximum to the floor (R152).
LOSS_OF_LOCK: from SEEKING, LOCKED or FIT the search goes on at the next setting with a new dwell; PORT_UNFIT stands
where the port had been FIT, and in RUN a port that falls from FIT may take line fitness with it (R152 to R154).
Three points are the model's: a loss of lock counts as a transition from another station, from which the carrier span
runs (its inference, notes/assumptions/6.md); clock lock is held through a dwell that no LOSS_OF_LOCK ends (its inference,
notes/assumptions/7.md); and the counts of good frames and of errors, and the window, are cleared on SEEKING (its choice,
notes/assumptions/28.md). -/
def Obligations.SearchRestartsLocksOrSteps : Prop :=
  (∀ (p : PortId) (s : State) (d : Dwell), s.portsOperate = true → (s.liu.ports[p]).state = .seeking →
    (s.liu.ports[p]).dwell = some d → d.start + s.cfg.ports.dwell ≤ s.now → FitnessOk s →
    ∃ t, exec (.dwellEnd p) s = .next t ∧ t = { s with liu := t.liu, fcl := t.fcl } ∧
      t.liu = { s.liu with ports := t.liu.ports } ∧
      (∀ q : PortId, q ≠ p → t.liu.ports[q] = s.liu.ports[q]) ∧
      t.liu.ports[p] =
        if d.decoded = true ∧ d.lateErrors ≤ s.cfg.ports.errorThreshold then
          if (s.liu.ports[p]).restartDone = true then
            { s.liu.ports[p] with state := .locked, dwell := none, good := 0 }
          else
            { s.liu.ports[p] with
              restartDone := true
              eq := s.cfg.ports.eqFloor
              dwell := some { start := s.now, decoded := false, lateErrors := 0 } }
        else
          { s.liu.ports[p] with
            eq := if (s.liu.ports[p]).eq < s.cfg.ports.eqMax then (s.liu.ports[p]).eq + 1 else s.cfg.ports.eqFloor
            dwell := some { start := s.now, decoded := false, lateErrors := 0 }
            good := 0
            errors := 0
            windowEnd := none }) ∧
  ∀ (p : PortId) (s : State), s.portsOperate = true → (s.liu.ports[p]).state ≠ .dark →
    (s.liu.ports[p]).attempt = none → FitnessOk s →
    ∃ t, exec (.lossOfLock p) s = .next t ∧
      t.liu.ports[p] = { s.liu.ports[p] with
        state := .seeking
        eq := if (s.liu.ports[p]).eq < s.cfg.ports.eqMax then (s.liu.ports[p]).eq + 1 else s.cfg.ports.eqFloor
        dwell := some { start := s.now, decoded := false, lateErrors := 0 }
        good := 0
        errors := 0
        windowEnd := none
        carrier := some s.now
        lastTransition := s.now } ∧
      (∀ q : PortId, q ≠ p → t.liu.ports[q] = s.liu.ports[q]) ∧
      t.active (unfitKind p) = (s.liu.ports[p]).wasFit ∧ FitnessOk t ∧
      t.liu.fifo = s.liu.fifo ∧ t.lcu = s.lcu ∧ t.ptu = s.ptu ∧
      ((s.liu.ports[p]).state ≠ .fit → t = { s with liu := t.liu, fcl := t.fcl })

/-- Loss of line fitness in RUN stops the movers, whichever way a FIT port takes it: LOSS_OF_LOCK, CARRIER_LOSS, or a
CRC_ERROR that exceeds the threshold. A mover UNLOCKING is abandoned and one RUNNING stops, both with LINE_UNFIT;
LINE_UNFIT is raised and the island timer starts (R100, R102, R150, R153, R154, R34). -/
def Obligations.LosingFitnessStopsTheMovers : Prop :=
  ∀ (p : PortId) (s : State), (s.liu.ports[p]).state = .fit → s.running = true → s.active .lineUnfit = false →
    s.lineFit = true → (s.onPort p fun x => { x with state := .seeking }).lineFit = false →
    let stops := fun (c : Instr) =>
      ∃ t, exec c s = .next t ∧ t.active .lineUnfit = true ∧
        t.sbu.islandTimer = some (s.now + s.cfg.islandDelay) ∧
        (∀ m r, s.mover m = some r → r.phase = .running → t.mover m = some { r with
          phase := .stopping
          stopReason := some .lineUnfit
          reversal := none
          timer := some (s.now + (s.moverCfg m).stopDwell)
          overTime := none
          stallSpan := none }) ∧
        (∀ m r, s.mover m = some r → r.phase = .unlocking → ∃ u, t.mover m = some u ∧ u.phase = .idle ∧
          u.lastRefusal = .lineUnfit ∧ t.claim m = .unclaimed ∧ t.demandOf (.mover m) = none) ∧
        ∀ m r, s.mover m = some r → r.phase ≠ .running → r.phase ≠ .unlocking → t.mover m = some r
    stops (.lossOfLock p) ∧
    (∀ k, (s.liu.ports[p]).carrier = some k → k + 20 ≤ s.now → stops (.carrierLoss p)) ∧
    ((s.liu.ports[p]).attempt = none → s.cfg.ports.errorThreshold < (s.liu.ports[p]).errors + 1 →
      stops (.crcError p))

/-- CRC_ERROR: the port counts the error in the state it is in (a SEEKING dwell's second half, against the run of good
frames in LOCKED, in the window in FIT, back to LOCKED above the threshold), and from QUIET or LISTEN_ONLY on CRC_ERROR
is raised (R152, R153, R160). A whole frame with a failing CRC does as CRC_ERROR does, whatever row it came as.
The eighth good frame in a row makes a LOCKED port FIT, sets its was-fit mark and starts its first error window;
an earlier one only counts; a frame later found malformed counts too (R153, R160).
Where that eighth frame brings line fitness back in RUN, LINE_UNFIT clears, the island timer stops or island mode entered
by it is left, listening intents run their windows afresh, a REQUESTING mover that is CLEARED and granted goes to
motion, and the frame is then delivered (R34, R38, R76, R97, R154). -/
def Obligations.PortsCountGoodAndBadFrames : Prop :=
  (∀ (p : PortId) (s : State), s.hears p = true → FitnessOk s →
    ∃ t, exec (.crcError p) s = .next t ∧ FitnessOk t ∧
      (∀ q : PortId, q ≠ p → t.liu.ports[q] = s.liu.ports[q]) ∧
      (∀ d, (s.liu.ports[p]).state = .seeking → (s.liu.ports[p]).dwell = some d →
        (t.liu.ports[p]).state = .seeking ∧ (t.liu.ports[p]).dwell =
          if d.start + s.cfg.ports.dwell / 2 ≤ s.now then some { d with lateErrors := d.lateErrors + 1 }
          else some d) ∧
      ((s.liu.ports[p]).state = .locked → (t.liu.ports[p]).state = .locked ∧ (t.liu.ports[p]).good = 0) ∧
      ((s.liu.ports[p]).state = .fit → (s.liu.ports[p]).errors + 1 ≤ s.cfg.ports.errorThreshold →
        (t.liu.ports[p]).state = .fit ∧ (t.liu.ports[p]).errors = (s.liu.ports[p]).errors + 1) ∧
      ((s.liu.ports[p]).state = .fit → s.cfg.ports.errorThreshold < (s.liu.ports[p]).errors + 1 →
        (t.liu.ports[p]).state = .locked ∧ (t.liu.ports[p]).good = 0 ∧
          t.active (unfitKind p) = (s.liu.ports[p]).wasFit) ∧
      (s.delivers = true → t.fcl.flags[FaultKind.crcError.idx] = occurred s.now) ∧
      (s.delivers = false → t.fcl.flags[FaultKind.crcError.idx] = s.fcl.flags[FaultKind.crcError.idx]) ∧
      t.ptu = s.ptu ∧ t.lcu = s.lcu ∧ t.liu.fifo = s.liu.fifo) ∧
  (∀ (p : PortId) (frame : List Byte) (c : Instr) (s : State), c ∈ frameCommands p frame → s.hears p = true →
    frameWhole frame = true → crcGood frame = false → exec c s = exec (.crcError p) s) ∧
  (∀ (p : PortId) (frame : List Byte) (c : Instr) (s : State), GoodFrameOf c s p frame →
    (s.liu.ports[p]).state = .locked →
    ∃ t, exec c s = .next t ∧
      (∀ q : PortId, q ≠ p → t.liu.ports[q] = s.liu.ports[q]) ∧
      (8 ≤ (s.liu.ports[p]).good + 1 → t.active (unfitKind p) = false) ∧
      t.liu.ports[p] =
        if (s.liu.ports[p]).good + 1 < 8 then
          { s.liu.ports[p] with carrier := some s.now, lastTransition := s.now, good := (s.liu.ports[p]).good + 1 }
        else
          { s.liu.ports[p] with
            carrier := some s.now
            lastTransition := s.now
            state := .fit
            good := 8
            wasFit := true
            errors := 0
            windowEnd := some (s.now + 1000) }) ∧
  ∀ (p : PortId) (frame : List Byte) (c : Instr) (s : State), GoodFrameOf c s p frame →
    (s.liu.ports[p]).state = .locked → 8 ≤ (s.liu.ports[p]).good + 1 → s.running = true →
    s.active .lineUnfit = true → MoversSafe s →
    (s.onPort p fun x => { x with state := .fit }).lineFit = true →
    ∃ u : State, exec c s = .next (announceChange s (u.checkAndDeliver frame)) ∧
      u = { s with liu := u.liu, sbu := u.sbu, zcu := u.zcu, mvu := u.mvu, fcl := u.fcl } ∧
      u.liu = { s.liu with ports := u.liu.ports } ∧ u.active .lineUnfit = false ∧
      (s.sbu.island = some .timer → u.active .island = false ∧ u.sbu = { s.sbu with
        demands := s.sbu.demands.map fun d => { d with settled := d.drawing, ceiling := none }
        island := none
        islandTimer := none }) ∧
      (s.sbu.island ≠ some .timer → u.active .island = s.active .island ∧
        u.sbu = { s.sbu with islandTimer := none }) ∧
      (∀ m : MoverId, u.claim m =
        match s.claim m with
        | .listening _ => .listening s.now
        | .unclaimed => .unclaimed
        | .waiting => .waiting
        | .held => .held) ∧
      (∀ m r, s.mover m = some r → r.phase = .requesting → s.standing m = .cleared → s.granted m = true →
        ∃ x, u.mover m = some x ∧ x.direction = r.direction ∧ x.driver = r.driver ∧
          x.phase = if (s.moverCfg m).lockFitted = true ∧ s.input (s.moverCfg m).lockClosed = true ∧
            s.input (s.moverCfg m).lockOpen = false then .unlocking else .running) ∧
      ∀ m r, s.mover m = some r → ¬(r.phase = .requesting ∧ s.standing m = .cleared ∧ s.granted m = true) →
        u.mover m = some r

/-- A good frame that is malformed is discarded with MALFORMED, whatever row it came as, and nothing else of the station
moves but the port that heard it (R161, R6). -/
def Obligations.MalformedFramesAreDiscarded : Prop :=
  ∀ (p : PortId) (frame : List Byte) (c : Instr) (s : State), c ∈ frameCommands p frame → s.hears p = true →
    s.delivers = true → frameWhole frame = true → crcGood frame = true → parseFrame frame = none → Calm s p →
    ∃ t, exec c s = .next t ∧ t = { heardNow s p with fcl := t.fcl } ∧
      OccurredNow (heardNow s p) t .malformed

/-- Reading the bytes of a frame that can be sent gives back the frame: its length, its CRC and every field of every
kind of frame stand (R163, Tables 8-4 to 8-8).
On the pair: what a receiver makes of a start symbol of one or two bit times and the symbols a port sends after it is
those bytes; of two frames that differ in kind or source, the one with the lower value sends a 0 in the arbitration code
where the other first differs from it, and that 0 overrides the other's 1; two senders that disagree in the data code
both see the collision symbol; a start symbol followed by a recessive bit time is a link pulse (R149, R155, R156,
Table 8-1). -/
def Obligations.FrameBytesReadBack : Prop :=
  (∀ f : Frame, f.wf = true →
    frameWhole (encodeFrame f) = true ∧ crcGood (encodeFrame f) = true ∧ parseFrame (encodeFrame f) = some f ∧
    ∀ span : Nat, span = 1 ∨ span = 2 →
      hearPair span ((arbitration (encodeFrame f) ++ dataPart (encodeFrame f)).map Symbol.halves) =
        .whole (encodeFrame f)) ∧
  (∀ f g : Frame, f.wf = true → g.wf = true →
    f.kindCode * 256 + f.source < g.kindCode * 256 + g.source →
    ∃ pre a b, arbitration (encodeFrame f) = pre ++ .arb0 :: a ∧ arbitration (encodeFrame g) = pre ++ .arb1 :: b) ∧
  overridden Symbol.arb0.halves (overlay Symbol.arb0.halves Symbol.arb1.halves) = false ∧
  overridden Symbol.arb1.halves (overlay Symbol.arb0.halves Symbol.arb1.halves) = true ∧
  overlay Symbol.data0.halves Symbol.data1.halves = Symbol.collision.halves ∧
  overridden Symbol.data0.halves Symbol.collision.halves = true ∧
  overridden Symbol.data1.halves Symbol.collision.halves = true ∧
  linkPulseSymbols = [.start, .empty] ∧ ∀ span rest, span = 1 ∨ span = 2 →
    hearPair span (Symbol.empty.halves :: rest) = .linkPulse

/-! ### The transmit queue -/

/-- TRANSMIT_START: the port takes, of the frames not yet sent on it and no DRIVE past 200 ms, the first of the lowest
kind code, in the order DRIVE, ANNOUNCE, SET, SCENE, FORGET (R155, R157, R158, R159); that with none to take the command
changes nothing is the model's choice (notes/assumptions/3.md).
DRIVE_STALE: a queued DRIVE leaves the FIFO when 200 ms old, with the fault DRIVE_STALE if it was sent on no port (R159);
that one command removes the earliest of the aged DRIVEs and no other is the model's inference
(notes/assumptions/19.md). -/
def Obligations.QueueStartsByKindAndAgesDrives : Prop :=
  (∀ (p : PortId) (s : State), s.mayTransmit = true → (s.liu.ports[p]).state ≠ .dark →
    (s.liu.ports[p]).attempt = none →
    let open' := (s.liu.slot.toList ++ s.liu.fifo).filter fun q =>
      !q.sent[p] && !(q.frame.kindCode = 1 && decide (q.queuedAt + 200 < s.now))
    (open' = [] → exec (.transmitStart p) s = .next s) ∧
    (open' ≠ [] → ∃ q pre post, open' = pre ++ q :: post ∧
      (∀ x ∈ pre, q.frame.kindCode < x.frame.kindCode) ∧ (∀ x ∈ post, q.frame.kindCode ≤ x.frame.kindCode) ∧
      exec (.transmitStart p) s =
        .next (s.onPort p fun x => { x with attempt := some { serial := q.serial, frame := q.frame } }))) ∧
  ∀ (s : State) (pre post : List Queued) (q : Queued), s.liu.fifo = pre ++ q :: post →
    (s.liu.fifo.map fun x => x.serial).Nodup →
    (∀ x ∈ pre, ¬(x.frame.kindCode = 1 ∧ x.queuedAt + 200 ≤ s.now)) → q.frame.kindCode = 1 →
    q.queuedAt + 200 ≤ s.now →
    ∃ t, exec .driveStale s = .next t ∧
      t = { s with liu := { s.liu with fifo := pre ++ post }, fcl := t.fcl } ∧
      ((q.sent[(0 : PortId)] = true ∨ q.sent[(1 : PortId)] = true) → t.fcl = s.fcl) ∧
      (q.sent[(0 : PortId)] = false → q.sent[(1 : PortId)] = false → OccurredNow s t .driveStale)

/-- ECHO_MISMATCH: the first on a port for a frame marks it and leaves it unsent; a second on the same port raises TWIN,
which empties the queue, drops the offers and takes the budget into island mode until the next reset (R156, R14, R15,
R34); a frame that has left the queue is not tried again (R159).
An ANNOUNCE from the own number is not filed: it raises TWIN, with the queue emptied, the movers in motion faulted
with HALTED and island mode entered (R14, R15, R109). -/
def Obligations.TwinIsDetectedTwoWays : Prop :=
  (∀ (p : PortId) (s : State) (a : Attempt), (s.liu.ports[p]).attempt = some a →
    let ended := s.onPort p fun x => { x with attempt := none, lastTransition := s.now }
    (s.queuedOf a.serial = none → exec (.echoMismatch p) s = .next ended) ∧
    (∀ q, s.queuedOf a.serial = some q → q.mismatch[p] = false →
      exec (.echoMismatch p) s =
        .next (ended.onQueued a.serial fun x => { x with mismatch := x.mismatch.set p true })) ∧
    (∀ q, s.queuedOf a.serial = some q → q.mismatch[p] = true → s.active .twin = false → ∃ t,
      exec (.echoMismatch p) s = .next t ∧ t.active .twin = true ∧ t.liu.slot = none ∧ t.liu.fifo = [] ∧
      t.liu.ports = ended.liu.ports ∧ t.sbu.offers = [] ∧ t.sbu.island = some .twin ∧ t.active .island = true ∧
      (∀ d ∈ t.sbu.demands, d.ceiling = some d.drawing ∧ d.pending = none) ∧
      (∀ m r, s.mover m = some r → r.phase.inMotion = true →
        ∃ u, t.mover m = some u ∧ u.phase = .faulted ∧ u.faultReason = some .halted))) ∧
  ∀ (p : PortId) (frame : List Byte) (own : Nat) (a : Announce) (s : State),
    GoodFrame s p frame (.announce own a) → s.suc.ownNumber = some own → s.haltActive = false →
    ∃ t, exec (.announceReceived p frame) s = .next t ∧ t.ptu = s.ptu ∧ t.active .twin = true ∧
      t.liu.slot = none ∧ t.liu.fifo = [] ∧ t.sbu.offers = [] ∧ t.sbu.island = some .twin ∧
      (∀ m r, t.mover m = some r → r.phase.inMotion = false) ∧ t.lcu = s.lcu ∧ t.mayTransmit = false

/-- FRAME_COMPLETION: the frame is sent on the port; the first completion of the slot's ANNOUNCE turns each of its offers
whose entry stands into a pending amount, the smaller of the offer and the W, when that exceeds Sd (R31); a frame sent
on one port and on every port not DARK leaves the queue (R156, R158); one replaced or withdrawn leaves no mark (R159). -/
def Obligations.CompletionMarksSettlesAndDeparts : Prop :=
  ∀ (p : PortId) (s : State) (a : Attempt), (s.liu.ports[p]).attempt = some a →
    ∃ t, exec (.frameCompletion p) s = .next t ∧ t = { s with liu := t.liu, sbu := t.sbu } ∧
      t.liu.ports = (s.onPort p fun x => { x with attempt := none, lastTransition := s.now }).liu.ports ∧
      (s.queuedOf a.serial = none →
        t.liu = { s.liu with ports := t.liu.ports } ∧ t.sbu = s.sbu) ∧
      (∀ q, s.queuedOf a.serial = some q →
        let mark := fun (x : Queued) => if x.serial = a.serial
          then { x with sent := x.sent.set p true, mismatch := x.mismatch.set p false } else x
        t.liu.fifo = (s.liu.fifo.map mark).filter (fun x => !departs t.liu.ports x) ∧
        t.liu.slot = (s.liu.slot.map mark).filter (fun x => !departs t.liu.ports x) ∧
        ((∃ x, s.liu.slot = some x ∧ x.serial = a.serial) → q.sent[(0 : PortId)] = false →
          q.sent[(1 : PortId)] = false →
          t.sbu.offers = [] ∧ t.sbu = { s.sbu with offers := [], demands := t.sbu.demands } ∧
          ((s.sbu.offers.map fun o => o.1).Nodup → t.sbu.demands = s.sbu.demands.map fun d =>
            match s.sbu.offers.find? fun o => o.1 = d.source with
            | some o => if d.settled < min o.2 d.want then { d with pending := some (min o.2 d.want, s.now) } else d
            | none => d)) ∧
        (¬(∃ x, s.liu.slot = some x ∧ x.serial = a.serial) → t.sbu = s.sbu) ∧
        ((q.sent[(0 : PortId)] = true ∨ q.sent[(1 : PortId)] = true) → t.sbu = s.sbu))

/-- Every step keeps the transmit queue to one ANNOUNCE in its slot and four command frames, and empty while TWIN is
active (R157, R15).
Every step keeps the slot of the own number ABSENT (R3).
Every step in RUN keeps LINE_UNFIT active exactly while line fitness does not hold (R154). -/
def Obligations.StepKeepsQueueTableAndFitness : Prop :=
  (∀ s t : State, QueueOk s → step s = .next t → QueueOk t) ∧
  (∀ s t : State, TableOk s → step s = .next t → TableOk t) ∧
  ∀ s t : State, FitnessOk s → step s = .next t → FitnessOk t

/-! ### Peers -/

/-- ANNOUNCE_RECEIVED from a peer is filed whole in the slot of its source, LIVE and heard now, whatever stood there, and
in no other slot (R3, R4, R5).
A HELD own claim that meets a conflicting HELD claim in the ANNOUNCE filed puts its mover into FAULTED with CLASH at
that instant; the entry goes and the claim is released (R80, R107, R110). That the clash is taken first where the same
ANNOUNCE also brings an occupied zone to an UNLOCKING mover is the model's choice (notes/assumptions/30.md). -/
def Obligations.AnnounceIsFiledAndMayClash : Prop :=
  (∀ (p : PortId) (frame : List Byte) (src : Nat) (a : Announce) (i : SlotId) (s : State),
    GoodFrame s p frame (.announce src a) → s.suc.ownNumber ≠ some src → slotOf src = some i →
    ∃ t, exec (.announceReceived p frame) s = .next t ∧
      t.ptu.peers[i] = some { status := .live, heard := s.now, ann := a } ∧
      (∀ j : SlotId, j ≠ i → t.ptu.peers[j] = s.ptu.peers[j]) ∧
      t.active .malformed = s.active .malformed ∧ t.lcu = s.lcu ∧ t.ktu = s.ktu ∧ t.fpr = s.fpr) ∧
  ∀ (p : PortId) (frame : List Byte) (src : Nat) (a : Announce) (m : MoverId) (r : Mover) (s : State),
    GoodFrame s p frame (.announce src a) → s.suc.ownNumber ≠ some src → Calm s p →
    s.mover m = some r → r.phase.inMotion = true → s.claim m = .held →
    (∃ c ∈ a.claims, c.held = true ∧ zonesMeet (s.zonesOf m) c.zones = true) →
    ∃ t, exec (.announceReceived p frame) s = .next t ∧ t.claim m = .unclaimed ∧
      t.demandOf (.mover m) = none ∧ t.active .clash = true ∧
      t.mover m = some { r with
        phase := .faulted
        driver := none
        direction := none
        lastDrive := none
        stopReason := none
        reversal := none
        timer := none
        overTime := none
        stallSpan := none
        faultReason := some .clash
        lastRefusal := .clash }

/-- FORGET from an officer empties the named slot, also on the second delivery; one from another source or naming the
own number changes no record (R11, R12).
PEER_STALE and PEER_ORPHAN: a record becomes STALE when silent for 3 of its own periods and ORPHAN at 10; its
announced fields stand, and PEER_ORPHANED follows (R8, R10). That either command changes nothing before 3 periods is the
model's choice for a command whose event cannot occur (notes/assumptions/3.md). -/
def Obligations.PeersAgeAndAreForgotten : Prop :=
  (∀ (p : PortId) (frame : List Byte) (src target : Nat) (i : SlotId) (s : State),
    GoodFrame s p frame (.forget src target) → slotOf target = some i → Calm s p →
    (src ∈ s.cfg.officers → s.suc.ownNumber ≠ some target → ∃ t, exec (.forget p frame) s = .next t ∧
      t.ptu.peers[i] = none ∧ (∀ j : SlotId, j ≠ i → t.ptu.peers[j] = s.ptu.peers[j]) ∧
      t.lcu = s.lcu ∧ t.fpr = s.fpr ∧ t.ktu = s.ktu) ∧
    ((src ∉ s.cfg.officers ∨ s.suc.ownNumber = some target) →
      exec (.forget p frame) s = .next (heardNow s p))) ∧
  ∀ (n : SlotId) (r : PeerRec) (s : State), s.ptu.peers[n] = some r →
    (r.status = .live → r.heard + 3 * r.ann.period.ms ≤ s.now → ∃ t, exec (.peerStale n) s = .next t ∧
      t = { s with ptu := t.ptu, fcl := t.fcl } ∧ t.ptu.peers[n] = some { r with status := .stale } ∧
      (∀ j : SlotId, j ≠ n → t.ptu.peers[j] = s.ptu.peers[j])) ∧
    (r.status ≠ .orphan → r.heard + 10 * r.ann.period.ms ≤ s.now → ∃ t, exec (.peerOrphan n) s = .next t ∧
      t = { s with ptu := t.ptu, fcl := t.fcl } ∧ t.ptu.peers[n] = some { r with status := .orphan } ∧
      (∀ j : SlotId, j ≠ n → t.ptu.peers[j] = s.ptu.peers[j]) ∧ t.active .peerOrphaned = true) ∧
    (s.now < r.heard + 3 * r.ann.period.ms →
      exec (.peerStale n) s = .next s ∧ exec (.peerOrphan n) s = .next s)

/-- PEER_ORPHANED is active for as long as at least one record in the table is ORPHAN: every step keeps it so (R10). -/
def Obligations.StepKeepsPeerOrphaned : Prop :=
  kindSeverity .peerOrphaned = .degraded ∧ isEvent .peerOrphaned = false ∧
    ∀ s t : State, OrphansShown s → step s = .next t → OrphansShown t

/-! ### Load channels -/

/-- The requested level a SET gives, kind by kind, and that a SET whose derived level the channel already holds changes
nothing but the port that heard it (R45). -/
def Obligations.SetDerivesTheRequestedLevel : Prop :=
  (∀ (k : ChannelCfg) (level : Nat), k.lmin ≤ 256 →
    deriveLevel k level = deriveLevel k (min level 256) ∧
    (k.kind = .switched → deriveLevel k 0 = 0 ∧ (1 ≤ level → deriveLevel k level = 256)) ∧
    (k.kind = .dimmed → deriveLevel k 0 = 0 ∧ (1 ≤ level → level < k.lmin → deriveLevel k level = k.lmin) ∧
      (1 ≤ level → k.lmin ≤ level → level ≤ 256 → deriveLevel k level = level))) ∧
  ∀ (p : PortId) (frame : List Byte) (src own level : Nat) (c : ChannelId) (s : State),
    GoodFrame s p frame (.set src own c.val level) → s.suc.ownNumber = some own → Calm s p →
    (s.lcu.channels[c]).mark ≠ .tripped → deriveLevel s.cfg.channels[c] level = (s.lcu.channels[c]).lreq →
    exec (.set p frame) s = .next (heardNow s p)

/-- A SET taken up gives the channel its requested level, brings its demand entry into line (a new entry as R21 starts
it, the W of R46, or none), and its Leff follows the drawing; a TRIPPED channel returns to service and keeps its trip
memory (R44 to R50). -/
def Obligations.SetGivesTheLevelAndTheEntry : Prop :=
  ∀ (p : PortId) (frame : List Byte) (src own level : Nat) (c : ChannelId) (s : State),
    GoodFrame s p frame (.set src own c.val level) → s.suc.ownNumber = some own → Calm s p →
    s.working = true → s.suc.standDown = false → s.active .twin = false → LevelsOk s →
    ((s.lcu.channels[c]).mark = .inService ∨ (s.lcu.channels[c]).mark = .tripped) →
    let k := s.cfg.channels[c]
    let new := deriveLevel k level
    ∃ t, exec (.set p frame) s = .next t ∧
      t = { heardNow s p with lcu := t.lcu, sbu := { s.sbu with demands := t.sbu.demands, offers := t.sbu.offers } } ∧
      (t.lcu.channels[c]).lreq = new ∧ (t.lcu.channels[c]).mark = .inService ∧
      (t.lcu.channels[c]).leff = levelOf k new (t.chanDrawing c) ∧
      (t.lcu.channels[c]).tripMemory = (s.lcu.channels[c]).tripMemory ∧
      (∀ c' : ChannelId, c' ≠ c → t.lcu.channels[c'] = s.lcu.channels[c']) ∧
      (∀ other, other ≠ .chan c → t.demandOf other = s.demandOf other) ∧
      (k.rating = 0 ∨ new = 0 → t.demandOf (.chan c) = none) ∧
      (k.rating ≠ 0 → new ≠ 0 → (s.lcu.channels[c]).lreq = 0 →
        t.demandOf (.chan c) = some
          { source := .chan c, cls := k.cls, rank := k.rank, want := wants k new
            settled := if k.cls = 0 then wants k new else 0
            pending := none
            drawing := if k.cls = 0 then wants k new else 0
            ceiling := if k.cls ≠ 0 ∧ s.inIsland = true then some 0 else none }) ∧
      (∀ d, s.demandOf (.chan c) = some d → new ≠ 0 → k.cls ≠ 0 → new ≠ (s.lcu.channels[c]).lreq →
        t.demandOf (.chan c) = some
          (if wants k new < d.want then
            { d with
              want := wants k new
              settled := min d.settled (wants k new)
              drawing := min d.drawing (min d.settled (wants k new))
              pending := lowerPending (wants k new) (min d.settled (wants k new)) d.pending }
          else
            { d with
              want := wants k new
              settled := if s.inIsland = true then min (wants k new) (d.ceiling.getD d.settled) else d.settled }))

/-- SET and SCENE change no channel and no entry in stand-down, while TWIN is active and in LISTEN_ONLY; a SET for
another station, for a channel above 11, or for one LOCKED_OUT or UNFITTED changes none either (R44, R57, R61, R64,
R162).
SCENE applies each of its pairs as a SET of that level, all at one instant: every channel it names that is not
LOCKED_OUT or UNFITTED takes the derived level; one that is, and every channel it does not name, keeps its levels, its
status and its entry (R60, R61). -/
def Obligations.SceneSetsEachPairWhereTaken : Prop :=
  (∀ (p : PortId) (frame : List Byte) (s : State), Calm s p →
    (∀ src target channel level, GoodFrame s p frame (.set src target channel level) →
      (s.suc.standDown = true ∨ s.active .twin = true ∨ s.suc.phase = .listenOnly ∨ s.suc.ownNumber ≠ some target ∨
        12 ≤ channel ∨ (∃ c : ChannelId, c.val = channel ∧
          ((s.lcu.channels[c]).mark = .lockedOut ∨ (s.lcu.channels[c]).mark = .unfitted))) →
      exec (.set p frame) s = .next (heardNow s p)) ∧
    (∀ src number, GoodFrame s p frame (.scene src number) →
      (s.suc.standDown = true ∨ s.active .twin = true ∨ s.suc.phase = .listenOnly) →
      exec (.scene p frame) s = .next (heardNow s p))) ∧
  ∀ (p : PortId) (frame : List Byte) (src : Nat) (n : Fin 32) (s : State),
    GoodFrame s p frame (.scene src n.val) → Calm s p →
    s.working = true → s.suc.standDown = false → s.active .twin = false → LevelsOk s →
    ((s.cfg.scenes[n]).map fun q => q.channel).Nodup →
    ∃ t, exec (.scene p frame) s = .next t ∧
      t = { heardNow s p with lcu := t.lcu, sbu := { s.sbu with demands := t.sbu.demands, offers := t.sbu.offers } } ∧
      LevelsOk t ∧
      (∀ q ∈ s.cfg.scenes[n], (s.lcu.channels[q.channel]).mark = .inService ∨
          (s.lcu.channels[q.channel]).mark = .tripped →
        (t.lcu.channels[q.channel]).lreq = deriveLevel s.cfg.channels[q.channel] q.level ∧
        (t.lcu.channels[q.channel]).mark = .inService) ∧
      (∀ c : ChannelId, (∀ q ∈ s.cfg.scenes[n], q.channel ≠ c) ∨ (s.lcu.channels[c]).mark = .lockedOut ∨
          (s.lcu.channels[c]).mark = .unfitted →
        t.lcu.channels[c] = s.lcu.channels[c] ∧ t.demandOf (.chan c) = s.demandOf (.chan c)) ∧
      ∀ m : MoverId, t.demandOf (.mover m) = s.demandOf (.mover m)

/-- FADE_BEAT at a whole multiple of 10 ms moves every DIMMED output one step toward its Leff: up by the fade rate, from
0 to at least Lmin, down by the rate and to 0 below Lmin when Leff is 0 (R51). A SWITCHED output, one at its Leff and
one with fade rate 0 do not move, and nothing else moves but what follows an output: one that comes on opens its inrush
window, and one that goes off ends its window and its over-time (R54, R55), owing the trip that was due at that instant
(R59; the mark that it is owed is the model's own, notes/assumptions/13.md). -/
def Obligations.FadeBeatMovesOneStep : Prop :=
  ∀ s : State, s.now % 10 = 0 →
    ∃ t, exec .fadeBeat s = .next t ∧ t = { s with lcu := t.lcu } ∧
      ∀ c : ChannelId,
        let k := s.cfg.channels[c]
        let x := s.lcu.channels[c]
        let y := t.lcu.channels[c]
        (k.kind = .switched ∨ x.position = x.leff ∨ k.fade = 0 → y = x) ∧
        (k.kind = .dimmed → k.fade ≠ 0 →
          (0 < x.position → x.position < x.leff → y = { x with position := min (x.position + k.fade) x.leff }) ∧
          (x.position = 0 → 0 < x.leff →
            y = { x with position := min (max k.fade k.lmin) x.leff, inrush := some (s.now + 500) }) ∧
          (x.leff < x.position → 0 < x.leff → y = { x with position := max (x.position - k.fade) x.leff }) ∧
          (x.leff = 0 → 0 < x.position →
            y = if x.position - k.fade < k.lmin ∨ x.position ≤ k.fade
              then { x with
                position := 0
                inrush := none
                overTime := none
                owedTrip := match x.overTime with
                  | some k => if k + 100 ≤ s.now then some s.now else x.owedTrip
                  | none => x.owedTrip }
              else { x with position := x.position - k.fade }))

/-- INRUSH_WINDOW_EXPIRY closes the window, and a current between the single and the double threshold starts the
over-time there (R54, R55).
CHANNEL_TRIP after 100 ms of over-time: the output goes off with no fade, the entry is removed, and the channel is
TRIPPED with a 60 s memory, or LOCKED_OUT where the memory still ran (R55, R56, R57, R58).
A trip and another event on its channel at one instant: a SET or a SCENE, an own period tick or a fade beat, taken before
the trip, may put the output off or change its levels, and the trip then still takes them to 0, with no entry left, into
TRIPPED or LOCKED_OUT (R59, R62). The mark that a trip is owed, dropped by the trip, is the model's own field
(notes/assumptions/13.md). -/
def Obligations.InrushEndsAndTripsCutTheOutput : Prop :=
  (∀ (c : ChannelId) (s : State) (k : Nat), (s.lcu.channels[c]).inrush = some k → k ≤ s.now →
    exec (.inrushWindowExpiry c) s = .next (s.onChannel c fun x =>
      { x with
        inrush := none
        overTime :=
          if x.position = 0 then x.overTime
          else if (s.cfg.channels[c]).trip < x.lastReading then some (x.overTime.getD s.now)
          else none })) ∧
  (∀ (c : ChannelId) (s : State) (k : Nat), 0 < (s.lcu.channels[c]).position →
    (s.lcu.channels[c]).overTime = some k → k + 100 ≤ s.now →
    ∃ t, exec (.channelTrip c) s = .next t ∧ t = { s with lcu := t.lcu, sbu := t.sbu, fcl := t.fcl } ∧
      t.lcu.channels[c] = { s.lcu.channels[c] with
        lreq := 0
        leff := 0
        position := 0
        inrush := none
        overTime := none
        owedTrip := none
        mark := if (s.lcu.channels[c]).tripMemory = none then .tripped else .lockedOut
        tripMemory := if (s.lcu.channels[c]).tripMemory = none then some (s.now + 60000) else none } ∧
      (∀ c' : ChannelId, c' ≠ c → t.lcu.channels[c'] = s.lcu.channels[c']) ∧
      t.demandOf (.chan c) = none ∧ (∀ other, other ≠ .chan c → t.demandOf other = s.demandOf other) ∧
      t.fcl.flags[FaultKind.channelTrip.idx] = occurred s.now ∧
      ((s.lcu.channels[c]).tripMemory ≠ none → t.active .channelLockout = true) ∧
      ((s.lcu.channels[c]).tripMemory = none → t.active .channelLockout = s.active .channelLockout)) ∧
  ∀ (c : ChannelId) (s t : State) (k : Nat) (first : Instr), 0 < (s.lcu.channels[c]).position →
    (s.lcu.channels[c]).overTime = some k → k + 100 ≤ s.now → (s.lcu.channels[c]).mark = .inService →
    ((∃ p frame, first = .set p frame ∨ first = .scene p frame) ∨ (∃ supply, first = .ownPeriodTick supply) ∨
      first = .fadeBeat) →
    exec first s = .next t →
    ∃ u, exec (.channelTrip c) t = .next u ∧ (u.lcu.channels[c]).lreq = 0 ∧ (u.lcu.channels[c]).leff = 0 ∧
      (u.lcu.channels[c]).position = 0 ∧ u.demandOf (.chan c) = none ∧
      u.fcl.flags[FaultKind.channelTrip.idx] = occurred s.now ∧
      (u.lcu.channels[c]).mark = (if (s.lcu.channels[c]).tripMemory = none then .tripped else .lockedOut) ∧
      (u.lcu.channels[c]).tripMemory =
        (if (s.lcu.channels[c]).tripMemory = none then some (s.now + 60000) else none)

/-- Every step keeps the channels as Chapter 3 has them: entries, requested and effective levels, outputs, channels out
of service (R20, R42, R45, R46, R48, R49, R51, R56, R57, R64, R65). -/
def Obligations.StepKeepsTheChannels : Prop :=
  ∀ s t : State, LevelsOk s → step s = .next t → LevelsOk t

/-- SENSE_READING: in CALIBRATE the conversion joins the offset's sum; in QUIET and RUN the reading is the raw value less
the offset, held to 0-2047 (R146, R147); a channel's output that is on has its over-time started above the threshold
in force and ended at or below it (R54, R55), and so has a RUNNING mover, a windlass its stall span too (R103, R125).
That a reading may end a span in the very instant it has run in full, and that a window is open until its expiry is
taken, are the model's choices (notes/assumptions/32.md and 33.md). -/
def Obligations.SenseReadingIsOffsetAndSaturated : Prop :=
  ∀ (cs : SenseId) (raw : Int) (s : State), senseInUse s.cfg cs = true →
    (s.suc.phase = .calibrate → exec (.senseReading cs raw) s =
      .next (s.onSense cs fun x => { x with raw := raw, sum := x.sum + raw })) ∧
    (∀ o : Int, s.working = true → s.senseFaulty cs = false → (s.csa.inputs[cs]).offset = some o →
      ∃ reading : Nat, (reading : Int) = max 0 (min 2047 (raw - o)) ∧
        (∀ c : ChannelId, c.val = cs.val → exec (.senseReading cs raw) s =
          .next ((s.onSense cs fun x => { x with raw := raw }).onChannel c fun x =>
            { x with
              lastReading := reading
              overTime :=
                if x.position = 0 then x.overTime
                else if (if x.inrush = none then (s.cfg.channels[c]).trip else 2 * (s.cfg.channels[c]).trip) < reading
                then some (x.overTime.getD s.now)
                else none })) ∧
        (∀ m : MoverId, 12 + m.val = cs.val → exec (.senseReading cs raw) s =
          .next ((s.onSense cs fun x => { x with raw := raw }).onMover m fun r =>
            if r.phase = .running then
              { r with
                lastSense := reading
                overTime := if (s.moverCfg m).overcurrent < reading then some (r.overTime.getD s.now) else none
                stallSpan :=
                  if (s.moverCfg m).kind = .windlass ∧ (s.moverCfg m).chain.stallThreshold ≤ reading
                  then some (r.stallSpan.getD s.now) else none }
            else { r with lastSense := reading })))

/-! ### Zone claims and movers -/

/-- Every step keeps movers and claims in step: an entry and a claim exactly from REQUESTING to LOCKING, the entry wanting
the run rating in the configured class and rank, the claim HELD from UNLOCKING on, no two own HELD claims on a common
zone, every chain count in 0-4095 (R20, R75, R90, R97, R116, R120). -/
def Obligations.StepKeepsMotionAndClaims : Prop :=
  ∀ s t : State, MotionOk s → step s = .next t → MotionOk t

/-- Every step keeps movers safe: a mover that is UNLOCKING or RUNNING holds its zones with none of them occupied, draws
its full run rating and has line fitness; while a HALT fault is active none is in motion; none is in motion outside RUN
(R101, R109, R116). -/
def Obligations.StepKeepsMoversSafe : Prop :=
  ∀ s t : State, MoversSafe s → MotionOk s → step s = .next t → MoversSafe t

/-- Every step keeps the condition faults as their owners' rules give them: PORT_DARK and PORT_UNFIT, ISLAND, LOCK_JAM,
TRAVEL_TIMEOUT, OVERLOAD, STALL, CLASH, COUNT_UNKNOWN, CHANNEL_LOCKOUT, SENSE_FAULT, and CONFIG_INVALID and BAD_NUMBER,
which stand in LISTEN_ONLY of their cause until the next reset (R34, R57, R107, R122, R126, R146, R150, R153, R174).
SUPPLY_SHORT keeps the state its last tick gave it: no command but a tick, CALIBRATE_END, which makes the first one, and
a reset changes it (R25). LINE_UNFIT, PEER_ORPHANED and PUMP_FAULT are in the invariants of fitness, of the table and of
the movers, and TWIN stands until reset. -/
def Obligations.StepKeepsTheConditions : Prop :=
  (∀ s t : State, ConditionsOk s → step s = .next t → ConditionsOk t) ∧
  ∀ (s t : State) (c : Instr), exec c s = .next t → (∀ supply, c ≠ .ownPeriodTick supply) → c ≠ .calibrateEnd →
    c ≠ .powerOn → c ≠ .pinReset → t.active .supplyShort = s.active .supplyShort

/-- The station after reset meets every invariant the statements above keep. -/
def Obligations.ResetMeetsEveryInvariant : Prop :=
  BudgetOk State.reset ∧ MotionOk State.reset ∧ QueueOk State.reset ∧ TableOk State.reset ∧ FitnessOk State.reset ∧
    LevelsOk State.reset ∧ MoversSafe State.reset ∧ OrphansShown State.reset ∧ ConditionsOk State.reset

/-- DRIVE_DIR_A and DRIVE_DIR_B to a mover in IDLE that nothing refuses: it enters REQUESTING with the source as driver
of record, its entry is made as R21 starts it, its claim becomes INTENT, WAITING behind an obstacle and LISTENING
otherwise, and an extra ANNOUNCE carries an intent that listens (R72, R82, R90, R93). The other own claim stands as the
view has it, and the listen window is above 0, as its range makes it. -/
def Obligations.DirStartsARequest : Prop :=
  ∀ (d : Dir) (p : PortId) (frame : List Byte) (src : Nat) (m : MoverId) (r : Mover) (s : State),
    DriveFor s p frame src m (motionFor d) → Calm s p → s.mover m = some r → r.phase = .idle →
    (∀ g, r.releaseGuard = some g → g.1 ≠ src) → s.lineFit = true → s.suc.phase = .run → s.suc.standDown = false →
    s.haltActive = false → s.endReached m d = false → 0 < s.cfg.listenWindow → s.claim m = .unclaimed →
    s.nextClaim (otherMover m) = s.claim (otherMover m) →
    ∃ t, exec (driveCommand (motionFor d) p frame) s = .next t ∧
      t.mover m = some { r with
        phase := .requesting
        driver := some src
        direction := some d
        lastDrive := some s.now
        timer := some (s.now + 10000)
        lastRefusal := .clear } ∧
      t.demandOf (.mover m) = some
        { source := .mover m, cls := (s.moverCfg m).cls, rank := (s.moverCfg m).rank, want := (s.moverCfg m).runRating
          settled := if (s.moverCfg m).cls = 0 then (s.moverCfg m).runRating else 0
          pending := none
          drawing := if (s.moverCfg m).cls = 0 then (s.moverCfg m).runRating else 0
          ceiling := if (s.moverCfg m).cls ≠ 0 ∧ s.inIsland = true then some 0 else none } ∧
      t.claim m = (if s.obstacle m = true then .waiting else .listening s.now) ∧
      (s.obstacle m = false → AnnouncesNow t) ∧
      (∀ other, other ≠ .mover m → t.demandOf other = s.demandOf other) ∧
      t.active .driveRefused = s.active .driveRefused ∧ t.lcu = s.lcu ∧ t.ptu = s.ptu ∧
      t.liu.ports = (heardNow s p).liu.ports

/-- A DIR that is refused at delivery leaves the mover as it was but for its code and raises DRIVE_REFUSED: in IDLE the
first of LINE_UNFIT, STARTING, STANDBY, HALTED, AT_LIMIT that applies (R93), in a motion phase BUSY from a station other
than the driver of record (R94), in FAULTED NOT_CLEARED (R111), in UNFITTED NOT_FITTED (R88). A DIR under the sender's
release guard is ignored (R95).
A DRIVE from a station outside the mover's command list is ignored with NOT_PERMITTED and DRIVE_REFUSED, whatever its
motion and the mover's phase; one for another station or for a slot without a record changes nothing (R91, R92, R162). -/
def Obligations.DriveIsRefusedWithItsCode : Prop :=
  (∀ (d : Dir) (p : PortId) (frame : List Byte) (src : Nat) (m : MoverId) (r : Mover) (s : State),
    DriveFor s p frame src m (motionFor d) → Calm s p → s.mover m = some r →
    let refused := fun (code : RefusalCode) => ∃ t, exec (driveCommand (motionFor d) p frame) s = .next t ∧
      t = { (heardNow s p).onMover m (fun x => { x with lastRefusal := code }) with fcl := t.fcl } ∧
      OccurredNow (heardNow s p) t .driveRefused
    (r.phase = .idle → (∀ g, r.releaseGuard = some g → g.1 ≠ src) →
      (s.lineFit = false → refused .lineUnfit) ∧
      (s.lineFit = true → s.suc.phase = .quiet → refused .starting) ∧
      (s.lineFit = true → s.suc.phase = .run → s.suc.standDown = true → refused .standby) ∧
      (s.lineFit = true → s.suc.phase = .run → s.suc.standDown = false → s.haltActive = true → refused .halted) ∧
      (s.lineFit = true → s.suc.phase = .run → s.suc.standDown = false → s.haltActive = false →
        s.endReached m d = true → refused .atLimit)) ∧
    (r.phase = .idle → (∃ g, r.releaseGuard = some g ∧ g.1 = src) →
      exec (driveCommand (motionFor d) p frame) s = .next (heardNow s p)) ∧
    (r.phase.inMotion = true → r.driver ≠ some src → refused .busy) ∧
    (r.phase = .faulted → refused .notCleared) ∧
    (r.phase = .unfitted → refused .notFitted)) ∧
  ∀ (p : PortId) (frame : List Byte) (src target : Nat) (m : MoverId) (motion : Motion) (s : State),
    GoodFrame s p frame (.drive src target m motion) → Calm s p →
    (s.suc.ownNumber ≠ some target ∨ s.mover m = none →
      exec (driveCommand motion p frame) s = .next (heardNow s p)) ∧
    (∀ r, s.suc.ownNumber = some target → s.mover m = some r → src ∉ (s.moverCfg m).commandList →
      ∃ t, exec (driveCommand motion p frame) s = .next t ∧
        t = { (heardNow s p).onMover m (fun x => { x with lastRefusal := .notPermitted }) with fcl := t.fcl } ∧
        OccurredNow (heardNow s p) t .driveRefused)

/-- A DIR from the driver of record in the motion phases (Table 5-7): the same direction refreshes the last DRIVE time in
REQUESTING, UNLOCKING and RUNNING and is ignored in STOPPING and LOCKING; the opposite one turns a request, stops a
RUNNING mover with the reversal marked, marks a STOPPING one, and is ignored in LOCKING. -/
def Obligations.DirInMotionFollowsTheTable : Prop :=
  ∀ (d : Dir) (p : PortId) (frame : List Byte) (src : Nat) (m : MoverId) (r : Mover) (s : State),
    DriveFor s p frame src m (motionFor d) → Calm s p → s.mover m = some r → r.driver = some src →
    let run := exec (driveCommand (motionFor d) p frame) s
    let refreshed := (heardNow s p).onMover m fun x => { x with lastDrive := some s.now }
    (r.direction = some d → r.phase = .requesting ∨ r.phase = .unlocking ∨ r.phase = .running →
      run = .next refreshed) ∧
    (r.direction = some d → r.phase = .stopping → run = .next (heardNow s p)) ∧
    (r.direction = some (opposite d) → r.phase = .requesting ∨ r.phase = .unlocking → s.endReached m d = false →
      run = .next (refreshed.onMover m fun x => { x with direction := some d })) ∧
    (r.direction = some (opposite d) → r.phase = .requesting ∨ r.phase = .unlocking → s.endReached m d = true →
      ∃ t u, run = .next t ∧ t.mover m = some u ∧ u.phase = .idle ∧ u.lastRefusal = .atLimit ∧ u.driver = none ∧
        t.claim m = .unclaimed ∧ t.demandOf (.mover m) = none) ∧
    (r.direction = some (opposite d) → r.phase = .running →
      run = .next (refreshed.onMover m fun x =>
        { x with
          phase := .stopping
          stopReason := some .reversal
          reversal := some d
          timer := some (s.now + (s.moverCfg m).stopDwell)
          overTime := none
          stallSpan := none })) ∧
    (r.direction = some (opposite d) → r.phase = .stopping →
      run = .next (refreshed.onMover m fun x => { x with reversal := some d })) ∧
    (r.phase = .locking → run = .next (heardNow s p))

/-- DRIVE_STOP: from the driver of record it abandons a request with RELEASED, stops a RUNNING mover, and clears a
reversal mark, each with a release guard of one hold-to-run timeout; it is ignored in IDLE, LOCKING, FAULTED and
UNFITTED, and BUSY from another station of the command list (R93 to R95, R111, Table 5-7). -/
def Obligations.StopReleasesTheMover : Prop :=
  ∀ (p : PortId) (frame : List Byte) (src : Nat) (m : MoverId) (r : Mover) (s : State),
    DriveFor s p frame src m .stop → Calm s p → s.mover m = some r →
    let run := exec (.driveStop p frame) s
    let guard := some (src, s.now + (s.moverCfg m).holdTimeout)
    (r.driver = some src → r.phase = .requesting ∨ r.phase = .unlocking →
      ∃ t, run = .next t ∧ t.claim m = .unclaimed ∧ t.demandOf (.mover m) = none ∧
        t.mover m = some { r with
          phase := .idle
          driver := none
          direction := none
          lastDrive := none
          stopReason := none
          reversal := none
          timer := none
          overTime := none
          stallSpan := none
          releaseGuard := guard
          lastRefusal := .released }) ∧
    (r.driver = some src → r.phase = .running → run = .next ((heardNow s p).onMover m fun x =>
      { x with
        phase := .stopping
        stopReason := some .released
        reversal := none
        timer := some (s.now + (s.moverCfg m).stopDwell)
        overTime := none
        stallSpan := none
        releaseGuard := guard })) ∧
    (r.driver = some src → r.phase = .stopping →
      run = .next ((heardNow s p).onMover m fun x => { x with reversal := none, releaseGuard := guard })) ∧
    (r.driver = some src → r.phase = .locking → run = .next (heardNow s p)) ∧
    (r.phase.inMotion = false → run = .next (heardNow s p)) ∧
    (r.driver ≠ some src → r.phase.inMotion = true → ∃ t, run = .next t ∧
      t = { (heardNow s p).onMover m (fun x => { x with lastRefusal := .busy }) with fcl := t.fcl } ∧
      OccurredNow (heardNow s p) t .driveRefused)

/-- DRIVE_CLEAR returns a FAULTED mover to IDLE when the condition of its reason holds, with its reason dropped and its
code NONE; otherwise it is refused with NOT_CLEARED; it is ignored in IDLE and in motion, and NOT_FITTED in UNFITTED
(R88, R93, R94, R111, R126, Table 5-9). -/
def Obligations.ClearReturnsAFaultedMover : Prop :=
  ∀ (p : PortId) (frame : List Byte) (src : Nat) (m : MoverId) (r : Mover) (s : State),
    DriveFor s p frame src m .clear → Calm s p → s.mover m = some r →
    let run := exec (.driveClear p frame) s
    let holds :=
      (r.faultReason = some .pumpFault → s.input (s.moverCfg m).powerFault = false) ∧
      (r.faultReason = some .overload → r.lastSense ≤ (s.moverCfg m).overcurrent) ∧
      (r.faultReason = some .stall → r.lastSense < (s.moverCfg m).chain.stallThreshold)
    (r.phase = .faulted → holds → ∃ t, run = .next t ∧ t = { heardNow s p with mvu := t.mvu, fcl := t.fcl } ∧
      t.mover m = some { r with phase := .idle, faultReason := none, lastRefusal := .clear } ∧
      t.mover (otherMover m) = s.mover (otherMover m) ∧
      (∀ reason kind, r.faultReason = some reason → reason ≠ .pumpFault → FaultReason.kind reason = some kind →
        t.active kind = t.anyFaulted reason)) ∧
    (r.phase = .faulted → ¬holds → ∃ t, run = .next t ∧
      t = { (heardNow s p).onMover m (fun x => { x with lastRefusal := .notCleared }) with fcl := t.fcl } ∧
      OccurredNow (heardNow s p) t .driveRefused) ∧
    (r.phase = .idle ∨ r.phase.inMotion = true → run = .next (heardNow s p)) ∧
    (r.phase = .unfitted → ∃ t, run = .next t ∧
      t = { (heardNow s p).onMover m (fun x => { x with lastRefusal := .notFitted }) with fcl := t.fcl } ∧
      OccurredNow (heardNow s p) t .driveRefused)

/-- OCCUPANCY_CHANGE and LISTEN_WINDOW_EXPIRY look at the claims again: a RUNNING mover whose zone becomes occupied stops
with OCCUPIED and an UNLOCKING one is abandoned, both at that instant (R78, R100, R102); an intent whose window has
run out is promoted to HELD where nothing stands in its way and the own other claim stands as the view has it (R75),
and its mover in REQUESTING goes to motion where its entry is granted (R97). A zone that clears lets a promotion held back
by it come about at that instant, with its extra ANNOUNCE, and a REQUESTING mover that holds its zones proceeds where its
entry is granted (R75, R78, R97).
What these go by: the standing of a claim (R71, Table 4-2); a zone set meets another in a common zone; the occupied view
is the own occupied set, empty before QUIET and in LISTEN_ONLY, and the occupied zones of every record, LIVE, STALE or
ORPHAN (R9, R67, R68); in an intent's way stands a conflicting claim of a record or the own other one, HELD or an intent
with no higher key (R70); and line fitness by its selection (R154). -/
def Obligations.ClaimsAreLookedAtAgain : Prop :=
  (∀ (z : Fin 16) (pin : PinId) (m : MoverId) (r : Mover) (s : State), s.working = true →
    s.cfg.occupancy[z] = some pin → (s.cfg.pins[pin]).fn = .occupancy → (s.fpr.pins[pin]).delivered = false →
    (s.zonesOf m).getLsbD z.val = true → s.mover m = some r →
    ∃ t, exec (.occupancyChange pin true) s = .next t ∧ t.zoneOccupied m = true ∧
      (t.fpr.pins[pin]).delivered = true ∧
      (r.phase = .running → s.claim m = .held → t.claim m = .held ∧ t.mover m = some { r with
        phase := .stopping
        stopReason := some .occupied
        reversal := none
        timer := some (s.now + (s.moverCfg m).stopDwell)
        overTime := none
        stallSpan := none }) ∧
      (r.phase = .unlocking → s.claim m = .held → ∃ u, t.mover m = some u ∧ u.phase = .idle ∧
        u.lastRefusal = .occupied ∧ t.claim m = .unclaimed)) ∧
  (∀ (m : MoverId) (r : Mover) (start : Nat) (s : State), s.claim m = .listening start →
    start + s.cfg.listenWindow ≤ s.now → s.obstacle m = false → s.zoneOccupied m = false → s.lineFit = true →
    s.mover m = some r → r.phase = .requesting → s.nextClaim (otherMover m) = s.claim (otherMover m) →
    ∃ t, exec (.listenWindowExpiry m) s = .next t ∧ t.claim m = .held ∧ t.liu.ports = s.liu.ports ∧
      (s.mayTransmit = true → AnnouncesNow t) ∧
      (s.granted m = true → ∃ u, t.mover m = some u ∧
        u.phase = if (s.moverCfg m).lockFitted = true ∧ s.input (s.moverCfg m).lockClosed = true ∧
          s.input (s.moverCfg m).lockOpen = false then .unlocking else .running) ∧
      (s.granted m = false → t.mover m = some r)) ∧
  (∀ (z : Fin 16) (pin : PinId) (m : MoverId) (r : Mover) (s : State), s.working = true →
    s.cfg.occupancy[z] = some pin → (s.cfg.pins[pin]).fn = .occupancy → (s.fpr.pins[pin]).delivered = true →
    s.mover m = some r → r.phase = .requesting → s.lineFit = true →
    let clear := s.onPin pin fun x => { x with delivered := false }
    clear.zoneOccupied m = false →
    ∃ t, exec (.occupancyChange pin false) s = .next t ∧ (t.fpr.pins[pin]).delivered = false ∧
      (s.claim m = .held ∨ (∃ start, s.claim m = .listening start ∧ start + s.cfg.listenWindow ≤ s.now ∧
          s.obstacle m = false ∧ clear.nextClaim (otherMover m) = s.claim (otherMover m)) →
        t.claim m = .held ∧
        (s.claim m ≠ .held → s.mayTransmit = true → AnnouncesNow t) ∧
        (s.granted m = true → ∃ u, t.mover m = some u ∧
          u.phase = if (s.moverCfg m).lockFitted = true ∧ s.input (s.moverCfg m).lockClosed = true ∧
            s.input (s.moverCfg m).lockOpen = false then .unlocking else .running) ∧
        (s.granted m = false → t.mover m = some r))) ∧
  ∀ (m : MoverId) (s : State),
    let common := fun (a b : ZoneSet) => ∃ z : Fin 16, a.getLsbD z.val = true ∧ b.getLsbD z.val = true
    ((s.claim m = .unclaimed → s.standing m = .absent) ∧ (s.claim m = .waiting → s.standing m = .blocked) ∧
      (∀ start, s.claim m = .listening start →
        (s.now < start + s.cfg.listenWindow → s.standing m = .blocked) ∧
        (start + s.cfg.listenWindow ≤ s.now → s.zoneOccupied m = true → s.standing m = .occupied) ∧
        (start + s.cfg.listenWindow ≤ s.now → s.zoneOccupied m = false → s.lineFit = false →
          s.standing m = .blocked)) ∧
      (s.claim m = .held → s.standing m = if s.zoneOccupied m = true then .occupied else .cleared)) ∧
    (∀ a b : ZoneSet, zonesMeet a b = true ↔ common a b) ∧
    (s.zoneOccupied m = true ↔ common (s.zonesOf m) s.occupiedView) ∧
    (∀ z : Fin 16, s.occupiedView.getLsbD z.val = true ↔
      (s.working = true ∧ ∃ pin : PinId, s.cfg.occupancy[z] = some pin ∧ (s.fpr.pins[pin]).delivered = true) ∨
      ∃ (i : SlotId) (x : PeerRec), s.ptu.peers[i] = some x ∧ x.ann.occupied.getLsbD z.val = true) ∧
    (s.obstacle m = true ↔
      (∃ (i : SlotId) (x : PeerRec) (c : ClaimStatus), s.ptu.peers[i] = some x ∧ c ∈ x.ann.claims ∧
        common (s.zonesOf m) c.zones ∧ (c.held = true ∨ c.key ≤ s.claimKey m)) ∨
      (common (s.zonesOf m) (s.zonesOf (otherMover m)) ∧ (s.claim (otherMover m) = .held ∨
        ∃ start, s.claim (otherMover m) = .listening start ∧ s.claimKey (otherMover m) < s.claimKey m))) ∧
    (s.lineFit = true ↔
      match s.cfg.ports.selection with
      | .portA => (s.liu.ports[(0 : PortId)]).state = .fit
      | .portB => (s.liu.ports[(1 : PortId)]).state = .fit
      | .either => (s.liu.ports[(0 : PortId)]).state = .fit ∨ (s.liu.ports[(1 : PortId)]).state = .fit
      | .both => (s.liu.ports[(0 : PortId)]).state = .fit ∧ (s.liu.ports[(1 : PortId)]).state = .fit)

/-- HOLD_TO_RUN_TIMEOUT, one timeout after the last DRIVE: a request is abandoned with RELEASED, a RUNNING mover stops
with RELEASED, a STOPPING one loses its reversal mark; no release guard is set (R96).
REQUEST_TIME_LIMIT, 10 s into REQUESTING: the mover enters IDLE with the first of BLOCKED, OCCUPIED, NO_SUPPLY and
LINE_UNFIT that applies, and DRIVE_REFUSED is not raised (R99). BLOCKED for a mover that has no claim, in a state no run
reaches, is the model's choice (notes/assumptions/15.md); and so is it that the timeout changes nothing in LOCKING, where
the timer does not run (notes/assumptions/3.md). -/
def Obligations.HoldAndRequestTimersEndARequest : Prop :=
  (∀ (m : MoverId) (r : Mover) (k : Nat) (s : State), s.mover m = some r → r.lastDrive = some k →
    k + (s.moverCfg m).holdTimeout ≤ s.now →
    (r.phase = .requesting ∨ r.phase = .unlocking → ∃ t u, exec (.holdToRunTimeout m) s = .next t ∧
      t.mover m = some u ∧ u.phase = .idle ∧ u.lastRefusal = .released ∧ u.releaseGuard = r.releaseGuard ∧
      t.claim m = .unclaimed ∧ t.demandOf (.mover m) = none) ∧
    (r.phase = .running → exec (.holdToRunTimeout m) s = .next (s.onMover m fun x =>
      { x with
        phase := .stopping
        stopReason := some .released
        reversal := none
        timer := some (s.now + (s.moverCfg m).stopDwell)
        overTime := none
        stallSpan := none })) ∧
    (r.phase = .stopping → exec (.holdToRunTimeout m) s = .next (s.onMover m fun x => { x with reversal := none })) ∧
    (r.phase = .locking → exec (.holdToRunTimeout m) s = .next s)) ∧
  ∀ (m : MoverId) (r : Mover) (k : Nat) (s : State), s.mover m = some r → r.phase = .requesting →
    r.timer = some k → k ≤ s.now →
    ∃ t u, exec (.requestTimeLimit m) s = .next t ∧ t.mover m = some u ∧ u.phase = .idle ∧
      u.driver = none ∧ u.direction = none ∧ t.claim m = .unclaimed ∧ t.demandOf (.mover m) = none ∧
      t.active .driveRefused = s.active .driveRefused ∧
      u.lastRefusal =
        match s.standing m with
        | .blocked => .blocked
        | .occupied => .occupied
        | .cleared => if s.granted m = true then .lineUnfit else .noSupply
        | .absent => .blocked

/-- LOCK_TIMER_EXPIRY, TRAVEL_TIMEOUT, OVERLOAD and STALL: the mover enters FAULTED with its reason as its code, every
field of its motion dropped, its entry gone and its claim released, and the kind is reported (R100, R103, R104, R106,
R107, R125). -/
def Obligations.TimersPutAMoverIntoFaulted : Prop :=
  ∀ (m : MoverId) (r : Mover) (s : State), s.mover m = some r →
    let faults := fun (c : Instr) (reason : FaultReason) (code : RefusalCode) (kind : FaultKind) =>
      ∃ t, exec c s = .next t ∧ t.claim m = .unclaimed ∧ t.demandOf (.mover m) = none ∧ t.active kind = true ∧
        t.lcu = s.lcu ∧ t.ptu = s.ptu ∧ t.liu.ports = s.liu.ports ∧ t.fpr = s.fpr ∧
        t.mover m = some { r with
          phase := .faulted
          driver := none
          direction := none
          lastDrive := none
          stopReason := none
          reversal := none
          timer := none
          overTime := none
          stallSpan := none
          faultReason := some reason
          lastRefusal := code }
    (∀ k, r.phase = .unlocking ∨ r.phase = .locking → r.timer = some k → k ≤ s.now →
      faults (.lockTimerExpiry m) .lockJam .lockJam .lockJam) ∧
    (∀ k, r.phase = .running → (s.moverCfg m).kind ≠ .windlass → r.timer = some k → k ≤ s.now →
      faults (.travelTimeout m) .travelTimeout .travelTimeout .travelTimeout) ∧
    (∀ k, r.phase = .running → r.overTime = some k → k + 200 ≤ s.now →
      faults (.overload m) .overload .overload .overload) ∧
    (∀ k, r.phase = .running → (s.moverCfg m).kind = .windlass → r.stallSpan = some k →
      k + (s.moverCfg m).chain.stallTime ≤ s.now → faults (.stall m) .stall .stall .stall)

/-- The inputs of a moving mover: LOCK_OPEN takes UNLOCKING to RUNNING, both movers where the pin serves both (R100,
R101, R135), LOCK_CLOSED takes LOCKING to IDLE with the code of its stop reason (R106), the end switch of the present
direction abandons a request with AT_LIMIT and stops a RUNNING mover with AT_END (R98, R102). That LOCKING without a stop
reason, in a state no run reaches, ends with code NONE is the model's choice (notes/assumptions/15.md). -/
def Obligations.LockAndEndInputsAct : Prop :=
  ∀ (pin : PinId) (m : MoverId) (r : Mover) (s : State), s.working = true → s.mover m = some r →
    (s.fpr.pins[pin]).delivered = false →
    ((s.cfg.pins[pin]).fn = .lockOpen → (s.moverCfg m).lockOpen = some pin → r.phase = .unlocking →
      (s.mover (otherMover m) = none ∨ (s.moverCfg (otherMover m)).lockOpen ≠ some pin) →
      exec (.lockOpenChange pin true) s = .next ((s.deliverPin pin true).enterRunning m)) ∧
    ((s.cfg.pins[pin]).fn = .lockOpen → ∃ t, exec (.lockOpenChange pin true) s = .next t ∧
      ∀ (x : MoverId) (y : Mover), s.mover x = some y → t.mover x =
        if y.phase = .unlocking ∧ (s.moverCfg x).lockOpen = some pin then
          some { y with
            phase := .running
            stopReason := none
            reversal := none
            timer := if (s.moverCfg x).kind = .windlass then none else some (s.now + (s.moverCfg x).travel)
            overTime := none
            stallSpan := none }
        else some y) ∧
    ((s.cfg.pins[pin]).fn = .lockClosed → (s.moverCfg m).lockClosed = some pin → r.phase = .locking →
      ∃ t u, exec (.lockClosedChange pin true) s = .next t ∧ t.mover m = some u ∧ u.phase = .idle ∧
        t.claim m = .unclaimed ∧ t.demandOf (.mover m) = none ∧
        u.lastRefusal = match r.stopReason with | some x => x.endCode | none => .clear) ∧
    (∀ d, (s.cfg.pins[pin]).fn = .endA ∨ (s.cfg.pins[pin]).fn = .endB → (s.moverCfg m).kind ≠ .windlass →
      r.direction = some d → (match d with | .dirA => (s.moverCfg m).endA | .dirB => (s.moverCfg m).endB) = some pin →
      (r.phase = .running → ∃ t, exec (.endSwitchChange pin true) s = .next t ∧ t.mover m = some { r with
        phase := .stopping
        stopReason := some .atEnd
        reversal := none
        timer := some (s.now + (s.moverCfg m).stopDwell)
        overTime := none
        stallSpan := none }) ∧
      (r.phase = .requesting ∨ r.phase = .unlocking → ∃ t u, exec (.endSwitchChange pin true) s = .next t ∧
        t.mover m = some u ∧ u.phase = .idle ∧ u.lastRefusal = .atLimit ∧ t.claim m = .unclaimed))

/-- STOP_DWELL_END: a marked reversal that passes its fresh check runs in the new direction; the first failing condition
becomes the stop reason; otherwise the mover goes to LOCKING where its lock is fitted and END_B is active, and to IDLE
with the code of its stop reason elsewhere, AT_END leaving NONE and REVERSAL leaving RELEASED (R105, R106). -/
def Obligations.StopDwellEndsInRestOrReversal : Prop :=
  ∀ (m : MoverId) (r : Mover) (k : Nat) (s : State), s.mover m = some r → r.phase = .stopping →
    r.timer = some k → k ≤ s.now →
    let rests := fun (reason : StopReason) =>
      ((s.moverCfg m).lockFitted = true → s.input (s.moverCfg m).endB = true →
        s.input (s.moverCfg m).lockClosed = false → exec (.stopDwellEnd m) s = .next (s.onMover m fun x =>
          { x with
            phase := .locking
            stopReason := some reason
            reversal := none
            timer := some (s.now + 3000) })) ∧
      (((s.moverCfg m).lockFitted = false ∨ s.input (s.moverCfg m).endB = false ∨
          s.input (s.moverCfg m).lockClosed = true) →
        ∃ t u, exec (.stopDwellEnd m) s = .next t ∧ t.mover m = some u ∧ u.phase = .idle ∧ u.driver = none ∧
          t.claim m = .unclaimed ∧ t.demandOf (.mover m) = none ∧
          (reason = .atEnd → u.lastRefusal = .clear) ∧
          (reason = .reversal ∨ reason = .released → u.lastRefusal = .released) ∧
          (reason = .noSupply → u.lastRefusal = .noSupply) ∧ (reason = .lineUnfit → u.lastRefusal = .lineUnfit) ∧
          (reason = .occupied → u.lastRefusal = .occupied) ∧ (reason = .standby → u.lastRefusal = .standby) ∧
          (reason = .atLimit → u.lastRefusal = .atLimit))
    (∀ reason, r.reversal = none → r.stopReason = some reason → rests reason) ∧
    (∀ d, r.reversal = some d →
      (s.suc.standDown = true → rests .standby) ∧
      (s.suc.standDown = false → s.lineFit = false → rests .lineUnfit) ∧
      (s.suc.standDown = false → s.lineFit = true → s.standing m ≠ .cleared → rests .occupied) ∧
      (s.suc.standDown = false → s.lineFit = true → s.standing m = .cleared → s.granted m = false →
        rests .noSupply) ∧
      (s.suc.standDown = false → s.lineFit = true → s.standing m = .cleared → s.granted m = true →
        s.endReached m d = true → rests .atLimit) ∧
      (s.suc.standDown = false → s.lineFit = true → s.standing m = .cleared → s.granted m = true →
        s.endReached m d = false →
        exec (.stopDwellEnd m) s = .next ((s.onMover m fun x => { x with direction := some d }).enterRunning m)))

/-- POWER_FAULT_CHANGE: the pin's movers in motion enter FAULTED with PUMP_FAULT, the station's other mover in motion
with HALTED where this is the first HALT, and PUMP_FAULT is active; at the change back to inactive it stays while
another input is active or a mover is FAULTED with it (R107 to R109, R169). -/
def Obligations.PowerFaultHaltsTheMovers : Prop :=
  ∀ (pin : PinId) (s : State), s.working = true → (s.cfg.pins[pin]).fn = .powerFault →
    ((s.fpr.pins[pin]).delivered = false → s.haltActive = false →
      (∃ m, (s.mover m).isSome = true ∧ (s.moverCfg m).powerFault = some pin) →
      ∃ t, exec (.powerFaultChange pin true) s = .next t ∧ t.active .pumpFault = true ∧
        (∀ m r, s.mover m = some r → r.phase.inMotion = true → ∃ u, t.mover m = some u ∧ u.phase = .faulted ∧
          u.faultReason = some (if (s.moverCfg m).powerFault = some pin then .pumpFault else .halted) ∧
          t.claim m = .unclaimed ∧ t.demandOf (.mover m) = none) ∧
        ∀ m r, s.mover m = some r → r.phase.inMotion = false → t.mover m = some r) ∧
    ((s.fpr.pins[pin]).delivered = true →
      ∃ t, exec (.powerFaultChange pin false) s = .next t ∧ (t.fpr.pins[pin]).delivered = false ∧
        t.mvu = s.mvu ∧ t.active .pumpFault = (t.anyPowerFault || t.anyFaulted .pumpFault))

/-- GYPSY_PULSE on a pin that serves one windlass: each change to active counts one pulse by the phase and direction of
Table 6-3, +1 everywhere but in a haul-in that is RUNNING or STOPPING; a pulse below 0 leaves the count at 0 and one
above 4095 at 4095; the known flag is not changed; while HOME is active the count is held at 0; a change to inactive
is no pulse (R119, R120, R121).
A pulse that brings a known count to the maximum in pay-out stops the windlass with AT_END; a pulse restarts a
running stall span (R123, R125). -/
def Obligations.PulsesCountAndClamp : Prop :=
  (∀ (pin : PinId) (m : MoverId) (r : Mover) (s : State), s.working = true → (s.cfg.pins[pin]).fn = .gypsy →
    s.mover m = some r → (s.moverCfg m).kind = .windlass → (s.moverCfg m).gypsy = some pin →
    ((s.fpr.pins[pin]).delivered = false →
      (s.mover (otherMover m) = none ∨ (s.moverCfg (otherMover m)).gypsy ≠ some pin) →
      ∃ t u, exec (.gypsyPulse pin true) s = .next t ∧ t.mover m = some u ∧ u.known = r.known ∧
        (r.phase = .running → r.direction = some .dirB → u.phase = .running) ∧
        u.count =
          if s.input (s.moverCfg m).home = true then 0
          else if (r.phase = .running ∨ r.phase = .stopping) ∧ r.direction = some .dirB then r.count - 1
          else min 4095 (r.count + 1)) ∧
    ((s.fpr.pins[pin]).delivered = true → exec (.gypsyPulse pin false) s = .next (s.deliverPin pin false))) ∧
  ∀ (pin : PinId) (m : MoverId) (r : Mover) (s : State), s.working = true → (s.cfg.pins[pin]).fn = .gypsy →
    s.mover m = some r → (s.moverCfg m).kind = .windlass → (s.moverCfg m).gypsy = some pin →
    (s.fpr.pins[pin]).delivered = false →
    (s.mover (otherMover m) = none ∨ (s.moverCfg (otherMover m)).gypsy ≠ some pin) → r.phase = .running →
    s.input (s.moverCfg m).home = false → (s.moverCfg m).chain.maxCount ≤ 4095 →
    (r.direction = some .dirA → r.known = true → r.count + 1 = (s.moverCfg m).chain.maxCount →
      ∃ t, exec (.gypsyPulse pin true) s = .next t ∧ t.mover m = some { r with
        phase := .stopping
        stopReason := some .atEnd
        reversal := none
        timer := some (s.now + (s.moverCfg m).stopDwell)
        overTime := none
        stallSpan := none
        count := (s.moverCfg m).chain.maxCount }) ∧
    (r.direction = some .dirA → (r.known = false ∨ r.count + 1 < (s.moverCfg m).chain.maxCount) → r.count < 4095 →
      exec (.gypsyPulse pin true) s = .next ((s.deliverPin pin true).onMover m fun x =>
        { x with count := r.count + 1, stallSpan := r.stallSpan.map fun _ => s.now }))

/-- HOME_CHANGE on a pin that serves one windlass: HOME becoming active makes the count 0 and known in every phase, ends a
haul-in at its end, and reports COUNT_UNKNOWN as it then stands; becoming inactive it changes neither count nor flag
(R121 to R123).
What a panel reads of a windlass: its rode length floor(count × pitch / 100), known count or not, and its summary
AT_B_END at HOME, UNKNOWN with the count not known, BETWEEN otherwise (R128); of a HATCH or PLATFORM: its end switches,
and detail 0 (R113, R115). -/
def Obligations.HomeAndThePositionShown : Prop :=
  (∀ (pin : PinId) (m : MoverId) (r : Mover) (s : State), s.working = true → (s.cfg.pins[pin]).fn = .home →
    s.mover m = some r → (s.moverCfg m).kind = .windlass → (s.moverCfg m).home = some pin →
    ((s.fpr.pins[pin]).delivered = false →
      (s.mover (otherMover m) = none ∨ (s.moverCfg (otherMover m)).home ≠ some pin) →
      ∃ t u, exec (.homeChange pin true) s = .next t ∧ t.mover m = some u ∧ u.count = 0 ∧ u.known = true ∧
        t.active .countUnknown = t.anyCountUnknown ∧
        (r.phase = .running → r.direction = some .dirB → u.phase = .stopping ∧ u.stopReason = some .atEnd) ∧
        (r.phase = .requesting → r.direction = some .dirB → u.phase = .idle ∧ u.lastRefusal = .atLimit) ∧
        (r.direction ≠ some .dirB → u = { r with count := 0, known := true })) ∧
    ((s.fpr.pins[pin]).delivered = true → exec (.homeChange pin false) s = .next (s.deliverPin pin false))) ∧
  ∀ (m : MoverId) (r : Mover) (s : State), s.mover m = some r → r.phase ≠ .unfitted →
    ∃ x, s.moverStatus m = some x ∧ x.index = m ∧ x.kind = (s.moverCfg m).kind ∧ x.phase = r.phase ∧
      x.refusal = r.lastRefusal.code ∧
      ((s.moverCfg m).kind = .windlass →
        x.detail = r.count * (s.moverCfg m).chain.pitch / 100 ∧
        (r.count ≤ 4095 → (s.moverCfg m).chain.pitch ≤ 1000 → x.detail ≤ 40950) ∧
        x.summary = if s.input (s.moverCfg m).home = true then .atBEnd
          else if r.known = true then .between else .unknown) ∧
      ((s.moverCfg m).kind ≠ .windlass →
        x.detail = 0 ∧
        x.summary =
          match s.input (s.moverCfg m).endA, s.input (s.moverCfg m).endB with
          | true, true => .unknown
          | true, false => .atAEnd
          | false, true => .atBEnd
          | false, false => .between)

/-! ### Keys, stand-down, timers that only clear -/

/-- A press of a SET_LEVEL, TOGGLE, SCENE, CLEAR or FORGET key: in QUIET or RUN, with its pin bound and the entry not
held, the entry becomes held and one frame from the own number is composed; it is delivered to the own blocks where it
concerns them, and offered to the queue, which takes it or, full, raises TXQ_FULL (R139 to R142, R157).
The present level a TOGGLE reads is the own channel's Leff, the level in the target's record, LIVE, STALE or ORPHAN, or 0
for an ABSENT slot (R142). -/
def Obligations.KeysComposeTheirFrame : Prop :=
  (∀ (target : Nat) (c : ChannelId) (s : State),
    (s.suc.ownNumber = some target → s.presentLevel target c = (s.lcu.channels[c]).leff) ∧
    (∀ i : SlotId, s.suc.ownNumber ≠ some target → slotOf target = some i →
      (∀ x, s.ptu.peers[i] = some x → s.presentLevel target c = (x.ann.channels[c]).level) ∧
      (s.ptu.peers[i] = none → s.presentLevel target c = 0))) ∧
  ∀ (k : KeyId) (pin : PinId) (s : State), s.working = true → (s.cfg.keys[k]).pin = some pin →
    (s.ktu.keys[k]).held = false →
    let held := (s.onKey k fun x => { x with held := true }).deliverPin pin true
    let acked := held.onKey k fun x => { x with ackUntil := some (s.now + 1000) }
    let pressed := fun (c : Instr) (from' : State) (f : Frame) => ∃ t, exec c s = .next t ∧
      t = announceChange s ((from'.deliver f).offerFrame f) ∧
      (s.active .twin = false → s.liu.fifo.length < 4 → ∃ q,
        t.liu.fifo = s.liu.fifo ++ [q] ∧ q.frame = f ∧ q.queuedAt = s.now) ∧
      (4 ≤ s.liu.fifo.length → t.liu.fifo = s.liu.fifo) ∧
      (s.active .twin = false → 4 ≤ s.liu.fifo.length → t.active .txqFull = true)
    (∀ target c level, (s.cfg.keys[k]).action = .setLevel target c level →
      pressed (.keySetLevel k) held (.set s.number target c.val level)) ∧
    (∀ target c onLevel, (s.cfg.keys[k]).action = .toggle target c onLevel →
      pressed (.keyToggle k) held
        (.set s.number target c.val (if 0 < held.presentLevel target c then 0 else onLevel))) ∧
    (∀ n : Fin 32, (s.cfg.keys[k]).action = .scene n →
      pressed (.keyScene k) acked (.scene s.number n.val)) ∧
    (∀ target m, (s.cfg.keys[k]).action = .clear target m →
      pressed (.keyClear k) held (.drive s.number target m .clear)) ∧
    (∀ target, (s.cfg.keys[k]).action = .forget target →
      pressed (.keyForget k) acked (.forget s.number target))

/-- A HOLD_DRIVE key: at its press it drives, its next repeat falls 100 ms on, and every contending entry that was
driving is suppressed; at each repeat the same DRIVE is composed again; at the release of a driving entry a STOP is, at
that of a suppressed one nothing (R143, R144).
KEY_RELEASE of an entry of any other action: it is no longer held, and nothing is composed (R139, R141). -/
def Obligations.HoldKeysDriveRepeatAndStop : Prop :=
  (∀ (k : KeyId) (s : State), s.working = true → (s.ktu.keys[k]).held = true →
    (∀ target m d, (s.cfg.keys[k]).action ≠ .holdDrive target m d) →
    ∃ t, exec (.keyRelease k) s = .next t ∧ t = { s with ktu := t.ktu, fpr := t.fpr } ∧
      t.ktu.keys[k] = { s.ktu.keys[k] with held := false, standing := .idle, nextRepeat := none } ∧
      (∀ j : KeyId, j ≠ k → t.ktu.keys[j] = s.ktu.keys[j]) ∧
      ∀ p : PinId, ((s.cfg.keys[k]).pin = some p → (t.fpr.pins[p]).delivered = false) ∧
        ((s.cfg.keys[k]).pin ≠ some p → t.fpr.pins[p] = s.fpr.pins[p])) ∧
  ∀ (k : KeyId) (target : Nat) (m : MoverId) (d : Dir) (s : State),
    (s.cfg.keys[k]).action = .holdDrive target m d → s.working = true →
    (∀ pin, (s.cfg.keys[k]).pin = some pin → (s.ktu.keys[k]).held = false →
      ∃ t, exec (.keyHoldDrive k) s = .next t ∧
        (t.ktu.keys[k]).held = true ∧ (t.ktu.keys[k]).standing = .driving ∧
        (t.ktu.keys[k]).nextRepeat = some (s.now + 100) ∧
        (∀ j : KeyId, j ≠ k → contend (s.cfg.keys[k]).action (s.cfg.keys[j]).action = true →
          (s.ktu.keys[j]).standing = .driving →
          t.ktu.keys[j] = { s.ktu.keys[j] with standing := .suppressed, nextRepeat := none }) ∧
        (∀ j : KeyId, j ≠ k → (contend (s.cfg.keys[k]).action (s.cfg.keys[j]).action = false ∨
          (s.ktu.keys[j]).standing ≠ .driving) → t.ktu.keys[j] = s.ktu.keys[j]) ∧
        (s.active .twin = false → s.liu.fifo.length < 4 → ∃ q, t.liu.fifo = s.liu.fifo ++ [q] ∧
          q.frame = .drive s.number target m (motionFor d) ∧ q.queuedAt = s.now)) ∧
    (∀ n, (s.ktu.keys[k]).held = true → (s.ktu.keys[k]).standing = .driving →
      (s.ktu.keys[k]).nextRepeat = some n → n ≤ s.now →
      ∃ t, exec (.keyRepeat k) s = .next t ∧
        t.ktu.keys[k] = { s.ktu.keys[k] with nextRepeat := some (n + 100) } ∧
        (s.active .twin = false → s.liu.fifo.length < 4 → ∃ q, t.liu.fifo = s.liu.fifo ++ [q] ∧
          q.frame = .drive s.number target m (motionFor d) ∧ q.queuedAt = s.now)) ∧
    ((s.ktu.keys[k]).held = true → ∃ t, exec (.keyRelease k) s = .next t ∧
      t.ktu.keys[k] = { s.ktu.keys[k] with held := false, standing := .idle, nextRepeat := none } ∧
      ((s.ktu.keys[k]).standing = .driving → s.active .twin = false → s.liu.fifo.length < 4 →
        ∃ q, t.liu.fifo = s.liu.fifo ++ [q] ∧ q.frame = .drive s.number target m .stop ∧ q.queuedAt = s.now) ∧
      ((s.ktu.keys[k]).standing ≠ .driving → t.liu.fifo = s.liu.fifo ∧ t.mvu = s.mvu))

/-- STANDBY_ASSERT in RUN begins the stand-down: requests are abandoned and a RUNNING mover stops, both with STANDBY;
movers in STOPPING and LOCKING go on (R116, R175). STANDBY_DEASSERT ends it at that instant and replays nothing. -/
def Obligations.StandbyStopsAndReleases : Prop :=
  ∀ (pin : PinId) (s : State), s.cfg.standby = some pin → (s.cfg.pins[pin]).fn = .standby → s.running = true →
    ((s.fpr.pins[pin]).delivered = false → ∃ t, exec .standbyAssert s = .next t ∧ t.suc = { s.suc with
        standDown := true } ∧ t.lcu = s.lcu ∧ t.standDownState ≠ .normal ∧
      (∀ m r, s.mover m = some r → r.phase = .running → t.mover m = some { r with
        phase := .stopping
        stopReason := some .standby
        reversal := none
        timer := some (s.now + (s.moverCfg m).stopDwell)
        overTime := none
        stallSpan := none }) ∧
      (∀ m r, s.mover m = some r → r.phase = .unlocking ∨ r.phase = .requesting → ∃ u, t.mover m = some u ∧
        u.phase = .idle ∧ u.lastRefusal = .standby ∧ t.claim m = .unclaimed) ∧
      (∀ m r, s.mover m = some r → r.phase ≠ .running → r.phase ≠ .unlocking → r.phase ≠ .requesting →
        t.mover m = some r)) ∧
    ((s.fpr.pins[pin]).delivered = true → exec .standbyDeassert s = .next
      { s.deliverPin pin false with suc := { s.suc with standDown := false } })

/-- TRIP_MEMORY_EXPIRY, RELEASE_GUARD_EXPIRY, ACKNOWLEDGE_EXPIRY, HOLD_TIMER_EXPIRY and BEACON_BLINK change their own
field and nothing else at their instant (R58, R95, R114, R145, R164). That an expiry before its instant and a blink off
a half second change nothing is the model's choice for a command whose event cannot occur (notes/assumptions/3.md). -/
def Obligations.ExpiriesClearTheirOwnField : Prop :=
  ∀ (s : State) (n : Nat),
    (∀ c : ChannelId, (s.lcu.channels[c]).tripMemory = some n → exec (.tripMemoryExpiry c) s = .next
      (if n ≤ s.now then s.onChannel c fun x => { x with tripMemory := none } else s)) ∧
    (∀ (m : MoverId) (r : Mover) (src : Nat), s.mover m = some r → r.releaseGuard = some (src, n) →
      exec (.releaseGuardExpiry m) s = .next
        (if n ≤ s.now then s.onMover m fun x => { x with releaseGuard := none } else s)) ∧
    (∀ k : KeyId, (s.ktu.keys[k]).ackUntil = some n → exec (.acknowledgeExpiry k) s = .next
      (if n ≤ s.now then s.onKey k fun x => { x with ackUntil := none } else s)) ∧
    (∀ kind : FaultKind, isEvent kind = true → (s.fcl.flags[kind.idx]).hold = some n →
      exec (.holdTimerExpiry kind) s = .next
        (if n ≤ s.now then { s with fcl := { s.fcl with flags := s.fcl.flags.set kind.idx {} } } else s)) ∧
    (s.now % 1000 = 0 → exec .beaconBlink s = .next { s with fpr := { s.fpr with blinkLit := true } }) ∧
    (s.now % 1000 = 500 → exec .beaconBlink s = .next { s with fpr := { s.fpr with blinkLit := false } }) ∧
    (s.now % 500 ≠ 0 → exec .beaconBlink s = .next s)

/-! ### What the outside sees -/

/-- The outputs of a mover by phase (Table 5-5): one DRIVE output and only in RUNNING, POWER_ENABLE from UNLOCKING to
LOCKING, LOCK_RELEASE of a fitted lock in UNLOCKING, RUNNING and STOPPING alone, SLOW in a RUNNING haul-in of a windlass
whose count is not known or within the slow zone, BEACON steady in FAULTED and blinking in motion (R89, R114, R124).
The field pins by start-up phase: undriven in STRAP and LOAD; in CALIBRATE every output at its inactive level; in
LISTEN_ONLY FP31 high and every other pin undriven; in QUIET and RUN the ALERT, DRIVE_A, CHANNEL_OUT, KEY_INDICATOR and
DRAINED pins as their owners drive them, in the pin's polarity (R136, R137, R174).
The key indicators (R145, Table 7-6): by the level or the mover of the own station or of the target's record, off where
there is nothing to read, and lit from a press of a SCENE or FORGET key until its acknowledge time.
The stand-down state: DRAINED while stand-down holds, every mover is IDLE, FAULTED or UNFITTED and no fade is in progress
(R175, R176).
The channel status announced (R43, Table 3-2): NORMAL at Leff where it equals Lreq, SHED at Leff where it is below,
TRIPPED, and LOCKED_OUT for an UNFITTED channel too, at level 0. -/
def Obligations.OutputsFollowThePhases : Prop :=
  (∀ (m : MoverId) (r : Mover) (s : State), s.mover m = some r →
    let o := s.moverOutputs m
    (o.driveA = true ↔ r.phase = .running ∧ r.direction = some .dirA) ∧
    (o.driveB = true ↔ r.phase = .running ∧ r.direction = some .dirB) ∧
    (o.powerEnable = true ↔ r.phase = .unlocking ∨ r.phase = .running ∨ r.phase = .stopping ∨ r.phase = .locking) ∧
    (o.lockRelease = true ↔ (s.moverCfg m).lockFitted = true ∧
      (r.phase = .unlocking ∨ r.phase = .running ∨ r.phase = .stopping)) ∧
    (o.slow = true ↔ (s.moverCfg m).kind = .windlass ∧ r.phase = .running ∧ r.direction = some .dirB ∧
      (r.known = false ∨ r.count ≤ (s.moverCfg m).chain.slowCount)) ∧
    (o.beacon = true ↔ r.phase = .faulted ∨ (r.phase.inMotion = true ∧ s.fpr.blinkLit = true))) ∧
  (∀ (p : PinId) (s : State),
    let c := s.cfg.pins[p]
    (s.suc.phase = .strap ∨ s.suc.phase = .load → s.pinDrive p = .undriven) ∧
    (s.suc.phase = .calibrate → isOutput c.fn = true → s.pinDrive p = .level c.inverted) ∧
    (s.suc.phase = .listenOnly → s.pinDrive p = if p = 31 then .level true else .undriven) ∧
    (isOutput c.fn = false → s.suc.phase ≠ .listenOnly → s.pinDrive p = .undriven) ∧
    (s.working = true → c.fn = .alert → s.pinDrive p = .level (s.alert != c.inverted)) ∧
    (s.working = true → c.fn = .driveA → c.arg ≤ 1 → ∀ m : MoverId, m.val = c.arg →
      s.pinDrive p = .level ((s.moverOutputs m).driveA != c.inverted)) ∧
    (s.working = true → c.fn = .channelOut → ∀ ch : ChannelId, ch.val = c.arg →
      (s.cfg.channels[ch]).kind = .switched → s.pinDrive p =
        .level (decide ((s.lcu.channels[ch]).position = 256) != c.inverted)) ∧
    (s.working = true → c.fn = .channelOut → ∀ ch : ChannelId, ch.val = c.arg →
      (s.cfg.channels[ch]).kind = .dimmed → 0 < (s.lcu.channels[ch]).position →
      (s.lcu.channels[ch]).position < 256 → s.pinDrive p = .pulse (s.lcu.channels[ch]).position c.inverted) ∧
    (s.working = true → c.fn = .drained →
      s.pinDrive p = .level (decide (s.standDownState = .drained) != c.inverted)) ∧
    (s.working = true → c.fn = .keyIndicator → ∀ k : KeyId, k.val = c.arg →
      (s.indicator k = .on → s.pinDrive p = .level (!c.inverted)) ∧
      (s.indicator k = .off → s.pinDrive p = .level c.inverted) ∧
      (s.indicator k = .blinking → s.pinDrive p = .level (s.fpr.blinkLit != c.inverted)))) ∧
  (∀ (k : KeyId) (s : State),
    let action := (s.cfg.keys[k]).action
    let lit := fun (b : Bool) => s.indicator k = if b = true then .on else .off
    (action = .nothing → lit false) ∧
    (∀ target c level, action = .setLevel target c level ∨ action = .toggle target c level →
      (s.suc.ownNumber = some target → lit (decide (0 < (s.lcu.channels[c]).leff))) ∧
      (∀ i, s.suc.ownNumber ≠ some target → slotOf target = some i →
        (s.ptu.peers[i] = none → lit false) ∧
        (∀ x, s.ptu.peers[i] = some x → lit (decide (0 < (x.ann.channels[c]).level))))) ∧
    (∀ n, action = .scene n → lit (s.ktu.keys[k]).ackUntil.isSome) ∧
    (∀ target, action = .forget target → lit (s.ktu.keys[k]).ackUntil.isSome) ∧
    (∀ target m d, action = .holdDrive target m d →
      (ReadsNoMover s target m → lit false) ∧
      (∀ phase summary, ReadsMover s target m phase summary →
        s.indicator k =
          if phase = .faulted then .on
          else if phase = .requesting ∨ phase = .unlocking ∨ phase = .running ∨ phase = .stopping ∨ phase = .locking
          then .blinking
          else if phase = .idle ∧ summary = (match d with | .dirA => .atAEnd | .dirB => .atBEnd) then .on
          else .off)) ∧
    (∀ target m, action = .clear target m →
      (ReadsNoMover s target m → lit false) ∧
      (∀ phase summary, ReadsMover s target m phase summary → lit (decide (phase = .faulted))))) ∧
  (∀ s : State,
    (s.standDownState = .normal ↔ s.suc.standDown = false) ∧
    (s.standDownState = .drained ↔ s.suc.standDown = true ∧
      (∀ m r, s.mover m = some r → r.phase = .idle ∨ r.phase = .faulted ∨ r.phase = .unfitted) ∧
      ∀ c : ChannelId, (s.cfg.channels[c]).kind = .dimmed →
        (s.lcu.channels[c]).position = (s.lcu.channels[c]).leff)) ∧
  ∀ (c : ChannelId) (s : State), s.announceNow.channels[c] =
    match (s.lcu.channels[c]).mark with
    | .tripped => { level := 0, status := .tripped }
    | .lockedOut => { level := 0, status := .lockedOut }
    | .unfitted => { level := 0, status := .lockedOut }
    | .inService =>
      if (s.lcu.channels[c]).lreq = 0 then { level := 0, status := .normal }
      else if (s.lcu.channels[c]).leff = (s.lcu.channels[c]).lreq
      then { level := (s.lcu.channels[c]).leff, status := .normal }
      else { level := (s.lcu.channels[c]).leff, status := .shed }

/-- The fault summary and the alert outputs: ALERT while some kind is reported-active; the worst severity is the highest
among the reported-active kinds and the leading kind the one of it with the lowest code; PEER_ALERT while a LIVE or
STALE record shows DEGRADED or HALT, and never in LISTEN_ONLY (R165, R166, R168, R174).
What an ANNOUNCE composed now carries: the period, the own profile, the STARTING flag at the instant of entry into RUN,
STANDBY and DRAINED by the stand-down state, the ISLAND and LISTEN_ONLY flags, the island cap, the own demand in each
class, saturated (R17, R23, R39, R173 to R176); the own occupied zones and, in mover order, the own claims that are
INTENT LISTENING or HELD, with zones and key (R67, R82); the summary's severity and leading code, 0 where nothing is
reported, and the first-fault record (R166, R167); and one entry for each mover record in index order, with its kind,
phase, summary, rode length or 0, and last refusal code (R113, R128). Its channel entries are in
OutputsFollowThePhases. -/
def Obligations.SummaryShowsTheWorstFault : Prop :=
  (∀ s : State,
    let a := s.announceNow
    a.period = s.cfg.period ∧ a.profile = s.sbu.profile ∧
    (a.starting = true ↔ s.suc.phase = .run ∧ s.suc.runEntry = some s.now) ∧
    (a.standby = true ↔ s.suc.standDown = true) ∧
    (a.drained = true ↔ s.suc.standDown = true ∧
      (∀ m r, s.mover m = some r → r.phase = .idle ∨ r.phase = .faulted ∨ r.phase = .unfitted) ∧
      ∀ c : ChannelId, (s.cfg.channels[c]).kind = .dimmed →
        (s.lcu.channels[c]).position = (s.lcu.channels[c]).leff) ∧
    (a.island = true ↔ s.sbu.island ≠ none) ∧ (a.listenOnly = true ↔ s.suc.phase = .listenOnly) ∧
    a.islandCap = s.cfg.islandCap ∧
    (∀ k : Fin 8, a.demand[k] = min 4095 ((s.sbu.demands.filter fun d => d.cls = k).map fun d => d.want).sum) ∧
    (∀ z : Fin 16, a.occupied.getLsbD z.val = true ↔
      s.working = true ∧ ∃ pin : PinId, s.cfg.occupancy[z] = some pin ∧ (s.fpr.pins[pin]).delivered = true) ∧
    (∀ c : ClaimStatus, c ∈ a.claims ↔ ∃ m : MoverId,
      c = { zones := s.zonesOf m, held := decide (s.claim m = .held), key := s.number * 2 + m.val } ∧
        (s.claim m = .held ∨ ∃ start, s.claim m = .listening start)) ∧
    a.claims.Pairwise (fun c d => c.key < d.key) ∧
    a.severity = worstSeverity s ∧
    (∀ k : FaultKind, leadingKind s = some k → a.leadKind = k.code) ∧ (leadingKind s = none → a.leadKind = 0) ∧
    (∀ k n, s.fcl.firstFault = some (k, n) → a.firstKind = k.code ∧ a.firstTick = n) ∧
    (s.fcl.firstFault = none → a.firstKind = 0 ∧ a.firstTick = 0) ∧
    (∀ x : MoverStatus, x ∈ a.movers ↔ ∃ r, s.mover x.index = some r ∧ x.kind = (s.moverCfg x.index).kind ∧
      x.phase = r.phase ∧ x.summary = s.summary x.index ∧ x.refusal = r.lastRefusal.code ∧
      x.detail = if (s.moverCfg x.index).kind = .windlass
        then r.count * (s.moverCfg x.index).chain.pitch / 100 else 0) ∧
    a.movers.Pairwise fun x y => x.index < y.index) ∧
  ∀ s : State,
    (s.alert = true ↔ ∃ k : FaultKind, s.active k = true ∧
      (kindSeverity k = .halt ∨ (kindSeverity k = .degraded ∧ s.cfg.reportDegraded = true) ∨
        (kindSeverity k = .notice ∧ s.cfg.reportNotice = true))) ∧
    (∀ k : FaultKind, s.reportedActive k = true → (kindSeverity k).code ≤ (worstSeverity s).code) ∧
    (s.alert = false → worstSeverity s = .clear ∧ leadingKind s = none) ∧
    (s.alert = true → ∃ k : FaultKind, leadingKind s = some k ∧ s.reportedActive k = true ∧
      kindSeverity k = worstSeverity s ∧
      ∀ j : FaultKind, s.reportedActive j = true → kindSeverity j = worstSeverity s → k.code ≤ j.code) ∧
    (s.peerAlert = true ↔ s.suc.phase ≠ .listenOnly ∧ ∃ (i : SlotId) (r : PeerRec), s.ptu.peers[i] = some r ∧
      (r.status = .live ∨ r.status = .stale) ∧ (r.ann.severity = .degraded ∨ r.ann.severity = .halt))

/-- What stands until the next reset: TWIN once raised, the first-fault record once filled, a channel LOCKED_OUT or
UNFITTED, LISTEN_ONLY once entered (R14, R42, R57, R167, R174). -/
def Obligations.SomeThingsStandUntilReset : Prop :=
  ∀ (s t : State) (c : Instr), exec c s = .next t → c ≠ .powerOn → c ≠ .pinReset →
    (s.active .twin = true → t.active .twin = true) ∧
    (∀ r, s.fcl.firstFault = some r → t.fcl.firstFault = some r) ∧
    (s.suc.phase = .listenOnly → t.suc.phase = .listenOnly) ∧
    (∀ ch : ChannelId, s.suc.phase ≠ .calibrate → (s.lcu.channels[ch]).mark = .lockedOut →
      (s.lcu.channels[ch]).position = 0 → (t.lcu.channels[ch]).mark = .lockedOut) ∧
    (∀ ch : ChannelId, (s.lcu.channels[ch]).mark = .unfitted → (s.lcu.channels[ch]).position = 0 →
      (t.lcu.channels[ch]).mark = .unfitted)

/-! ### Intents that give way -/

/-- A listening intent gives way at the filing of a conflicting claim that is HELD or an INTENT whose key is not higher: it
waits, leaves the announced claims with an extra ANNOUNCE, and its mover stays in REQUESTING (R70, R73, R82). One that
meets no such claim listens on.
A waiting intent resumes at the instant nothing stands in its way, whatever brought the view there: an ANNOUNCE that no
longer carries the claim, a FORGET of its slot, or the release of the own other claim; it listens afresh from that
instant and is announced. Where the ANNOUNCE filed brings another such claim it waits on (R74, R79, R84). -/
def Obligations.IntentsGiveWayAndResume : Prop :=
  ∀ (m : MoverId) (r : Mover) (s : State), s.mover m = some r → r.phase = .requesting → 0 < s.cfg.listenWindow →
    let against := fun (c : ClaimStatus) =>
      zonesMeet (s.zonesOf m) c.zones = true ∧ (c.held = true ∨ c.key ≤ s.claimKey m)
    let free := fun (i : SlotId) => ∀ j x, j ≠ i → s.ptu.peers[(j : SlotId)] = some x → ∀ c ∈ x.ann.claims, ¬against c
    let resumes := fun (c : Instr) => ∃ t, exec c s = .next t ∧ t.claim m = .listening s.now ∧ t.mover m = some r ∧
      (s.mayTransmit = true → AnnouncesNow t)
    (∀ (p : PortId) (frame : List Byte) (src : Nat) (a : Announce) (i : SlotId),
      GoodFrame s p frame (.announce src a) → s.suc.ownNumber ≠ some src → slotOf src = some i → Calm s p →
      (∀ start, s.claim m = .listening start → (∃ c ∈ a.claims, against c) →
        ∃ t, exec (.announceReceived p frame) s = .next t ∧ t.claim m = .waiting ∧ t.mover m = some r ∧
          (∀ c ∈ t.announcedClaims, c.key ≠ s.claimKey m) ∧ (s.mayTransmit = true → AnnouncesNow t)) ∧
      (∀ start, s.claim m = .listening start → s.now < start + s.cfg.listenWindow →
        s.claim (otherMover m) = .unclaimed → (∀ c ∈ a.claims, ¬against c) → free i →
        ∃ t, exec (.announceReceived p frame) s = .next t ∧ t.claim m = .listening start ∧ t.mover m = some r) ∧
      (s.claim m = .waiting → (∃ c ∈ a.claims, against c) →
        ∃ t, exec (.announceReceived p frame) s = .next t ∧ t.claim m = .waiting ∧ t.mover m = some r) ∧
      (s.claim m = .waiting → s.claim (otherMover m) = .unclaimed → (∀ c ∈ a.claims, ¬against c) → free i →
        resumes (.announceReceived p frame))) ∧
    (∀ (p : PortId) (frame : List Byte) (src target : Nat) (i : SlotId),
      GoodFrame s p frame (.forget src target) → src ∈ s.cfg.officers → s.suc.ownNumber ≠ some target →
      slotOf target = some i → s.ptu.peers[i] ≠ none → Calm s p → s.claim m = .waiting →
      s.claim (otherMover m) = .unclaimed → free i → resumes (.forget p frame)) ∧
    (∀ x, s.mover (otherMover m) = some x → x.phase = .requesting → s.limitDue (otherMover m) = true →
      s.claim m = .waiting → (∀ i : SlotId, free i) → resumes (.requestTimeLimit (otherMover m)))
end

