-- ==== Sys2Proof/Laws/State.lean ====
section
/-! SUPPORT. What each named update leaves of each field of the state, one lemma per field per update, and what it
makes of the entry it changes. -/

namespace Sys2Proof.Machine

open Sys2Proof

/-! ### Entries of a vector -/

@[simp] theorem modifyAt_same {α : Type} {n : Nat} (v : Vector α n) (i : Fin n) (f : α → α) :
    (modifyAt v i f)[(i : Nat)] = f v[(i : Nat)] := by
  simp [modifyAt]

theorem modifyAt_get {α : Type} {n : Nat} (v : Vector α n) (i j : Fin n) (f : α → α) :
    (modifyAt v i f)[(j : Nat)] = if j = i then f v[(i : Nat)] else v[(j : Nat)] := by
  by_cases h : j = i
  · subst h; simp
  · have h' : (i : Nat) ≠ (j : Nat) := fun e => h (Fin.ext e.symm)
    simp [modifyAt, h', h]

@[simp] theorem modifyAt_other {α : Type} {n : Nat} (v : Vector α n) (i j : Fin n) (f : α → α) (h : j ≠ i) :
    (modifyAt v i f)[(j : Nat)] = v[(j : Nat)] := by
  simp [modifyAt_get, h]

theorem set_get {α : Type} {n : Nat} (v : Vector α n) (i j : Fin n) (x : α) :
    (v.set i x)[(j : Nat)] = if j = i then x else v[(j : Nat)] := by
  by_cases h : j = i
  · subst h; simp
  · have h' : (i : Nat) ≠ (j : Nat) := fun e => h (Fin.ext e.symm)
    simp [h', h]

/-! ### Updates -/

@[simp] theorem State.onPort_now (s : State) (p : PortId) (f : Port → Port) : (s.onPort p f).now = s.now := rfl
@[simp] theorem State.onPort_suc (s : State) (p : PortId) (f : Port → Port) : (s.onPort p f).suc = s.suc := rfl
@[simp] theorem State.onPort_cfg (s : State) (p : PortId) (f : Port → Port) : (s.onPort p f).cfg = s.cfg := rfl
@[simp] theorem State.onPort_ptu (s : State) (p : PortId) (f : Port → Port) : (s.onPort p f).ptu = s.ptu := rfl
@[simp] theorem State.onPort_sbu (s : State) (p : PortId) (f : Port → Port) : (s.onPort p f).sbu = s.sbu := rfl
@[simp] theorem State.onPort_lcu (s : State) (p : PortId) (f : Port → Port) : (s.onPort p f).lcu = s.lcu := rfl
@[simp] theorem State.onPort_zcu (s : State) (p : PortId) (f : Port → Port) : (s.onPort p f).zcu = s.zcu := rfl
@[simp] theorem State.onPort_mvu (s : State) (p : PortId) (f : Port → Port) : (s.onPort p f).mvu = s.mvu := rfl
@[simp] theorem State.onPort_fpr (s : State) (p : PortId) (f : Port → Port) : (s.onPort p f).fpr = s.fpr := rfl
@[simp] theorem State.onPort_ktu (s : State) (p : PortId) (f : Port → Port) : (s.onPort p f).ktu = s.ktu := rfl
@[simp] theorem State.onPort_csa (s : State) (p : PortId) (f : Port → Port) : (s.onPort p f).csa = s.csa := rfl
@[simp] theorem State.onPort_fcl (s : State) (p : PortId) (f : Port → Port) : (s.onPort p f).fcl = s.fcl := rfl
@[simp] theorem State.onPort_pending (s : State) (p : PortId) (f : Port → Port) : (s.onPort p f).pending = s.pending := rfl
@[simp] theorem State.onPort_ports (s : State) (p : PortId) (f : Port → Port) :
    (s.onPort p f).liu.ports = modifyAt s.liu.ports p f := rfl
@[simp] theorem State.onPort_slot (s : State) (p : PortId) (f : Port → Port) : (s.onPort p f).liu.slot = s.liu.slot := rfl
@[simp] theorem State.onPort_fifo (s : State) (p : PortId) (f : Port → Port) : (s.onPort p f).liu.fifo = s.liu.fifo := rfl
@[simp] theorem State.onPort_serial (s : State) (p : PortId) (f : Port → Port) : (s.onPort p f).liu.serial = s.liu.serial := rfl

@[simp] theorem State.onChannel_now (s : State) (c : ChannelId) (f : Channel → Channel) : (s.onChannel c f).now = s.now := rfl
@[simp] theorem State.onChannel_suc (s : State) (c : ChannelId) (f : Channel → Channel) : (s.onChannel c f).suc = s.suc := rfl
@[simp] theorem State.onChannel_cfg (s : State) (c : ChannelId) (f : Channel → Channel) : (s.onChannel c f).cfg = s.cfg := rfl
@[simp] theorem State.onChannel_liu (s : State) (c : ChannelId) (f : Channel → Channel) : (s.onChannel c f).liu = s.liu := rfl
@[simp] theorem State.onChannel_ptu (s : State) (c : ChannelId) (f : Channel → Channel) : (s.onChannel c f).ptu = s.ptu := rfl
@[simp] theorem State.onChannel_sbu (s : State) (c : ChannelId) (f : Channel → Channel) : (s.onChannel c f).sbu = s.sbu := rfl
@[simp] theorem State.onChannel_zcu (s : State) (c : ChannelId) (f : Channel → Channel) : (s.onChannel c f).zcu = s.zcu := rfl
@[simp] theorem State.onChannel_mvu (s : State) (c : ChannelId) (f : Channel → Channel) : (s.onChannel c f).mvu = s.mvu := rfl
@[simp] theorem State.onChannel_fpr (s : State) (c : ChannelId) (f : Channel → Channel) : (s.onChannel c f).fpr = s.fpr := rfl
@[simp] theorem State.onChannel_ktu (s : State) (c : ChannelId) (f : Channel → Channel) : (s.onChannel c f).ktu = s.ktu := rfl
@[simp] theorem State.onChannel_csa (s : State) (c : ChannelId) (f : Channel → Channel) : (s.onChannel c f).csa = s.csa := rfl
@[simp] theorem State.onChannel_fcl (s : State) (c : ChannelId) (f : Channel → Channel) : (s.onChannel c f).fcl = s.fcl := rfl
@[simp] theorem State.onChannel_pending (s : State) (c : ChannelId) (f : Channel → Channel) : (s.onChannel c f).pending = s.pending := rfl
@[simp] theorem State.onChannel_channels (s : State) (c : ChannelId) (f : Channel → Channel) :
    (s.onChannel c f).lcu.channels = modifyAt s.lcu.channels c f := rfl

@[simp] theorem State.onMover_now (s : State) (m : MoverId) (f : Mover → Mover) : (s.onMover m f).now = s.now := rfl
@[simp] theorem State.onMover_suc (s : State) (m : MoverId) (f : Mover → Mover) : (s.onMover m f).suc = s.suc := rfl
@[simp] theorem State.onMover_cfg (s : State) (m : MoverId) (f : Mover → Mover) : (s.onMover m f).cfg = s.cfg := rfl
@[simp] theorem State.onMover_liu (s : State) (m : MoverId) (f : Mover → Mover) : (s.onMover m f).liu = s.liu := rfl
@[simp] theorem State.onMover_ptu (s : State) (m : MoverId) (f : Mover → Mover) : (s.onMover m f).ptu = s.ptu := rfl
@[simp] theorem State.onMover_sbu (s : State) (m : MoverId) (f : Mover → Mover) : (s.onMover m f).sbu = s.sbu := rfl
@[simp] theorem State.onMover_lcu (s : State) (m : MoverId) (f : Mover → Mover) : (s.onMover m f).lcu = s.lcu := rfl
@[simp] theorem State.onMover_zcu (s : State) (m : MoverId) (f : Mover → Mover) : (s.onMover m f).zcu = s.zcu := rfl
@[simp] theorem State.onMover_fpr (s : State) (m : MoverId) (f : Mover → Mover) : (s.onMover m f).fpr = s.fpr := rfl
@[simp] theorem State.onMover_ktu (s : State) (m : MoverId) (f : Mover → Mover) : (s.onMover m f).ktu = s.ktu := rfl
@[simp] theorem State.onMover_csa (s : State) (m : MoverId) (f : Mover → Mover) : (s.onMover m f).csa = s.csa := rfl
@[simp] theorem State.onMover_fcl (s : State) (m : MoverId) (f : Mover → Mover) : (s.onMover m f).fcl = s.fcl := rfl
@[simp] theorem State.onMover_pending (s : State) (m : MoverId) (f : Mover → Mover) : (s.onMover m f).pending = s.pending := rfl
@[simp] theorem State.onMover_movers (s : State) (m : MoverId) (f : Mover → Mover) :
    (s.onMover m f).mvu.movers = modifyAt s.mvu.movers m (Option.map f) := rfl
@[simp] theorem State.onMover_retained (s : State) (m : MoverId) (f : Mover → Mover) : (s.onMover m f).mvu.retained = s.mvu.retained := rfl

@[simp] theorem State.setClaim_now (s : State) (m : MoverId) (c : Claim) : (s.setClaim m c).now = s.now := rfl
@[simp] theorem State.setClaim_suc (s : State) (m : MoverId) (c : Claim) : (s.setClaim m c).suc = s.suc := rfl
@[simp] theorem State.setClaim_cfg (s : State) (m : MoverId) (c : Claim) : (s.setClaim m c).cfg = s.cfg := rfl
@[simp] theorem State.setClaim_liu (s : State) (m : MoverId) (c : Claim) : (s.setClaim m c).liu = s.liu := rfl
@[simp] theorem State.setClaim_ptu (s : State) (m : MoverId) (c : Claim) : (s.setClaim m c).ptu = s.ptu := rfl
@[simp] theorem State.setClaim_sbu (s : State) (m : MoverId) (c : Claim) : (s.setClaim m c).sbu = s.sbu := rfl
@[simp] theorem State.setClaim_lcu (s : State) (m : MoverId) (c : Claim) : (s.setClaim m c).lcu = s.lcu := rfl
@[simp] theorem State.setClaim_mvu (s : State) (m : MoverId) (c : Claim) : (s.setClaim m c).mvu = s.mvu := rfl
@[simp] theorem State.setClaim_fpr (s : State) (m : MoverId) (c : Claim) : (s.setClaim m c).fpr = s.fpr := rfl
@[simp] theorem State.setClaim_ktu (s : State) (m : MoverId) (c : Claim) : (s.setClaim m c).ktu = s.ktu := rfl
@[simp] theorem State.setClaim_csa (s : State) (m : MoverId) (c : Claim) : (s.setClaim m c).csa = s.csa := rfl
@[simp] theorem State.setClaim_fcl (s : State) (m : MoverId) (c : Claim) : (s.setClaim m c).fcl = s.fcl := rfl
@[simp] theorem State.setClaim_pending (s : State) (m : MoverId) (c : Claim) : (s.setClaim m c).pending = s.pending := rfl
@[simp] theorem State.setClaim_claims (s : State) (m : MoverId) (c : Claim) : (s.setClaim m c).zcu.claims = s.zcu.claims.set m c := rfl

@[simp] theorem State.setPeer_now (s : State) (i : SlotId) (r : Option PeerRec) : (s.setPeer i r).now = s.now := rfl
@[simp] theorem State.setPeer_suc (s : State) (i : SlotId) (r : Option PeerRec) : (s.setPeer i r).suc = s.suc := rfl
@[simp] theorem State.setPeer_cfg (s : State) (i : SlotId) (r : Option PeerRec) : (s.setPeer i r).cfg = s.cfg := rfl
@[simp] theorem State.setPeer_liu (s : State) (i : SlotId) (r : Option PeerRec) : (s.setPeer i r).liu = s.liu := rfl
@[simp] theorem State.setPeer_sbu (s : State) (i : SlotId) (r : Option PeerRec) : (s.setPeer i r).sbu = s.sbu := rfl
@[simp] theorem State.setPeer_lcu (s : State) (i : SlotId) (r : Option PeerRec) : (s.setPeer i r).lcu = s.lcu := rfl
@[simp] theorem State.setPeer_zcu (s : State) (i : SlotId) (r : Option PeerRec) : (s.setPeer i r).zcu = s.zcu := rfl
@[simp] theorem State.setPeer_mvu (s : State) (i : SlotId) (r : Option PeerRec) : (s.setPeer i r).mvu = s.mvu := rfl
@[simp] theorem State.setPeer_fpr (s : State) (i : SlotId) (r : Option PeerRec) : (s.setPeer i r).fpr = s.fpr := rfl
@[simp] theorem State.setPeer_ktu (s : State) (i : SlotId) (r : Option PeerRec) : (s.setPeer i r).ktu = s.ktu := rfl
@[simp] theorem State.setPeer_csa (s : State) (i : SlotId) (r : Option PeerRec) : (s.setPeer i r).csa = s.csa := rfl
@[simp] theorem State.setPeer_fcl (s : State) (i : SlotId) (r : Option PeerRec) : (s.setPeer i r).fcl = s.fcl := rfl
@[simp] theorem State.setPeer_pending (s : State) (i : SlotId) (r : Option PeerRec) : (s.setPeer i r).pending = s.pending := rfl
@[simp] theorem State.setPeer_peers (s : State) (i : SlotId) (r : Option PeerRec) : (s.setPeer i r).ptu.peers = s.ptu.peers.set i r := rfl

@[simp] theorem State.onPin_now (s : State) (p : PinId) (f : Pin → Pin) : (s.onPin p f).now = s.now := rfl
@[simp] theorem State.onPin_suc (s : State) (p : PinId) (f : Pin → Pin) : (s.onPin p f).suc = s.suc := rfl
@[simp] theorem State.onPin_cfg (s : State) (p : PinId) (f : Pin → Pin) : (s.onPin p f).cfg = s.cfg := rfl
@[simp] theorem State.onPin_liu (s : State) (p : PinId) (f : Pin → Pin) : (s.onPin p f).liu = s.liu := rfl
@[simp] theorem State.onPin_ptu (s : State) (p : PinId) (f : Pin → Pin) : (s.onPin p f).ptu = s.ptu := rfl
@[simp] theorem State.onPin_sbu (s : State) (p : PinId) (f : Pin → Pin) : (s.onPin p f).sbu = s.sbu := rfl
@[simp] theorem State.onPin_lcu (s : State) (p : PinId) (f : Pin → Pin) : (s.onPin p f).lcu = s.lcu := rfl
@[simp] theorem State.onPin_zcu (s : State) (p : PinId) (f : Pin → Pin) : (s.onPin p f).zcu = s.zcu := rfl
@[simp] theorem State.onPin_mvu (s : State) (p : PinId) (f : Pin → Pin) : (s.onPin p f).mvu = s.mvu := rfl
@[simp] theorem State.onPin_ktu (s : State) (p : PinId) (f : Pin → Pin) : (s.onPin p f).ktu = s.ktu := rfl
@[simp] theorem State.onPin_csa (s : State) (p : PinId) (f : Pin → Pin) : (s.onPin p f).csa = s.csa := rfl
@[simp] theorem State.onPin_fcl (s : State) (p : PinId) (f : Pin → Pin) : (s.onPin p f).fcl = s.fcl := rfl
@[simp] theorem State.onPin_pending (s : State) (p : PinId) (f : Pin → Pin) : (s.onPin p f).pending = s.pending := rfl
@[simp] theorem State.onPin_pins (s : State) (p : PinId) (f : Pin → Pin) : (s.onPin p f).fpr.pins = modifyAt s.fpr.pins p f := rfl
@[simp] theorem State.onPin_blinkLit (s : State) (p : PinId) (f : Pin → Pin) : (s.onPin p f).fpr.blinkLit = s.fpr.blinkLit := rfl

@[simp] theorem State.onKey_now (s : State) (k : KeyId) (f : Key → Key) : (s.onKey k f).now = s.now := rfl
@[simp] theorem State.onKey_suc (s : State) (k : KeyId) (f : Key → Key) : (s.onKey k f).suc = s.suc := rfl
@[simp] theorem State.onKey_cfg (s : State) (k : KeyId) (f : Key → Key) : (s.onKey k f).cfg = s.cfg := rfl
@[simp] theorem State.onKey_liu (s : State) (k : KeyId) (f : Key → Key) : (s.onKey k f).liu = s.liu := rfl
@[simp] theorem State.onKey_ptu (s : State) (k : KeyId) (f : Key → Key) : (s.onKey k f).ptu = s.ptu := rfl
@[simp] theorem State.onKey_sbu (s : State) (k : KeyId) (f : Key → Key) : (s.onKey k f).sbu = s.sbu := rfl
@[simp] theorem State.onKey_lcu (s : State) (k : KeyId) (f : Key → Key) : (s.onKey k f).lcu = s.lcu := rfl
@[simp] theorem State.onKey_zcu (s : State) (k : KeyId) (f : Key → Key) : (s.onKey k f).zcu = s.zcu := rfl
@[simp] theorem State.onKey_mvu (s : State) (k : KeyId) (f : Key → Key) : (s.onKey k f).mvu = s.mvu := rfl
@[simp] theorem State.onKey_fpr (s : State) (k : KeyId) (f : Key → Key) : (s.onKey k f).fpr = s.fpr := rfl
@[simp] theorem State.onKey_csa (s : State) (k : KeyId) (f : Key → Key) : (s.onKey k f).csa = s.csa := rfl
@[simp] theorem State.onKey_fcl (s : State) (k : KeyId) (f : Key → Key) : (s.onKey k f).fcl = s.fcl := rfl
@[simp] theorem State.onKey_pending (s : State) (k : KeyId) (f : Key → Key) : (s.onKey k f).pending = s.pending := rfl
@[simp] theorem State.onKey_keys (s : State) (k : KeyId) (f : Key → Key) : (s.onKey k f).ktu.keys = modifyAt s.ktu.keys k f := rfl

@[simp] theorem State.onSense_now (s : State) (cs : SenseId) (f : Sense → Sense) : (s.onSense cs f).now = s.now := rfl
@[simp] theorem State.onSense_suc (s : State) (cs : SenseId) (f : Sense → Sense) : (s.onSense cs f).suc = s.suc := rfl
@[simp] theorem State.onSense_cfg (s : State) (cs : SenseId) (f : Sense → Sense) : (s.onSense cs f).cfg = s.cfg := rfl
@[simp] theorem State.onSense_liu (s : State) (cs : SenseId) (f : Sense → Sense) : (s.onSense cs f).liu = s.liu := rfl
@[simp] theorem State.onSense_ptu (s : State) (cs : SenseId) (f : Sense → Sense) : (s.onSense cs f).ptu = s.ptu := rfl
@[simp] theorem State.onSense_sbu (s : State) (cs : SenseId) (f : Sense → Sense) : (s.onSense cs f).sbu = s.sbu := rfl
@[simp] theorem State.onSense_lcu (s : State) (cs : SenseId) (f : Sense → Sense) : (s.onSense cs f).lcu = s.lcu := rfl
@[simp] theorem State.onSense_zcu (s : State) (cs : SenseId) (f : Sense → Sense) : (s.onSense cs f).zcu = s.zcu := rfl
@[simp] theorem State.onSense_mvu (s : State) (cs : SenseId) (f : Sense → Sense) : (s.onSense cs f).mvu = s.mvu := rfl
@[simp] theorem State.onSense_fpr (s : State) (cs : SenseId) (f : Sense → Sense) : (s.onSense cs f).fpr = s.fpr := rfl
@[simp] theorem State.onSense_ktu (s : State) (cs : SenseId) (f : Sense → Sense) : (s.onSense cs f).ktu = s.ktu := rfl
@[simp] theorem State.onSense_fcl (s : State) (cs : SenseId) (f : Sense → Sense) : (s.onSense cs f).fcl = s.fcl := rfl
@[simp] theorem State.onSense_pending (s : State) (cs : SenseId) (f : Sense → Sense) : (s.onSense cs f).pending = s.pending := rfl
@[simp] theorem State.onSense_inputs (s : State) (cs : SenseId) (f : Sense → Sense) :
    (s.onSense cs f).csa.inputs = modifyAt s.csa.inputs cs f := rfl

@[simp] theorem State.setDemands_now (s : State) (l : List Demand) : (s.setDemands l).now = s.now := rfl
@[simp] theorem State.setDemands_suc (s : State) (l : List Demand) : (s.setDemands l).suc = s.suc := rfl
@[simp] theorem State.setDemands_cfg (s : State) (l : List Demand) : (s.setDemands l).cfg = s.cfg := rfl
@[simp] theorem State.setDemands_liu (s : State) (l : List Demand) : (s.setDemands l).liu = s.liu := rfl
@[simp] theorem State.setDemands_ptu (s : State) (l : List Demand) : (s.setDemands l).ptu = s.ptu := rfl
@[simp] theorem State.setDemands_lcu (s : State) (l : List Demand) : (s.setDemands l).lcu = s.lcu := rfl
@[simp] theorem State.setDemands_zcu (s : State) (l : List Demand) : (s.setDemands l).zcu = s.zcu := rfl
@[simp] theorem State.setDemands_mvu (s : State) (l : List Demand) : (s.setDemands l).mvu = s.mvu := rfl
@[simp] theorem State.setDemands_fpr (s : State) (l : List Demand) : (s.setDemands l).fpr = s.fpr := rfl
@[simp] theorem State.setDemands_ktu (s : State) (l : List Demand) : (s.setDemands l).ktu = s.ktu := rfl
@[simp] theorem State.setDemands_csa (s : State) (l : List Demand) : (s.setDemands l).csa = s.csa := rfl
@[simp] theorem State.setDemands_fcl (s : State) (l : List Demand) : (s.setDemands l).fcl = s.fcl := rfl
@[simp] theorem State.setDemands_pending (s : State) (l : List Demand) : (s.setDemands l).pending = s.pending := rfl
@[simp] theorem State.setDemands_demands (s : State) (l : List Demand) : (s.setDemands l).sbu.demands = l := rfl
@[simp] theorem State.setDemands_offers (s : State) (l : List Demand) : (s.setDemands l).sbu.offers = s.sbu.offers := rfl
@[simp] theorem State.setDemands_island (s : State) (l : List Demand) : (s.setDemands l).sbu.island = s.sbu.island := rfl
@[simp] theorem State.setDemands_grants (s : State) (l : List Demand) : (s.setDemands l).sbu.grants = s.sbu.grants := rfl

end Sys2Proof.Machine
end

