-- ==== Sys2Proof/Laws/Frames.lean ====
section
/-! SUPPORT. What each shared operation leaves alone: for every operation and every block of the state it does not
change, one lemma that the block is unchanged. -/

set_option linter.unusedTactic false
set_option linter.unnecessarySeqFocus false
set_option linter.unreachableTactic false

namespace Sys2Proof.Machine

open Sys2Proof

/-- A fold whose steps keep a view of the state keeps it. -/
theorem foldl_keeps {α β : Type} (view : State → β) (f : State → α → State)
    (h : ∀ s a, view (f s a) = view s) : ∀ (l : List α) (s : State), view (l.foldl f s) = view s
  | [], _ => rfl
  | a :: l, s => by rw [List.foldl_cons, foldl_keeps view f h l, h]

/-! ### The Fault Collector -/

@[simp] theorem State.activate_now (s : State) (k : FaultKind) (hold : Option Nat) :
    (s.activate k hold).now = s.now := by
  rfl
@[simp] theorem State.activate_suc (s : State) (k : FaultKind) (hold : Option Nat) :
    (s.activate k hold).suc = s.suc := by
  rfl
@[simp] theorem State.activate_cfg (s : State) (k : FaultKind) (hold : Option Nat) :
    (s.activate k hold).cfg = s.cfg := by
  rfl
@[simp] theorem State.activate_liu (s : State) (k : FaultKind) (hold : Option Nat) :
    (s.activate k hold).liu = s.liu := by
  rfl
@[simp] theorem State.activate_ptu (s : State) (k : FaultKind) (hold : Option Nat) :
    (s.activate k hold).ptu = s.ptu := by
  rfl
@[simp] theorem State.activate_sbu (s : State) (k : FaultKind) (hold : Option Nat) :
    (s.activate k hold).sbu = s.sbu := by
  rfl
@[simp] theorem State.activate_lcu (s : State) (k : FaultKind) (hold : Option Nat) :
    (s.activate k hold).lcu = s.lcu := by
  rfl
@[simp] theorem State.activate_zcu (s : State) (k : FaultKind) (hold : Option Nat) :
    (s.activate k hold).zcu = s.zcu := by
  rfl
@[simp] theorem State.activate_mvu (s : State) (k : FaultKind) (hold : Option Nat) :
    (s.activate k hold).mvu = s.mvu := by
  rfl
@[simp] theorem State.activate_fpr (s : State) (k : FaultKind) (hold : Option Nat) :
    (s.activate k hold).fpr = s.fpr := by
  rfl
@[simp] theorem State.activate_ktu (s : State) (k : FaultKind) (hold : Option Nat) :
    (s.activate k hold).ktu = s.ktu := by
  rfl
@[simp] theorem State.activate_csa (s : State) (k : FaultKind) (hold : Option Nat) :
    (s.activate k hold).csa = s.csa := by
  rfl
@[simp] theorem State.activate_pending (s : State) (k : FaultKind) (hold : Option Nat) :
    (s.activate k hold).pending = s.pending := by
  rfl

@[simp] theorem State.raiseEvent_now (s : State) (k : FaultKind) : (s.raiseEvent k).now = s.now := by
  unfold State.raiseEvent; try dsimp only
  (repeat' split) <;> first | rfl | simp
@[simp] theorem State.raiseEvent_suc (s : State) (k : FaultKind) : (s.raiseEvent k).suc = s.suc := by
  unfold State.raiseEvent; try dsimp only
  (repeat' split) <;> first | rfl | simp
@[simp] theorem State.raiseEvent_cfg (s : State) (k : FaultKind) : (s.raiseEvent k).cfg = s.cfg := by
  unfold State.raiseEvent; try dsimp only
  (repeat' split) <;> first | rfl | simp
@[simp] theorem State.raiseEvent_liu (s : State) (k : FaultKind) : (s.raiseEvent k).liu = s.liu := by
  unfold State.raiseEvent; try dsimp only
  (repeat' split) <;> first | rfl | simp
@[simp] theorem State.raiseEvent_ptu (s : State) (k : FaultKind) : (s.raiseEvent k).ptu = s.ptu := by
  unfold State.raiseEvent; try dsimp only
  (repeat' split) <;> first | rfl | simp
@[simp] theorem State.raiseEvent_sbu (s : State) (k : FaultKind) : (s.raiseEvent k).sbu = s.sbu := by
  unfold State.raiseEvent; try dsimp only
  (repeat' split) <;> first | rfl | simp
@[simp] theorem State.raiseEvent_lcu (s : State) (k : FaultKind) : (s.raiseEvent k).lcu = s.lcu := by
  unfold State.raiseEvent; try dsimp only
  (repeat' split) <;> first | rfl | simp
@[simp] theorem State.raiseEvent_zcu (s : State) (k : FaultKind) : (s.raiseEvent k).zcu = s.zcu := by
  unfold State.raiseEvent; try dsimp only
  (repeat' split) <;> first | rfl | simp
@[simp] theorem State.raiseEvent_mvu (s : State) (k : FaultKind) : (s.raiseEvent k).mvu = s.mvu := by
  unfold State.raiseEvent; try dsimp only
  (repeat' split) <;> first | rfl | simp
@[simp] theorem State.raiseEvent_fpr (s : State) (k : FaultKind) : (s.raiseEvent k).fpr = s.fpr := by
  unfold State.raiseEvent; try dsimp only
  (repeat' split) <;> first | rfl | simp
@[simp] theorem State.raiseEvent_ktu (s : State) (k : FaultKind) : (s.raiseEvent k).ktu = s.ktu := by
  unfold State.raiseEvent; try dsimp only
  (repeat' split) <;> first | rfl | simp
@[simp] theorem State.raiseEvent_csa (s : State) (k : FaultKind) : (s.raiseEvent k).csa = s.csa := by
  unfold State.raiseEvent; try dsimp only
  (repeat' split) <;> first | rfl | simp
@[simp] theorem State.raiseEvent_pending (s : State) (k : FaultKind) : (s.raiseEvent k).pending = s.pending := by
  unfold State.raiseEvent; try dsimp only
  (repeat' split) <;> first | rfl | simp

@[simp] theorem State.raiseCond_now (s : State) (k : FaultKind) : (s.raiseCond k).now = s.now := by
  unfold State.raiseCond; try dsimp only
  (repeat' split) <;> first | rfl | simp
@[simp] theorem State.raiseCond_suc (s : State) (k : FaultKind) : (s.raiseCond k).suc = s.suc := by
  unfold State.raiseCond; try dsimp only
  (repeat' split) <;> first | rfl | simp
@[simp] theorem State.raiseCond_cfg (s : State) (k : FaultKind) : (s.raiseCond k).cfg = s.cfg := by
  unfold State.raiseCond; try dsimp only
  (repeat' split) <;> first | rfl | simp
@[simp] theorem State.raiseCond_liu (s : State) (k : FaultKind) : (s.raiseCond k).liu = s.liu := by
  unfold State.raiseCond; try dsimp only
  (repeat' split) <;> first | rfl | simp
@[simp] theorem State.raiseCond_ptu (s : State) (k : FaultKind) : (s.raiseCond k).ptu = s.ptu := by
  unfold State.raiseCond; try dsimp only
  (repeat' split) <;> first | rfl | simp
@[simp] theorem State.raiseCond_sbu (s : State) (k : FaultKind) : (s.raiseCond k).sbu = s.sbu := by
  unfold State.raiseCond; try dsimp only
  (repeat' split) <;> first | rfl | simp
@[simp] theorem State.raiseCond_lcu (s : State) (k : FaultKind) : (s.raiseCond k).lcu = s.lcu := by
  unfold State.raiseCond; try dsimp only
  (repeat' split) <;> first | rfl | simp
@[simp] theorem State.raiseCond_zcu (s : State) (k : FaultKind) : (s.raiseCond k).zcu = s.zcu := by
  unfold State.raiseCond; try dsimp only
  (repeat' split) <;> first | rfl | simp
@[simp] theorem State.raiseCond_mvu (s : State) (k : FaultKind) : (s.raiseCond k).mvu = s.mvu := by
  unfold State.raiseCond; try dsimp only
  (repeat' split) <;> first | rfl | simp
@[simp] theorem State.raiseCond_fpr (s : State) (k : FaultKind) : (s.raiseCond k).fpr = s.fpr := by
  unfold State.raiseCond; try dsimp only
  (repeat' split) <;> first | rfl | simp
@[simp] theorem State.raiseCond_ktu (s : State) (k : FaultKind) : (s.raiseCond k).ktu = s.ktu := by
  unfold State.raiseCond; try dsimp only
  (repeat' split) <;> first | rfl | simp
@[simp] theorem State.raiseCond_csa (s : State) (k : FaultKind) : (s.raiseCond k).csa = s.csa := by
  unfold State.raiseCond; try dsimp only
  (repeat' split) <;> first | rfl | simp
@[simp] theorem State.raiseCond_pending (s : State) (k : FaultKind) : (s.raiseCond k).pending = s.pending := by
  unfold State.raiseCond; try dsimp only
  (repeat' split) <;> first | rfl | simp

@[simp] theorem State.clearFlag_now (s : State) (k : FaultKind) : (s.clearFlag k).now = s.now := by
  rfl
@[simp] theorem State.clearFlag_suc (s : State) (k : FaultKind) : (s.clearFlag k).suc = s.suc := by
  rfl
@[simp] theorem State.clearFlag_cfg (s : State) (k : FaultKind) : (s.clearFlag k).cfg = s.cfg := by
  rfl
@[simp] theorem State.clearFlag_liu (s : State) (k : FaultKind) : (s.clearFlag k).liu = s.liu := by
  rfl
@[simp] theorem State.clearFlag_ptu (s : State) (k : FaultKind) : (s.clearFlag k).ptu = s.ptu := by
  rfl
@[simp] theorem State.clearFlag_sbu (s : State) (k : FaultKind) : (s.clearFlag k).sbu = s.sbu := by
  rfl
@[simp] theorem State.clearFlag_lcu (s : State) (k : FaultKind) : (s.clearFlag k).lcu = s.lcu := by
  rfl
@[simp] theorem State.clearFlag_zcu (s : State) (k : FaultKind) : (s.clearFlag k).zcu = s.zcu := by
  rfl
@[simp] theorem State.clearFlag_mvu (s : State) (k : FaultKind) : (s.clearFlag k).mvu = s.mvu := by
  rfl
@[simp] theorem State.clearFlag_fpr (s : State) (k : FaultKind) : (s.clearFlag k).fpr = s.fpr := by
  rfl
@[simp] theorem State.clearFlag_ktu (s : State) (k : FaultKind) : (s.clearFlag k).ktu = s.ktu := by
  rfl
@[simp] theorem State.clearFlag_csa (s : State) (k : FaultKind) : (s.clearFlag k).csa = s.csa := by
  rfl
@[simp] theorem State.clearFlag_pending (s : State) (k : FaultKind) : (s.clearFlag k).pending = s.pending := by
  rfl

@[simp] theorem State.reportCond_now (s : State) (k : FaultKind) (b : Bool) : (s.reportCond k b).now = s.now := by
  unfold State.reportCond; try dsimp only
  (repeat' split) <;> first | rfl | simp
@[simp] theorem State.reportCond_suc (s : State) (k : FaultKind) (b : Bool) : (s.reportCond k b).suc = s.suc := by
  unfold State.reportCond; try dsimp only
  (repeat' split) <;> first | rfl | simp
@[simp] theorem State.reportCond_cfg (s : State) (k : FaultKind) (b : Bool) : (s.reportCond k b).cfg = s.cfg := by
  unfold State.reportCond; try dsimp only
  (repeat' split) <;> first | rfl | simp
@[simp] theorem State.reportCond_liu (s : State) (k : FaultKind) (b : Bool) : (s.reportCond k b).liu = s.liu := by
  unfold State.reportCond; try dsimp only
  (repeat' split) <;> first | rfl | simp
@[simp] theorem State.reportCond_ptu (s : State) (k : FaultKind) (b : Bool) : (s.reportCond k b).ptu = s.ptu := by
  unfold State.reportCond; try dsimp only
  (repeat' split) <;> first | rfl | simp
@[simp] theorem State.reportCond_sbu (s : State) (k : FaultKind) (b : Bool) : (s.reportCond k b).sbu = s.sbu := by
  unfold State.reportCond; try dsimp only
  (repeat' split) <;> first | rfl | simp
@[simp] theorem State.reportCond_lcu (s : State) (k : FaultKind) (b : Bool) : (s.reportCond k b).lcu = s.lcu := by
  unfold State.reportCond; try dsimp only
  (repeat' split) <;> first | rfl | simp
@[simp] theorem State.reportCond_zcu (s : State) (k : FaultKind) (b : Bool) : (s.reportCond k b).zcu = s.zcu := by
  unfold State.reportCond; try dsimp only
  (repeat' split) <;> first | rfl | simp
@[simp] theorem State.reportCond_mvu (s : State) (k : FaultKind) (b : Bool) : (s.reportCond k b).mvu = s.mvu := by
  unfold State.reportCond; try dsimp only
  (repeat' split) <;> first | rfl | simp
@[simp] theorem State.reportCond_fpr (s : State) (k : FaultKind) (b : Bool) : (s.reportCond k b).fpr = s.fpr := by
  unfold State.reportCond; try dsimp only
  (repeat' split) <;> first | rfl | simp
@[simp] theorem State.reportCond_ktu (s : State) (k : FaultKind) (b : Bool) : (s.reportCond k b).ktu = s.ktu := by
  unfold State.reportCond; try dsimp only
  (repeat' split) <;> first | rfl | simp
@[simp] theorem State.reportCond_csa (s : State) (k : FaultKind) (b : Bool) : (s.reportCond k b).csa = s.csa := by
  unfold State.reportCond; try dsimp only
  (repeat' split) <;> first | rfl | simp
@[simp] theorem State.reportCond_pending (s : State) (k : FaultKind) (b : Bool) :
    (s.reportCond k b).pending = s.pending := by
  unfold State.reportCond; try dsimp only
  (repeat' split) <;> first | rfl | simp

@[simp] theorem State.countTick_now (s : State) : (s.countTick).now = s.now := by
  rfl
@[simp] theorem State.countTick_suc (s : State) : (s.countTick).suc = s.suc := by
  rfl
@[simp] theorem State.countTick_cfg (s : State) : (s.countTick).cfg = s.cfg := by
  rfl
@[simp] theorem State.countTick_liu (s : State) : (s.countTick).liu = s.liu := by
  rfl
@[simp] theorem State.countTick_ptu (s : State) : (s.countTick).ptu = s.ptu := by
  rfl
@[simp] theorem State.countTick_sbu (s : State) : (s.countTick).sbu = s.sbu := by
  rfl
@[simp] theorem State.countTick_lcu (s : State) : (s.countTick).lcu = s.lcu := by
  rfl
@[simp] theorem State.countTick_zcu (s : State) : (s.countTick).zcu = s.zcu := by
  rfl
@[simp] theorem State.countTick_mvu (s : State) : (s.countTick).mvu = s.mvu := by
  rfl
@[simp] theorem State.countTick_fpr (s : State) : (s.countTick).fpr = s.fpr := by
  rfl
@[simp] theorem State.countTick_ktu (s : State) : (s.countTick).ktu = s.ktu := by
  rfl
@[simp] theorem State.countTick_csa (s : State) : (s.countTick).csa = s.csa := by
  rfl
@[simp] theorem State.countTick_pending (s : State) : (s.countTick).pending = s.pending := by
  rfl

/-! ### The supply budget -/

@[simp] theorem State.removeEntry_now (s : State) (src : Source) : (s.removeEntry src).now = s.now := by
  rfl
@[simp] theorem State.removeEntry_suc (s : State) (src : Source) : (s.removeEntry src).suc = s.suc := by
  rfl
@[simp] theorem State.removeEntry_cfg (s : State) (src : Source) : (s.removeEntry src).cfg = s.cfg := by
  rfl
@[simp] theorem State.removeEntry_liu (s : State) (src : Source) : (s.removeEntry src).liu = s.liu := by
  rfl
@[simp] theorem State.removeEntry_ptu (s : State) (src : Source) : (s.removeEntry src).ptu = s.ptu := by
  rfl
@[simp] theorem State.removeEntry_lcu (s : State) (src : Source) : (s.removeEntry src).lcu = s.lcu := by
  rfl
@[simp] theorem State.removeEntry_zcu (s : State) (src : Source) : (s.removeEntry src).zcu = s.zcu := by
  rfl
@[simp] theorem State.removeEntry_mvu (s : State) (src : Source) : (s.removeEntry src).mvu = s.mvu := by
  rfl
@[simp] theorem State.removeEntry_fpr (s : State) (src : Source) : (s.removeEntry src).fpr = s.fpr := by
  rfl
@[simp] theorem State.removeEntry_ktu (s : State) (src : Source) : (s.removeEntry src).ktu = s.ktu := by
  rfl
@[simp] theorem State.removeEntry_csa (s : State) (src : Source) : (s.removeEntry src).csa = s.csa := by
  rfl
@[simp] theorem State.removeEntry_fcl (s : State) (src : Source) : (s.removeEntry src).fcl = s.fcl := by
  rfl
@[simp] theorem State.removeEntry_pending (s : State) (src : Source) : (s.removeEntry src).pending = s.pending := by
  rfl

@[simp] theorem State.createEntry_now (s : State) (src : Source) (cls : Fin 8) (rank want : Nat) :
    (s.createEntry src cls rank want).now = s.now := by
  unfold State.createEntry; try dsimp only
  (repeat' split) <;> first | rfl | simp
@[simp] theorem State.createEntry_suc (s : State) (src : Source) (cls : Fin 8) (rank want : Nat) :
    (s.createEntry src cls rank want).suc = s.suc := by
  unfold State.createEntry; try dsimp only
  (repeat' split) <;> first | rfl | simp
@[simp] theorem State.createEntry_cfg (s : State) (src : Source) (cls : Fin 8) (rank want : Nat) :
    (s.createEntry src cls rank want).cfg = s.cfg := by
  unfold State.createEntry; try dsimp only
  (repeat' split) <;> first | rfl | simp
@[simp] theorem State.createEntry_liu (s : State) (src : Source) (cls : Fin 8) (rank want : Nat) :
    (s.createEntry src cls rank want).liu = s.liu := by
  unfold State.createEntry; try dsimp only
  (repeat' split) <;> first | rfl | simp
@[simp] theorem State.createEntry_ptu (s : State) (src : Source) (cls : Fin 8) (rank want : Nat) :
    (s.createEntry src cls rank want).ptu = s.ptu := by
  unfold State.createEntry; try dsimp only
  (repeat' split) <;> first | rfl | simp
@[simp] theorem State.createEntry_lcu (s : State) (src : Source) (cls : Fin 8) (rank want : Nat) :
    (s.createEntry src cls rank want).lcu = s.lcu := by
  unfold State.createEntry; try dsimp only
  (repeat' split) <;> first | rfl | simp
@[simp] theorem State.createEntry_zcu (s : State) (src : Source) (cls : Fin 8) (rank want : Nat) :
    (s.createEntry src cls rank want).zcu = s.zcu := by
  unfold State.createEntry; try dsimp only
  (repeat' split) <;> first | rfl | simp
@[simp] theorem State.createEntry_mvu (s : State) (src : Source) (cls : Fin 8) (rank want : Nat) :
    (s.createEntry src cls rank want).mvu = s.mvu := by
  unfold State.createEntry; try dsimp only
  (repeat' split) <;> first | rfl | simp
@[simp] theorem State.createEntry_fpr (s : State) (src : Source) (cls : Fin 8) (rank want : Nat) :
    (s.createEntry src cls rank want).fpr = s.fpr := by
  unfold State.createEntry; try dsimp only
  (repeat' split) <;> first | rfl | simp
@[simp] theorem State.createEntry_ktu (s : State) (src : Source) (cls : Fin 8) (rank want : Nat) :
    (s.createEntry src cls rank want).ktu = s.ktu := by
  unfold State.createEntry; try dsimp only
  (repeat' split) <;> first | rfl | simp
@[simp] theorem State.createEntry_csa (s : State) (src : Source) (cls : Fin 8) (rank want : Nat) :
    (s.createEntry src cls rank want).csa = s.csa := by
  unfold State.createEntry; try dsimp only
  (repeat' split) <;> first | rfl | simp
@[simp] theorem State.createEntry_fcl (s : State) (src : Source) (cls : Fin 8) (rank want : Nat) :
    (s.createEntry src cls rank want).fcl = s.fcl := by
  unfold State.createEntry; try dsimp only
  (repeat' split) <;> first | rfl | simp
@[simp] theorem State.createEntry_pending (s : State) (src : Source) (cls : Fin 8) (rank want : Nat) :
    (s.createEntry src cls rank want).pending = s.pending := by
  unfold State.createEntry; try dsimp only
  (repeat' split) <;> first | rfl | simp

@[simp] theorem State.changeEntry_now (s : State) (src : Source) (want : Nat) :
    (s.changeEntry src want).now = s.now := by
  unfold State.changeEntry; try dsimp only
  (repeat' split) <;> first | rfl | simp
@[simp] theorem State.changeEntry_suc (s : State) (src : Source) (want : Nat) :
    (s.changeEntry src want).suc = s.suc := by
  unfold State.changeEntry; try dsimp only
  (repeat' split) <;> first | rfl | simp
@[simp] theorem State.changeEntry_cfg (s : State) (src : Source) (want : Nat) :
    (s.changeEntry src want).cfg = s.cfg := by
  unfold State.changeEntry; try dsimp only
  (repeat' split) <;> first | rfl | simp
@[simp] theorem State.changeEntry_liu (s : State) (src : Source) (want : Nat) :
    (s.changeEntry src want).liu = s.liu := by
  unfold State.changeEntry; try dsimp only
  (repeat' split) <;> first | rfl | simp
@[simp] theorem State.changeEntry_ptu (s : State) (src : Source) (want : Nat) :
    (s.changeEntry src want).ptu = s.ptu := by
  unfold State.changeEntry; try dsimp only
  (repeat' split) <;> first | rfl | simp
@[simp] theorem State.changeEntry_lcu (s : State) (src : Source) (want : Nat) :
    (s.changeEntry src want).lcu = s.lcu := by
  unfold State.changeEntry; try dsimp only
  (repeat' split) <;> first | rfl | simp
@[simp] theorem State.changeEntry_zcu (s : State) (src : Source) (want : Nat) :
    (s.changeEntry src want).zcu = s.zcu := by
  unfold State.changeEntry; try dsimp only
  (repeat' split) <;> first | rfl | simp
@[simp] theorem State.changeEntry_mvu (s : State) (src : Source) (want : Nat) :
    (s.changeEntry src want).mvu = s.mvu := by
  unfold State.changeEntry; try dsimp only
  (repeat' split) <;> first | rfl | simp
@[simp] theorem State.changeEntry_fpr (s : State) (src : Source) (want : Nat) :
    (s.changeEntry src want).fpr = s.fpr := by
  unfold State.changeEntry; try dsimp only
  (repeat' split) <;> first | rfl | simp
@[simp] theorem State.changeEntry_ktu (s : State) (src : Source) (want : Nat) :
    (s.changeEntry src want).ktu = s.ktu := by
  unfold State.changeEntry; try dsimp only
  (repeat' split) <;> first | rfl | simp
@[simp] theorem State.changeEntry_csa (s : State) (src : Source) (want : Nat) :
    (s.changeEntry src want).csa = s.csa := by
  unfold State.changeEntry; try dsimp only
  (repeat' split) <;> first | rfl | simp
@[simp] theorem State.changeEntry_fcl (s : State) (src : Source) (want : Nat) :
    (s.changeEntry src want).fcl = s.fcl := by
  unfold State.changeEntry; try dsimp only
  (repeat' split) <;> first | rfl | simp
@[simp] theorem State.changeEntry_pending (s : State) (src : Source) (want : Nat) :
    (s.changeEntry src want).pending = s.pending := by
  unfold State.changeEntry; try dsimp only
  (repeat' split) <;> first | rfl | simp

@[simp] theorem State.budgetTick_now (s : State) : (s.budgetTick).now = s.now := by
  unfold State.budgetTick; try dsimp only
  (repeat' split) <;> first | rfl | simp
@[simp] theorem State.budgetTick_suc (s : State) : (s.budgetTick).suc = s.suc := by
  unfold State.budgetTick; try dsimp only
  (repeat' split) <;> first | rfl | simp
@[simp] theorem State.budgetTick_cfg (s : State) : (s.budgetTick).cfg = s.cfg := by
  unfold State.budgetTick; try dsimp only
  (repeat' split) <;> first | rfl | simp
@[simp] theorem State.budgetTick_liu (s : State) : (s.budgetTick).liu = s.liu := by
  unfold State.budgetTick; try dsimp only
  (repeat' split) <;> first | rfl | simp
@[simp] theorem State.budgetTick_ptu (s : State) : (s.budgetTick).ptu = s.ptu := by
  unfold State.budgetTick; try dsimp only
  (repeat' split) <;> first | rfl | simp
@[simp] theorem State.budgetTick_lcu (s : State) : (s.budgetTick).lcu = s.lcu := by
  unfold State.budgetTick; try dsimp only
  (repeat' split) <;> first | rfl | simp
@[simp] theorem State.budgetTick_zcu (s : State) : (s.budgetTick).zcu = s.zcu := by
  unfold State.budgetTick; try dsimp only
  (repeat' split) <;> first | rfl | simp
@[simp] theorem State.budgetTick_mvu (s : State) : (s.budgetTick).mvu = s.mvu := by
  unfold State.budgetTick; try dsimp only
  (repeat' split) <;> first | rfl | simp
@[simp] theorem State.budgetTick_fpr (s : State) : (s.budgetTick).fpr = s.fpr := by
  unfold State.budgetTick; try dsimp only
  (repeat' split) <;> first | rfl | simp
@[simp] theorem State.budgetTick_ktu (s : State) : (s.budgetTick).ktu = s.ktu := by
  unfold State.budgetTick; try dsimp only
  (repeat' split) <;> first | rfl | simp
@[simp] theorem State.budgetTick_csa (s : State) : (s.budgetTick).csa = s.csa := by
  unfold State.budgetTick; try dsimp only
  (repeat' split) <;> first | rfl | simp
@[simp] theorem State.budgetTick_pending (s : State) : (s.budgetTick).pending = s.pending := by
  unfold State.budgetTick; try dsimp only
  (repeat' split) <;> first | rfl | simp

@[simp] theorem State.takeOffers_now (s : State) : (s.takeOffers).now = s.now := by
  rfl
@[simp] theorem State.takeOffers_suc (s : State) : (s.takeOffers).suc = s.suc := by
  rfl
@[simp] theorem State.takeOffers_cfg (s : State) : (s.takeOffers).cfg = s.cfg := by
  rfl
@[simp] theorem State.takeOffers_liu (s : State) : (s.takeOffers).liu = s.liu := by
  rfl
@[simp] theorem State.takeOffers_ptu (s : State) : (s.takeOffers).ptu = s.ptu := by
  rfl
@[simp] theorem State.takeOffers_lcu (s : State) : (s.takeOffers).lcu = s.lcu := by
  rfl
@[simp] theorem State.takeOffers_zcu (s : State) : (s.takeOffers).zcu = s.zcu := by
  rfl
@[simp] theorem State.takeOffers_mvu (s : State) : (s.takeOffers).mvu = s.mvu := by
  rfl
@[simp] theorem State.takeOffers_fpr (s : State) : (s.takeOffers).fpr = s.fpr := by
  rfl
@[simp] theorem State.takeOffers_ktu (s : State) : (s.takeOffers).ktu = s.ktu := by
  rfl
@[simp] theorem State.takeOffers_csa (s : State) : (s.takeOffers).csa = s.csa := by
  rfl
@[simp] theorem State.takeOffers_fcl (s : State) : (s.takeOffers).fcl = s.fcl := by
  rfl
@[simp] theorem State.takeOffers_pending (s : State) : (s.takeOffers).pending = s.pending := by
  rfl

@[simp] theorem State.enterIsland_now (s : State) (cause : IslandCause) : (s.enterIsland cause).now = s.now := by
  unfold State.enterIsland; try dsimp only
  (repeat' split) <;> first | rfl | simp
@[simp] theorem State.enterIsland_suc (s : State) (cause : IslandCause) : (s.enterIsland cause).suc = s.suc := by
  unfold State.enterIsland; try dsimp only
  (repeat' split) <;> first | rfl | simp
@[simp] theorem State.enterIsland_cfg (s : State) (cause : IslandCause) : (s.enterIsland cause).cfg = s.cfg := by
  unfold State.enterIsland; try dsimp only
  (repeat' split) <;> first | rfl | simp
@[simp] theorem State.enterIsland_liu (s : State) (cause : IslandCause) : (s.enterIsland cause).liu = s.liu := by
  unfold State.enterIsland; try dsimp only
  (repeat' split) <;> first | rfl | simp
@[simp] theorem State.enterIsland_ptu (s : State) (cause : IslandCause) : (s.enterIsland cause).ptu = s.ptu := by
  unfold State.enterIsland; try dsimp only
  (repeat' split) <;> first | rfl | simp
@[simp] theorem State.enterIsland_lcu (s : State) (cause : IslandCause) : (s.enterIsland cause).lcu = s.lcu := by
  unfold State.enterIsland; try dsimp only
  (repeat' split) <;> first | rfl | simp
@[simp] theorem State.enterIsland_zcu (s : State) (cause : IslandCause) : (s.enterIsland cause).zcu = s.zcu := by
  unfold State.enterIsland; try dsimp only
  (repeat' split) <;> first | rfl | simp
@[simp] theorem State.enterIsland_mvu (s : State) (cause : IslandCause) : (s.enterIsland cause).mvu = s.mvu := by
  unfold State.enterIsland; try dsimp only
  (repeat' split) <;> first | rfl | simp
@[simp] theorem State.enterIsland_fpr (s : State) (cause : IslandCause) : (s.enterIsland cause).fpr = s.fpr := by
  unfold State.enterIsland; try dsimp only
  (repeat' split) <;> first | rfl | simp
@[simp] theorem State.enterIsland_ktu (s : State) (cause : IslandCause) : (s.enterIsland cause).ktu = s.ktu := by
  unfold State.enterIsland; try dsimp only
  (repeat' split) <;> first | rfl | simp
@[simp] theorem State.enterIsland_csa (s : State) (cause : IslandCause) : (s.enterIsland cause).csa = s.csa := by
  unfold State.enterIsland; try dsimp only
  (repeat' split) <;> first | rfl | simp
@[simp] theorem State.enterIsland_pending (s : State) (cause : IslandCause) :
    (s.enterIsland cause).pending = s.pending := by
  unfold State.enterIsland; try dsimp only
  (repeat' split) <;> first | rfl | simp

@[simp] theorem State.leaveIsland_now (s : State) : (s.leaveIsland).now = s.now := by
  unfold State.leaveIsland; try dsimp only
  (repeat' split) <;> first | rfl | simp
@[simp] theorem State.leaveIsland_suc (s : State) : (s.leaveIsland).suc = s.suc := by
  unfold State.leaveIsland; try dsimp only
  (repeat' split) <;> first | rfl | simp
@[simp] theorem State.leaveIsland_cfg (s : State) : (s.leaveIsland).cfg = s.cfg := by
  unfold State.leaveIsland; try dsimp only
  (repeat' split) <;> first | rfl | simp
@[simp] theorem State.leaveIsland_liu (s : State) : (s.leaveIsland).liu = s.liu := by
  unfold State.leaveIsland; try dsimp only
  (repeat' split) <;> first | rfl | simp
@[simp] theorem State.leaveIsland_ptu (s : State) : (s.leaveIsland).ptu = s.ptu := by
  unfold State.leaveIsland; try dsimp only
  (repeat' split) <;> first | rfl | simp
@[simp] theorem State.leaveIsland_lcu (s : State) : (s.leaveIsland).lcu = s.lcu := by
  unfold State.leaveIsland; try dsimp only
  (repeat' split) <;> first | rfl | simp
@[simp] theorem State.leaveIsland_zcu (s : State) : (s.leaveIsland).zcu = s.zcu := by
  unfold State.leaveIsland; try dsimp only
  (repeat' split) <;> first | rfl | simp
@[simp] theorem State.leaveIsland_mvu (s : State) : (s.leaveIsland).mvu = s.mvu := by
  unfold State.leaveIsland; try dsimp only
  (repeat' split) <;> first | rfl | simp
@[simp] theorem State.leaveIsland_fpr (s : State) : (s.leaveIsland).fpr = s.fpr := by
  unfold State.leaveIsland; try dsimp only
  (repeat' split) <;> first | rfl | simp
@[simp] theorem State.leaveIsland_ktu (s : State) : (s.leaveIsland).ktu = s.ktu := by
  unfold State.leaveIsland; try dsimp only
  (repeat' split) <;> first | rfl | simp
@[simp] theorem State.leaveIsland_csa (s : State) : (s.leaveIsland).csa = s.csa := by
  unfold State.leaveIsland; try dsimp only
  (repeat' split) <;> first | rfl | simp
@[simp] theorem State.leaveIsland_pending (s : State) : (s.leaveIsland).pending = s.pending := by
  unfold State.leaveIsland; try dsimp only
  (repeat' split) <;> first | rfl | simp

/-! ### The load channels -/

@[simp] theorem State.refreshChannel_now (s : State) (c : ChannelId) : (s.refreshChannel c).now = s.now := by
  unfold State.refreshChannel; try dsimp only
  (repeat' split) <;> first | rfl | simp
@[simp] theorem State.refreshChannel_suc (s : State) (c : ChannelId) : (s.refreshChannel c).suc = s.suc := by
  unfold State.refreshChannel; try dsimp only
  (repeat' split) <;> first | rfl | simp
@[simp] theorem State.refreshChannel_cfg (s : State) (c : ChannelId) : (s.refreshChannel c).cfg = s.cfg := by
  unfold State.refreshChannel; try dsimp only
  (repeat' split) <;> first | rfl | simp
@[simp] theorem State.refreshChannel_liu (s : State) (c : ChannelId) : (s.refreshChannel c).liu = s.liu := by
  unfold State.refreshChannel; try dsimp only
  (repeat' split) <;> first | rfl | simp
@[simp] theorem State.refreshChannel_ptu (s : State) (c : ChannelId) : (s.refreshChannel c).ptu = s.ptu := by
  unfold State.refreshChannel; try dsimp only
  (repeat' split) <;> first | rfl | simp
@[simp] theorem State.refreshChannel_sbu (s : State) (c : ChannelId) : (s.refreshChannel c).sbu = s.sbu := by
  unfold State.refreshChannel; try dsimp only
  (repeat' split) <;> first | rfl | simp
@[simp] theorem State.refreshChannel_zcu (s : State) (c : ChannelId) : (s.refreshChannel c).zcu = s.zcu := by
  unfold State.refreshChannel; try dsimp only
  (repeat' split) <;> first | rfl | simp
@[simp] theorem State.refreshChannel_mvu (s : State) (c : ChannelId) : (s.refreshChannel c).mvu = s.mvu := by
  unfold State.refreshChannel; try dsimp only
  (repeat' split) <;> first | rfl | simp
@[simp] theorem State.refreshChannel_fpr (s : State) (c : ChannelId) : (s.refreshChannel c).fpr = s.fpr := by
  unfold State.refreshChannel; try dsimp only
  (repeat' split) <;> first | rfl | simp
@[simp] theorem State.refreshChannel_ktu (s : State) (c : ChannelId) : (s.refreshChannel c).ktu = s.ktu := by
  unfold State.refreshChannel; try dsimp only
  (repeat' split) <;> first | rfl | simp
@[simp] theorem State.refreshChannel_csa (s : State) (c : ChannelId) : (s.refreshChannel c).csa = s.csa := by
  unfold State.refreshChannel; try dsimp only
  (repeat' split) <;> first | rfl | simp
@[simp] theorem State.refreshChannel_fcl (s : State) (c : ChannelId) : (s.refreshChannel c).fcl = s.fcl := by
  unfold State.refreshChannel; try dsimp only
  (repeat' split) <;> first | rfl | simp
@[simp] theorem State.refreshChannel_pending (s : State) (c : ChannelId) :
    (s.refreshChannel c).pending = s.pending := by
  unfold State.refreshChannel; try dsimp only
  (repeat' split) <;> first | rfl | simp

@[simp] theorem State.alignEntry_now (s : State) (c : ChannelId) (old new : Nat) :
    (s.alignEntry c old new).now = s.now := by
  unfold State.alignEntry; try dsimp only
  (repeat' split) <;> first | rfl | simp
@[simp] theorem State.alignEntry_suc (s : State) (c : ChannelId) (old new : Nat) :
    (s.alignEntry c old new).suc = s.suc := by
  unfold State.alignEntry; try dsimp only
  (repeat' split) <;> first | rfl | simp
@[simp] theorem State.alignEntry_cfg (s : State) (c : ChannelId) (old new : Nat) :
    (s.alignEntry c old new).cfg = s.cfg := by
  unfold State.alignEntry; try dsimp only
  (repeat' split) <;> first | rfl | simp
@[simp] theorem State.alignEntry_liu (s : State) (c : ChannelId) (old new : Nat) :
    (s.alignEntry c old new).liu = s.liu := by
  unfold State.alignEntry; try dsimp only
  (repeat' split) <;> first | rfl | simp
@[simp] theorem State.alignEntry_ptu (s : State) (c : ChannelId) (old new : Nat) :
    (s.alignEntry c old new).ptu = s.ptu := by
  unfold State.alignEntry; try dsimp only
  (repeat' split) <;> first | rfl | simp
@[simp] theorem State.alignEntry_lcu (s : State) (c : ChannelId) (old new : Nat) :
    (s.alignEntry c old new).lcu = s.lcu := by
  unfold State.alignEntry; try dsimp only
  (repeat' split) <;> first | rfl | simp
@[simp] theorem State.alignEntry_zcu (s : State) (c : ChannelId) (old new : Nat) :
    (s.alignEntry c old new).zcu = s.zcu := by
  unfold State.alignEntry; try dsimp only
  (repeat' split) <;> first | rfl | simp
@[simp] theorem State.alignEntry_mvu (s : State) (c : ChannelId) (old new : Nat) :
    (s.alignEntry c old new).mvu = s.mvu := by
  unfold State.alignEntry; try dsimp only
  (repeat' split) <;> first | rfl | simp
@[simp] theorem State.alignEntry_fpr (s : State) (c : ChannelId) (old new : Nat) :
    (s.alignEntry c old new).fpr = s.fpr := by
  unfold State.alignEntry; try dsimp only
  (repeat' split) <;> first | rfl | simp
@[simp] theorem State.alignEntry_ktu (s : State) (c : ChannelId) (old new : Nat) :
    (s.alignEntry c old new).ktu = s.ktu := by
  unfold State.alignEntry; try dsimp only
  (repeat' split) <;> first | rfl | simp
@[simp] theorem State.alignEntry_csa (s : State) (c : ChannelId) (old new : Nat) :
    (s.alignEntry c old new).csa = s.csa := by
  unfold State.alignEntry; try dsimp only
  (repeat' split) <;> first | rfl | simp
@[simp] theorem State.alignEntry_fcl (s : State) (c : ChannelId) (old new : Nat) :
    (s.alignEntry c old new).fcl = s.fcl := by
  unfold State.alignEntry; try dsimp only
  (repeat' split) <;> first | rfl | simp
@[simp] theorem State.alignEntry_pending (s : State) (c : ChannelId) (old new : Nat) :
    (s.alignEntry c old new).pending = s.pending := by
  unfold State.alignEntry; try dsimp only
  (repeat' split) <;> first | rfl | simp

@[simp] theorem State.applyLevel_now (s : State) (c : ChannelId) (level : Nat) :
    (s.applyLevel c level).now = s.now := by
  unfold State.applyLevel; try dsimp only
  (repeat' split) <;> first | rfl | simp
@[simp] theorem State.applyLevel_suc (s : State) (c : ChannelId) (level : Nat) :
    (s.applyLevel c level).suc = s.suc := by
  unfold State.applyLevel; try dsimp only
  (repeat' split) <;> first | rfl | simp
@[simp] theorem State.applyLevel_cfg (s : State) (c : ChannelId) (level : Nat) :
    (s.applyLevel c level).cfg = s.cfg := by
  unfold State.applyLevel; try dsimp only
  (repeat' split) <;> first | rfl | simp
@[simp] theorem State.applyLevel_liu (s : State) (c : ChannelId) (level : Nat) :
    (s.applyLevel c level).liu = s.liu := by
  unfold State.applyLevel; try dsimp only
  (repeat' split) <;> first | rfl | simp
@[simp] theorem State.applyLevel_ptu (s : State) (c : ChannelId) (level : Nat) :
    (s.applyLevel c level).ptu = s.ptu := by
  unfold State.applyLevel; try dsimp only
  (repeat' split) <;> first | rfl | simp
@[simp] theorem State.applyLevel_zcu (s : State) (c : ChannelId) (level : Nat) :
    (s.applyLevel c level).zcu = s.zcu := by
  unfold State.applyLevel; try dsimp only
  (repeat' split) <;> first | rfl | simp
@[simp] theorem State.applyLevel_mvu (s : State) (c : ChannelId) (level : Nat) :
    (s.applyLevel c level).mvu = s.mvu := by
  unfold State.applyLevel; try dsimp only
  (repeat' split) <;> first | rfl | simp
@[simp] theorem State.applyLevel_fpr (s : State) (c : ChannelId) (level : Nat) :
    (s.applyLevel c level).fpr = s.fpr := by
  unfold State.applyLevel; try dsimp only
  (repeat' split) <;> first | rfl | simp
@[simp] theorem State.applyLevel_ktu (s : State) (c : ChannelId) (level : Nat) :
    (s.applyLevel c level).ktu = s.ktu := by
  unfold State.applyLevel; try dsimp only
  (repeat' split) <;> first | rfl | simp
@[simp] theorem State.applyLevel_csa (s : State) (c : ChannelId) (level : Nat) :
    (s.applyLevel c level).csa = s.csa := by
  unfold State.applyLevel; try dsimp only
  (repeat' split) <;> first | rfl | simp
@[simp] theorem State.applyLevel_fcl (s : State) (c : ChannelId) (level : Nat) :
    (s.applyLevel c level).fcl = s.fcl := by
  unfold State.applyLevel; try dsimp only
  (repeat' split) <;> first | rfl | simp
@[simp] theorem State.applyLevel_pending (s : State) (c : ChannelId) (level : Nat) :
    (s.applyLevel c level).pending = s.pending := by
  unfold State.applyLevel; try dsimp only
  (repeat' split) <;> first | rfl | simp

@[simp] theorem State.deliverSet_now (s : State) (channel level : Nat) :
    (s.deliverSet channel level).now = s.now := by
  unfold State.deliverSet; try dsimp only
  (repeat' split) <;> first | rfl | simp
@[simp] theorem State.deliverSet_suc (s : State) (channel level : Nat) :
    (s.deliverSet channel level).suc = s.suc := by
  unfold State.deliverSet; try dsimp only
  (repeat' split) <;> first | rfl | simp
@[simp] theorem State.deliverSet_cfg (s : State) (channel level : Nat) :
    (s.deliverSet channel level).cfg = s.cfg := by
  unfold State.deliverSet; try dsimp only
  (repeat' split) <;> first | rfl | simp
@[simp] theorem State.deliverSet_liu (s : State) (channel level : Nat) :
    (s.deliverSet channel level).liu = s.liu := by
  unfold State.deliverSet; try dsimp only
  (repeat' split) <;> first | rfl | simp
@[simp] theorem State.deliverSet_ptu (s : State) (channel level : Nat) :
    (s.deliverSet channel level).ptu = s.ptu := by
  unfold State.deliverSet; try dsimp only
  (repeat' split) <;> first | rfl | simp
@[simp] theorem State.deliverSet_zcu (s : State) (channel level : Nat) :
    (s.deliverSet channel level).zcu = s.zcu := by
  unfold State.deliverSet; try dsimp only
  (repeat' split) <;> first | rfl | simp
@[simp] theorem State.deliverSet_mvu (s : State) (channel level : Nat) :
    (s.deliverSet channel level).mvu = s.mvu := by
  unfold State.deliverSet; try dsimp only
  (repeat' split) <;> first | rfl | simp
@[simp] theorem State.deliverSet_fpr (s : State) (channel level : Nat) :
    (s.deliverSet channel level).fpr = s.fpr := by
  unfold State.deliverSet; try dsimp only
  (repeat' split) <;> first | rfl | simp
@[simp] theorem State.deliverSet_ktu (s : State) (channel level : Nat) :
    (s.deliverSet channel level).ktu = s.ktu := by
  unfold State.deliverSet; try dsimp only
  (repeat' split) <;> first | rfl | simp
@[simp] theorem State.deliverSet_csa (s : State) (channel level : Nat) :
    (s.deliverSet channel level).csa = s.csa := by
  unfold State.deliverSet; try dsimp only
  (repeat' split) <;> first | rfl | simp
@[simp] theorem State.deliverSet_fcl (s : State) (channel level : Nat) :
    (s.deliverSet channel level).fcl = s.fcl := by
  unfold State.deliverSet; try dsimp only
  (repeat' split) <;> first | rfl | simp
@[simp] theorem State.deliverSet_pending (s : State) (channel level : Nat) :
    (s.deliverSet channel level).pending = s.pending := by
  unfold State.deliverSet; try dsimp only
  (repeat' split) <;> first | rfl | simp

@[simp] theorem State.deliverScene_now (s : State) (number : Nat) : (s.deliverScene number).now = s.now := by
  unfold State.deliverScene; (repeat' split) <;> first | rfl | exact foldl_keeps (·.now) _ (fun _ _ => by simp) _ _
@[simp] theorem State.deliverScene_suc (s : State) (number : Nat) : (s.deliverScene number).suc = s.suc := by
  unfold State.deliverScene; (repeat' split) <;> first | rfl | exact foldl_keeps (·.suc) _ (fun _ _ => by simp) _ _
@[simp] theorem State.deliverScene_cfg (s : State) (number : Nat) : (s.deliverScene number).cfg = s.cfg := by
  unfold State.deliverScene; (repeat' split) <;> first | rfl | exact foldl_keeps (·.cfg) _ (fun _ _ => by simp) _ _
@[simp] theorem State.deliverScene_liu (s : State) (number : Nat) : (s.deliverScene number).liu = s.liu := by
  unfold State.deliverScene; (repeat' split) <;> first | rfl | exact foldl_keeps (·.liu) _ (fun _ _ => by simp) _ _
@[simp] theorem State.deliverScene_ptu (s : State) (number : Nat) : (s.deliverScene number).ptu = s.ptu := by
  unfold State.deliverScene; (repeat' split) <;> first | rfl | exact foldl_keeps (·.ptu) _ (fun _ _ => by simp) _ _
@[simp] theorem State.deliverScene_zcu (s : State) (number : Nat) : (s.deliverScene number).zcu = s.zcu := by
  unfold State.deliverScene; (repeat' split) <;> first | rfl | exact foldl_keeps (·.zcu) _ (fun _ _ => by simp) _ _
@[simp] theorem State.deliverScene_mvu (s : State) (number : Nat) : (s.deliverScene number).mvu = s.mvu := by
  unfold State.deliverScene; (repeat' split) <;> first | rfl | exact foldl_keeps (·.mvu) _ (fun _ _ => by simp) _ _
@[simp] theorem State.deliverScene_fpr (s : State) (number : Nat) : (s.deliverScene number).fpr = s.fpr := by
  unfold State.deliverScene; (repeat' split) <;> first | rfl | exact foldl_keeps (·.fpr) _ (fun _ _ => by simp) _ _
@[simp] theorem State.deliverScene_ktu (s : State) (number : Nat) : (s.deliverScene number).ktu = s.ktu := by
  unfold State.deliverScene; (repeat' split) <;> first | rfl | exact foldl_keeps (·.ktu) _ (fun _ _ => by simp) _ _
@[simp] theorem State.deliverScene_csa (s : State) (number : Nat) : (s.deliverScene number).csa = s.csa := by
  unfold State.deliverScene; (repeat' split) <;> first | rfl | exact foldl_keeps (·.csa) _ (fun _ _ => by simp) _ _
@[simp] theorem State.deliverScene_fcl (s : State) (number : Nat) : (s.deliverScene number).fcl = s.fcl := by
  unfold State.deliverScene; (repeat' split) <;> first | rfl | exact foldl_keeps (·.fcl) _ (fun _ _ => by simp) _ _
@[simp] theorem State.deliverScene_pending (s : State) (number : Nat) :
    (s.deliverScene number).pending = s.pending := by
  unfold State.deliverScene; (repeat' split) <;> first | rfl | exact foldl_keeps (·.pending) _ (fun _ _ => by simp) _ _

@[simp] theorem State.beatChannel_now (s : State) (c : ChannelId) : (s.beatChannel c).now = s.now := by
  unfold State.beatChannel; try dsimp only
  (repeat' split) <;> first | rfl | simp
@[simp] theorem State.beatChannel_suc (s : State) (c : ChannelId) : (s.beatChannel c).suc = s.suc := by
  unfold State.beatChannel; try dsimp only
  (repeat' split) <;> first | rfl | simp
@[simp] theorem State.beatChannel_cfg (s : State) (c : ChannelId) : (s.beatChannel c).cfg = s.cfg := by
  unfold State.beatChannel; try dsimp only
  (repeat' split) <;> first | rfl | simp
@[simp] theorem State.beatChannel_liu (s : State) (c : ChannelId) : (s.beatChannel c).liu = s.liu := by
  unfold State.beatChannel; try dsimp only
  (repeat' split) <;> first | rfl | simp
@[simp] theorem State.beatChannel_ptu (s : State) (c : ChannelId) : (s.beatChannel c).ptu = s.ptu := by
  unfold State.beatChannel; try dsimp only
  (repeat' split) <;> first | rfl | simp
@[simp] theorem State.beatChannel_sbu (s : State) (c : ChannelId) : (s.beatChannel c).sbu = s.sbu := by
  unfold State.beatChannel; try dsimp only
  (repeat' split) <;> first | rfl | simp
@[simp] theorem State.beatChannel_zcu (s : State) (c : ChannelId) : (s.beatChannel c).zcu = s.zcu := by
  unfold State.beatChannel; try dsimp only
  (repeat' split) <;> first | rfl | simp
@[simp] theorem State.beatChannel_mvu (s : State) (c : ChannelId) : (s.beatChannel c).mvu = s.mvu := by
  unfold State.beatChannel; try dsimp only
  (repeat' split) <;> first | rfl | simp
@[simp] theorem State.beatChannel_fpr (s : State) (c : ChannelId) : (s.beatChannel c).fpr = s.fpr := by
  unfold State.beatChannel; try dsimp only
  (repeat' split) <;> first | rfl | simp
@[simp] theorem State.beatChannel_ktu (s : State) (c : ChannelId) : (s.beatChannel c).ktu = s.ktu := by
  unfold State.beatChannel; try dsimp only
  (repeat' split) <;> first | rfl | simp
@[simp] theorem State.beatChannel_csa (s : State) (c : ChannelId) : (s.beatChannel c).csa = s.csa := by
  unfold State.beatChannel; try dsimp only
  (repeat' split) <;> first | rfl | simp
@[simp] theorem State.beatChannel_fcl (s : State) (c : ChannelId) : (s.beatChannel c).fcl = s.fcl := by
  unfold State.beatChannel; try dsimp only
  (repeat' split) <;> first | rfl | simp
@[simp] theorem State.beatChannel_pending (s : State) (c : ChannelId) : (s.beatChannel c).pending = s.pending := by
  unfold State.beatChannel; try dsimp only
  (repeat' split) <;> first | rfl | simp

@[simp] theorem State.cutChannel_now (s : State) (c : ChannelId) : (s.cutChannel c).now = s.now := by
  unfold State.cutChannel; try dsimp only
  (repeat' split) <;> first | rfl | simp
@[simp] theorem State.cutChannel_suc (s : State) (c : ChannelId) : (s.cutChannel c).suc = s.suc := by
  unfold State.cutChannel; try dsimp only
  (repeat' split) <;> first | rfl | simp
@[simp] theorem State.cutChannel_cfg (s : State) (c : ChannelId) : (s.cutChannel c).cfg = s.cfg := by
  unfold State.cutChannel; try dsimp only
  (repeat' split) <;> first | rfl | simp
@[simp] theorem State.cutChannel_liu (s : State) (c : ChannelId) : (s.cutChannel c).liu = s.liu := by
  unfold State.cutChannel; try dsimp only
  (repeat' split) <;> first | rfl | simp
@[simp] theorem State.cutChannel_ptu (s : State) (c : ChannelId) : (s.cutChannel c).ptu = s.ptu := by
  unfold State.cutChannel; try dsimp only
  (repeat' split) <;> first | rfl | simp
@[simp] theorem State.cutChannel_sbu (s : State) (c : ChannelId) : (s.cutChannel c).sbu = s.sbu := by
  unfold State.cutChannel; try dsimp only
  (repeat' split) <;> first | rfl | simp
@[simp] theorem State.cutChannel_zcu (s : State) (c : ChannelId) : (s.cutChannel c).zcu = s.zcu := by
  unfold State.cutChannel; try dsimp only
  (repeat' split) <;> first | rfl | simp
@[simp] theorem State.cutChannel_mvu (s : State) (c : ChannelId) : (s.cutChannel c).mvu = s.mvu := by
  unfold State.cutChannel; try dsimp only
  (repeat' split) <;> first | rfl | simp
@[simp] theorem State.cutChannel_fpr (s : State) (c : ChannelId) : (s.cutChannel c).fpr = s.fpr := by
  unfold State.cutChannel; try dsimp only
  (repeat' split) <;> first | rfl | simp
@[simp] theorem State.cutChannel_ktu (s : State) (c : ChannelId) : (s.cutChannel c).ktu = s.ktu := by
  unfold State.cutChannel; try dsimp only
  (repeat' split) <;> first | rfl | simp
@[simp] theorem State.cutChannel_csa (s : State) (c : ChannelId) : (s.cutChannel c).csa = s.csa := by
  unfold State.cutChannel; try dsimp only
  (repeat' split) <;> first | rfl | simp
@[simp] theorem State.cutChannel_fcl (s : State) (c : ChannelId) : (s.cutChannel c).fcl = s.fcl := by
  unfold State.cutChannel; try dsimp only
  (repeat' split) <;> first | rfl | simp
@[simp] theorem State.cutChannel_pending (s : State) (c : ChannelId) : (s.cutChannel c).pending = s.pending := by
  unfold State.cutChannel; try dsimp only
  (repeat' split) <;> first | rfl | simp

@[simp] theorem State.tickChannel_now (s : State) (c : ChannelId) : (s.tickChannel c).now = s.now := by
  unfold State.tickChannel; try dsimp only
  (repeat' split) <;> first | rfl | simp
@[simp] theorem State.tickChannel_suc (s : State) (c : ChannelId) : (s.tickChannel c).suc = s.suc := by
  unfold State.tickChannel; try dsimp only
  (repeat' split) <;> first | rfl | simp
@[simp] theorem State.tickChannel_cfg (s : State) (c : ChannelId) : (s.tickChannel c).cfg = s.cfg := by
  unfold State.tickChannel; try dsimp only
  (repeat' split) <;> first | rfl | simp
@[simp] theorem State.tickChannel_liu (s : State) (c : ChannelId) : (s.tickChannel c).liu = s.liu := by
  unfold State.tickChannel; try dsimp only
  (repeat' split) <;> first | rfl | simp
@[simp] theorem State.tickChannel_ptu (s : State) (c : ChannelId) : (s.tickChannel c).ptu = s.ptu := by
  unfold State.tickChannel; try dsimp only
  (repeat' split) <;> first | rfl | simp
@[simp] theorem State.tickChannel_sbu (s : State) (c : ChannelId) : (s.tickChannel c).sbu = s.sbu := by
  unfold State.tickChannel; try dsimp only
  (repeat' split) <;> first | rfl | simp
@[simp] theorem State.tickChannel_zcu (s : State) (c : ChannelId) : (s.tickChannel c).zcu = s.zcu := by
  unfold State.tickChannel; try dsimp only
  (repeat' split) <;> first | rfl | simp
@[simp] theorem State.tickChannel_mvu (s : State) (c : ChannelId) : (s.tickChannel c).mvu = s.mvu := by
  unfold State.tickChannel; try dsimp only
  (repeat' split) <;> first | rfl | simp
@[simp] theorem State.tickChannel_fpr (s : State) (c : ChannelId) : (s.tickChannel c).fpr = s.fpr := by
  unfold State.tickChannel; try dsimp only
  (repeat' split) <;> first | rfl | simp
@[simp] theorem State.tickChannel_ktu (s : State) (c : ChannelId) : (s.tickChannel c).ktu = s.ktu := by
  unfold State.tickChannel; try dsimp only
  (repeat' split) <;> first | rfl | simp
@[simp] theorem State.tickChannel_csa (s : State) (c : ChannelId) : (s.tickChannel c).csa = s.csa := by
  unfold State.tickChannel; try dsimp only
  (repeat' split) <;> first | rfl | simp
@[simp] theorem State.tickChannel_fcl (s : State) (c : ChannelId) : (s.tickChannel c).fcl = s.fcl := by
  unfold State.tickChannel; try dsimp only
  (repeat' split) <;> first | rfl | simp
@[simp] theorem State.tickChannel_pending (s : State) (c : ChannelId) : (s.tickChannel c).pending = s.pending := by
  unfold State.tickChannel; try dsimp only
  (repeat' split) <;> first | rfl | simp

@[simp] theorem State.tickChannels_now (s : State) : (s.tickChannels).now = s.now := by
  exact foldl_keeps (·.now) _ (fun _ _ => by simp) _ _
@[simp] theorem State.tickChannels_suc (s : State) : (s.tickChannels).suc = s.suc := by
  exact foldl_keeps (·.suc) _ (fun _ _ => by simp) _ _
@[simp] theorem State.tickChannels_cfg (s : State) : (s.tickChannels).cfg = s.cfg := by
  exact foldl_keeps (·.cfg) _ (fun _ _ => by simp) _ _
@[simp] theorem State.tickChannels_liu (s : State) : (s.tickChannels).liu = s.liu := by
  exact foldl_keeps (·.liu) _ (fun _ _ => by simp) _ _
@[simp] theorem State.tickChannels_ptu (s : State) : (s.tickChannels).ptu = s.ptu := by
  exact foldl_keeps (·.ptu) _ (fun _ _ => by simp) _ _
@[simp] theorem State.tickChannels_sbu (s : State) : (s.tickChannels).sbu = s.sbu := by
  exact foldl_keeps (·.sbu) _ (fun _ _ => by simp) _ _
@[simp] theorem State.tickChannels_zcu (s : State) : (s.tickChannels).zcu = s.zcu := by
  exact foldl_keeps (·.zcu) _ (fun _ _ => by simp) _ _
@[simp] theorem State.tickChannels_mvu (s : State) : (s.tickChannels).mvu = s.mvu := by
  exact foldl_keeps (·.mvu) _ (fun _ _ => by simp) _ _
@[simp] theorem State.tickChannels_fpr (s : State) : (s.tickChannels).fpr = s.fpr := by
  exact foldl_keeps (·.fpr) _ (fun _ _ => by simp) _ _
@[simp] theorem State.tickChannels_ktu (s : State) : (s.tickChannels).ktu = s.ktu := by
  exact foldl_keeps (·.ktu) _ (fun _ _ => by simp) _ _
@[simp] theorem State.tickChannels_csa (s : State) : (s.tickChannels).csa = s.csa := by
  exact foldl_keeps (·.csa) _ (fun _ _ => by simp) _ _
@[simp] theorem State.tickChannels_fcl (s : State) : (s.tickChannels).fcl = s.fcl := by
  exact foldl_keeps (·.fcl) _ (fun _ _ => by simp) _ _
@[simp] theorem State.tickChannels_pending (s : State) : (s.tickChannels).pending = s.pending := by
  exact foldl_keeps (·.pending) _ (fun _ _ => by simp) _ _

@[simp] theorem State.trip_now (s : State) (c : ChannelId) : (s.trip c).now = s.now := by
  unfold State.trip; try dsimp only
  (repeat' split) <;> first | rfl | simp
@[simp] theorem State.trip_suc (s : State) (c : ChannelId) : (s.trip c).suc = s.suc := by
  unfold State.trip; try dsimp only
  (repeat' split) <;> first | rfl | simp
@[simp] theorem State.trip_cfg (s : State) (c : ChannelId) : (s.trip c).cfg = s.cfg := by
  unfold State.trip; try dsimp only
  (repeat' split) <;> first | rfl | simp
@[simp] theorem State.trip_liu (s : State) (c : ChannelId) : (s.trip c).liu = s.liu := by
  unfold State.trip; try dsimp only
  (repeat' split) <;> first | rfl | simp
@[simp] theorem State.trip_ptu (s : State) (c : ChannelId) : (s.trip c).ptu = s.ptu := by
  unfold State.trip; try dsimp only
  (repeat' split) <;> first | rfl | simp
@[simp] theorem State.trip_zcu (s : State) (c : ChannelId) : (s.trip c).zcu = s.zcu := by
  unfold State.trip; try dsimp only
  (repeat' split) <;> first | rfl | simp
@[simp] theorem State.trip_mvu (s : State) (c : ChannelId) : (s.trip c).mvu = s.mvu := by
  unfold State.trip; try dsimp only
  (repeat' split) <;> first | rfl | simp
@[simp] theorem State.trip_fpr (s : State) (c : ChannelId) : (s.trip c).fpr = s.fpr := by
  unfold State.trip; try dsimp only
  (repeat' split) <;> first | rfl | simp
@[simp] theorem State.trip_ktu (s : State) (c : ChannelId) : (s.trip c).ktu = s.ktu := by
  unfold State.trip; try dsimp only
  (repeat' split) <;> first | rfl | simp
@[simp] theorem State.trip_csa (s : State) (c : ChannelId) : (s.trip c).csa = s.csa := by
  unfold State.trip; try dsimp only
  (repeat' split) <;> first | rfl | simp
@[simp] theorem State.trip_pending (s : State) (c : ChannelId) : (s.trip c).pending = s.pending := by
  unfold State.trip; try dsimp only
  (repeat' split) <;> first | rfl | simp

/-! ### The zone claims -/

@[simp] theorem State.examineClaim_now (s : State) (m : MoverId) : (s.examineClaim m).now = s.now := by
  unfold State.examineClaim; try dsimp only
  (repeat' split) <;> first | rfl | simp
@[simp] theorem State.examineClaim_suc (s : State) (m : MoverId) : (s.examineClaim m).suc = s.suc := by
  unfold State.examineClaim; try dsimp only
  (repeat' split) <;> first | rfl | simp
@[simp] theorem State.examineClaim_cfg (s : State) (m : MoverId) : (s.examineClaim m).cfg = s.cfg := by
  unfold State.examineClaim; try dsimp only
  (repeat' split) <;> first | rfl | simp
@[simp] theorem State.examineClaim_liu (s : State) (m : MoverId) : (s.examineClaim m).liu = s.liu := by
  unfold State.examineClaim; try dsimp only
  (repeat' split) <;> first | rfl | simp
@[simp] theorem State.examineClaim_ptu (s : State) (m : MoverId) : (s.examineClaim m).ptu = s.ptu := by
  unfold State.examineClaim; try dsimp only
  (repeat' split) <;> first | rfl | simp
@[simp] theorem State.examineClaim_sbu (s : State) (m : MoverId) : (s.examineClaim m).sbu = s.sbu := by
  unfold State.examineClaim; try dsimp only
  (repeat' split) <;> first | rfl | simp
@[simp] theorem State.examineClaim_lcu (s : State) (m : MoverId) : (s.examineClaim m).lcu = s.lcu := by
  unfold State.examineClaim; try dsimp only
  (repeat' split) <;> first | rfl | simp
@[simp] theorem State.examineClaim_mvu (s : State) (m : MoverId) : (s.examineClaim m).mvu = s.mvu := by
  unfold State.examineClaim; try dsimp only
  (repeat' split) <;> first | rfl | simp
@[simp] theorem State.examineClaim_fpr (s : State) (m : MoverId) : (s.examineClaim m).fpr = s.fpr := by
  unfold State.examineClaim; try dsimp only
  (repeat' split) <;> first | rfl | simp
@[simp] theorem State.examineClaim_ktu (s : State) (m : MoverId) : (s.examineClaim m).ktu = s.ktu := by
  unfold State.examineClaim; try dsimp only
  (repeat' split) <;> first | rfl | simp
@[simp] theorem State.examineClaim_csa (s : State) (m : MoverId) : (s.examineClaim m).csa = s.csa := by
  unfold State.examineClaim; try dsimp only
  (repeat' split) <;> first | rfl | simp
@[simp] theorem State.examineClaim_fcl (s : State) (m : MoverId) : (s.examineClaim m).fcl = s.fcl := by
  unfold State.examineClaim; try dsimp only
  (repeat' split) <;> first | rfl | simp
@[simp] theorem State.examineClaim_pending (s : State) (m : MoverId) : (s.examineClaim m).pending = s.pending := by
  unfold State.examineClaim; try dsimp only
  (repeat' split) <;> first | rfl | simp

@[simp] theorem State.examineClaims_now (s : State) : (s.examineClaims).now = s.now := by
  unfold State.examineClaims; try dsimp only
  (repeat' split) <;> first | rfl | simp
@[simp] theorem State.examineClaims_suc (s : State) : (s.examineClaims).suc = s.suc := by
  unfold State.examineClaims; try dsimp only
  (repeat' split) <;> first | rfl | simp
@[simp] theorem State.examineClaims_cfg (s : State) : (s.examineClaims).cfg = s.cfg := by
  unfold State.examineClaims; try dsimp only
  (repeat' split) <;> first | rfl | simp
@[simp] theorem State.examineClaims_liu (s : State) : (s.examineClaims).liu = s.liu := by
  unfold State.examineClaims; try dsimp only
  (repeat' split) <;> first | rfl | simp
@[simp] theorem State.examineClaims_ptu (s : State) : (s.examineClaims).ptu = s.ptu := by
  unfold State.examineClaims; try dsimp only
  (repeat' split) <;> first | rfl | simp
@[simp] theorem State.examineClaims_sbu (s : State) : (s.examineClaims).sbu = s.sbu := by
  unfold State.examineClaims; try dsimp only
  (repeat' split) <;> first | rfl | simp
@[simp] theorem State.examineClaims_lcu (s : State) : (s.examineClaims).lcu = s.lcu := by
  unfold State.examineClaims; try dsimp only
  (repeat' split) <;> first | rfl | simp
@[simp] theorem State.examineClaims_mvu (s : State) : (s.examineClaims).mvu = s.mvu := by
  unfold State.examineClaims; try dsimp only
  (repeat' split) <;> first | rfl | simp
@[simp] theorem State.examineClaims_fpr (s : State) : (s.examineClaims).fpr = s.fpr := by
  unfold State.examineClaims; try dsimp only
  (repeat' split) <;> first | rfl | simp
@[simp] theorem State.examineClaims_ktu (s : State) : (s.examineClaims).ktu = s.ktu := by
  unfold State.examineClaims; try dsimp only
  (repeat' split) <;> first | rfl | simp
@[simp] theorem State.examineClaims_csa (s : State) : (s.examineClaims).csa = s.csa := by
  unfold State.examineClaims; try dsimp only
  (repeat' split) <;> first | rfl | simp
@[simp] theorem State.examineClaims_fcl (s : State) : (s.examineClaims).fcl = s.fcl := by
  unfold State.examineClaims; try dsimp only
  (repeat' split) <;> first | rfl | simp
@[simp] theorem State.examineClaims_pending (s : State) : (s.examineClaims).pending = s.pending := by
  unfold State.examineClaims; try dsimp only
  (repeat' split) <;> first | rfl | simp

@[simp] theorem State.newIntent_now (s : State) (m : MoverId) : (s.newIntent m).now = s.now := by
  unfold State.newIntent; try dsimp only
  (repeat' split) <;> first | rfl | simp
@[simp] theorem State.newIntent_suc (s : State) (m : MoverId) : (s.newIntent m).suc = s.suc := by
  unfold State.newIntent; try dsimp only
  (repeat' split) <;> first | rfl | simp
@[simp] theorem State.newIntent_cfg (s : State) (m : MoverId) : (s.newIntent m).cfg = s.cfg := by
  unfold State.newIntent; try dsimp only
  (repeat' split) <;> first | rfl | simp
@[simp] theorem State.newIntent_liu (s : State) (m : MoverId) : (s.newIntent m).liu = s.liu := by
  unfold State.newIntent; try dsimp only
  (repeat' split) <;> first | rfl | simp
@[simp] theorem State.newIntent_ptu (s : State) (m : MoverId) : (s.newIntent m).ptu = s.ptu := by
  unfold State.newIntent; try dsimp only
  (repeat' split) <;> first | rfl | simp
@[simp] theorem State.newIntent_sbu (s : State) (m : MoverId) : (s.newIntent m).sbu = s.sbu := by
  unfold State.newIntent; try dsimp only
  (repeat' split) <;> first | rfl | simp
@[simp] theorem State.newIntent_lcu (s : State) (m : MoverId) : (s.newIntent m).lcu = s.lcu := by
  unfold State.newIntent; try dsimp only
  (repeat' split) <;> first | rfl | simp
@[simp] theorem State.newIntent_mvu (s : State) (m : MoverId) : (s.newIntent m).mvu = s.mvu := by
  unfold State.newIntent; try dsimp only
  (repeat' split) <;> first | rfl | simp
@[simp] theorem State.newIntent_fpr (s : State) (m : MoverId) : (s.newIntent m).fpr = s.fpr := by
  unfold State.newIntent; try dsimp only
  (repeat' split) <;> first | rfl | simp
@[simp] theorem State.newIntent_ktu (s : State) (m : MoverId) : (s.newIntent m).ktu = s.ktu := by
  unfold State.newIntent; try dsimp only
  (repeat' split) <;> first | rfl | simp
@[simp] theorem State.newIntent_csa (s : State) (m : MoverId) : (s.newIntent m).csa = s.csa := by
  unfold State.newIntent; try dsimp only
  (repeat' split) <;> first | rfl | simp
@[simp] theorem State.newIntent_fcl (s : State) (m : MoverId) : (s.newIntent m).fcl = s.fcl := by
  unfold State.newIntent; try dsimp only
  (repeat' split) <;> first | rfl | simp
@[simp] theorem State.newIntent_pending (s : State) (m : MoverId) : (s.newIntent m).pending = s.pending := by
  unfold State.newIntent; try dsimp only
  (repeat' split) <;> first | rfl | simp

@[simp] theorem State.releaseClaim_now (s : State) (m : MoverId) : (s.releaseClaim m).now = s.now := by
  unfold State.releaseClaim; try dsimp only
  (repeat' split) <;> first | rfl | simp
@[simp] theorem State.releaseClaim_suc (s : State) (m : MoverId) : (s.releaseClaim m).suc = s.suc := by
  unfold State.releaseClaim; try dsimp only
  (repeat' split) <;> first | rfl | simp
@[simp] theorem State.releaseClaim_cfg (s : State) (m : MoverId) : (s.releaseClaim m).cfg = s.cfg := by
  unfold State.releaseClaim; try dsimp only
  (repeat' split) <;> first | rfl | simp
@[simp] theorem State.releaseClaim_liu (s : State) (m : MoverId) : (s.releaseClaim m).liu = s.liu := by
  unfold State.releaseClaim; try dsimp only
  (repeat' split) <;> first | rfl | simp
@[simp] theorem State.releaseClaim_ptu (s : State) (m : MoverId) : (s.releaseClaim m).ptu = s.ptu := by
  unfold State.releaseClaim; try dsimp only
  (repeat' split) <;> first | rfl | simp
@[simp] theorem State.releaseClaim_sbu (s : State) (m : MoverId) : (s.releaseClaim m).sbu = s.sbu := by
  unfold State.releaseClaim; try dsimp only
  (repeat' split) <;> first | rfl | simp
@[simp] theorem State.releaseClaim_lcu (s : State) (m : MoverId) : (s.releaseClaim m).lcu = s.lcu := by
  unfold State.releaseClaim; try dsimp only
  (repeat' split) <;> first | rfl | simp
@[simp] theorem State.releaseClaim_mvu (s : State) (m : MoverId) : (s.releaseClaim m).mvu = s.mvu := by
  unfold State.releaseClaim; try dsimp only
  (repeat' split) <;> first | rfl | simp
@[simp] theorem State.releaseClaim_fpr (s : State) (m : MoverId) : (s.releaseClaim m).fpr = s.fpr := by
  unfold State.releaseClaim; try dsimp only
  (repeat' split) <;> first | rfl | simp
@[simp] theorem State.releaseClaim_ktu (s : State) (m : MoverId) : (s.releaseClaim m).ktu = s.ktu := by
  unfold State.releaseClaim; try dsimp only
  (repeat' split) <;> first | rfl | simp
@[simp] theorem State.releaseClaim_csa (s : State) (m : MoverId) : (s.releaseClaim m).csa = s.csa := by
  unfold State.releaseClaim; try dsimp only
  (repeat' split) <;> first | rfl | simp
@[simp] theorem State.releaseClaim_fcl (s : State) (m : MoverId) : (s.releaseClaim m).fcl = s.fcl := by
  unfold State.releaseClaim; try dsimp only
  (repeat' split) <;> first | rfl | simp
@[simp] theorem State.releaseClaim_pending (s : State) (m : MoverId) : (s.releaseClaim m).pending = s.pending := by
  unfold State.releaseClaim; try dsimp only
  (repeat' split) <;> first | rfl | simp

@[simp] theorem State.restartWindow_now (s : State) (m : MoverId) : (s.restartWindow m).now = s.now := by
  unfold State.restartWindow; try dsimp only
  (repeat' split) <;> first | rfl | simp
@[simp] theorem State.restartWindow_suc (s : State) (m : MoverId) : (s.restartWindow m).suc = s.suc := by
  unfold State.restartWindow; try dsimp only
  (repeat' split) <;> first | rfl | simp
@[simp] theorem State.restartWindow_cfg (s : State) (m : MoverId) : (s.restartWindow m).cfg = s.cfg := by
  unfold State.restartWindow; try dsimp only
  (repeat' split) <;> first | rfl | simp
@[simp] theorem State.restartWindow_liu (s : State) (m : MoverId) : (s.restartWindow m).liu = s.liu := by
  unfold State.restartWindow; try dsimp only
  (repeat' split) <;> first | rfl | simp
@[simp] theorem State.restartWindow_ptu (s : State) (m : MoverId) : (s.restartWindow m).ptu = s.ptu := by
  unfold State.restartWindow; try dsimp only
  (repeat' split) <;> first | rfl | simp
@[simp] theorem State.restartWindow_sbu (s : State) (m : MoverId) : (s.restartWindow m).sbu = s.sbu := by
  unfold State.restartWindow; try dsimp only
  (repeat' split) <;> first | rfl | simp
@[simp] theorem State.restartWindow_lcu (s : State) (m : MoverId) : (s.restartWindow m).lcu = s.lcu := by
  unfold State.restartWindow; try dsimp only
  (repeat' split) <;> first | rfl | simp
@[simp] theorem State.restartWindow_mvu (s : State) (m : MoverId) : (s.restartWindow m).mvu = s.mvu := by
  unfold State.restartWindow; try dsimp only
  (repeat' split) <;> first | rfl | simp
@[simp] theorem State.restartWindow_fpr (s : State) (m : MoverId) : (s.restartWindow m).fpr = s.fpr := by
  unfold State.restartWindow; try dsimp only
  (repeat' split) <;> first | rfl | simp
@[simp] theorem State.restartWindow_ktu (s : State) (m : MoverId) : (s.restartWindow m).ktu = s.ktu := by
  unfold State.restartWindow; try dsimp only
  (repeat' split) <;> first | rfl | simp
@[simp] theorem State.restartWindow_csa (s : State) (m : MoverId) : (s.restartWindow m).csa = s.csa := by
  unfold State.restartWindow; try dsimp only
  (repeat' split) <;> first | rfl | simp
@[simp] theorem State.restartWindow_fcl (s : State) (m : MoverId) : (s.restartWindow m).fcl = s.fcl := by
  unfold State.restartWindow; try dsimp only
  (repeat' split) <;> first | rfl | simp
@[simp] theorem State.restartWindow_pending (s : State) (m : MoverId) : (s.restartWindow m).pending = s.pending := by
  unfold State.restartWindow; try dsimp only
  (repeat' split) <;> first | rfl | simp

/-! ### The movers -/

@[simp] theorem State.reportReason_now (s : State) (r : FaultReason) : (s.reportReason r).now = s.now := by
  unfold State.reportReason; try dsimp only
  (repeat' split) <;> first | rfl | simp
@[simp] theorem State.reportReason_suc (s : State) (r : FaultReason) : (s.reportReason r).suc = s.suc := by
  unfold State.reportReason; try dsimp only
  (repeat' split) <;> first | rfl | simp
@[simp] theorem State.reportReason_cfg (s : State) (r : FaultReason) : (s.reportReason r).cfg = s.cfg := by
  unfold State.reportReason; try dsimp only
  (repeat' split) <;> first | rfl | simp
@[simp] theorem State.reportReason_liu (s : State) (r : FaultReason) : (s.reportReason r).liu = s.liu := by
  unfold State.reportReason; try dsimp only
  (repeat' split) <;> first | rfl | simp
@[simp] theorem State.reportReason_ptu (s : State) (r : FaultReason) : (s.reportReason r).ptu = s.ptu := by
  unfold State.reportReason; try dsimp only
  (repeat' split) <;> first | rfl | simp
@[simp] theorem State.reportReason_sbu (s : State) (r : FaultReason) : (s.reportReason r).sbu = s.sbu := by
  unfold State.reportReason; try dsimp only
  (repeat' split) <;> first | rfl | simp
@[simp] theorem State.reportReason_lcu (s : State) (r : FaultReason) : (s.reportReason r).lcu = s.lcu := by
  unfold State.reportReason; try dsimp only
  (repeat' split) <;> first | rfl | simp
@[simp] theorem State.reportReason_zcu (s : State) (r : FaultReason) : (s.reportReason r).zcu = s.zcu := by
  unfold State.reportReason; try dsimp only
  (repeat' split) <;> first | rfl | simp
@[simp] theorem State.reportReason_mvu (s : State) (r : FaultReason) : (s.reportReason r).mvu = s.mvu := by
  unfold State.reportReason; try dsimp only
  (repeat' split) <;> first | rfl | simp
@[simp] theorem State.reportReason_fpr (s : State) (r : FaultReason) : (s.reportReason r).fpr = s.fpr := by
  unfold State.reportReason; try dsimp only
  (repeat' split) <;> first | rfl | simp
@[simp] theorem State.reportReason_ktu (s : State) (r : FaultReason) : (s.reportReason r).ktu = s.ktu := by
  unfold State.reportReason; try dsimp only
  (repeat' split) <;> first | rfl | simp
@[simp] theorem State.reportReason_csa (s : State) (r : FaultReason) : (s.reportReason r).csa = s.csa := by
  unfold State.reportReason; try dsimp only
  (repeat' split) <;> first | rfl | simp
@[simp] theorem State.reportReason_pending (s : State) (r : FaultReason) :
    (s.reportReason r).pending = s.pending := by
  unfold State.reportReason; try dsimp only
  (repeat' split) <;> first | rfl | simp

@[simp] theorem State.reportCount_now (s : State) : (s.reportCount).now = s.now := by
  unfold State.reportCount; try dsimp only
  (repeat' split) <;> first | rfl | simp
@[simp] theorem State.reportCount_suc (s : State) : (s.reportCount).suc = s.suc := by
  unfold State.reportCount; try dsimp only
  (repeat' split) <;> first | rfl | simp
@[simp] theorem State.reportCount_cfg (s : State) : (s.reportCount).cfg = s.cfg := by
  unfold State.reportCount; try dsimp only
  (repeat' split) <;> first | rfl | simp
@[simp] theorem State.reportCount_liu (s : State) : (s.reportCount).liu = s.liu := by
  unfold State.reportCount; try dsimp only
  (repeat' split) <;> first | rfl | simp
@[simp] theorem State.reportCount_ptu (s : State) : (s.reportCount).ptu = s.ptu := by
  unfold State.reportCount; try dsimp only
  (repeat' split) <;> first | rfl | simp
@[simp] theorem State.reportCount_sbu (s : State) : (s.reportCount).sbu = s.sbu := by
  unfold State.reportCount; try dsimp only
  (repeat' split) <;> first | rfl | simp
@[simp] theorem State.reportCount_lcu (s : State) : (s.reportCount).lcu = s.lcu := by
  unfold State.reportCount; try dsimp only
  (repeat' split) <;> first | rfl | simp
@[simp] theorem State.reportCount_zcu (s : State) : (s.reportCount).zcu = s.zcu := by
  unfold State.reportCount; try dsimp only
  (repeat' split) <;> first | rfl | simp
@[simp] theorem State.reportCount_mvu (s : State) : (s.reportCount).mvu = s.mvu := by
  unfold State.reportCount; try dsimp only
  (repeat' split) <;> first | rfl | simp
@[simp] theorem State.reportCount_fpr (s : State) : (s.reportCount).fpr = s.fpr := by
  unfold State.reportCount; try dsimp only
  (repeat' split) <;> first | rfl | simp
@[simp] theorem State.reportCount_ktu (s : State) : (s.reportCount).ktu = s.ktu := by
  unfold State.reportCount; try dsimp only
  (repeat' split) <;> first | rfl | simp
@[simp] theorem State.reportCount_csa (s : State) : (s.reportCount).csa = s.csa := by
  unfold State.reportCount; try dsimp only
  (repeat' split) <;> first | rfl | simp
@[simp] theorem State.reportCount_pending (s : State) : (s.reportCount).pending = s.pending := by
  unfold State.reportCount; try dsimp only
  (repeat' split) <;> first | rfl | simp

@[simp] theorem State.enterRunning_now (s : State) (m : MoverId) : (s.enterRunning m).now = s.now := by
  unfold State.enterRunning; try dsimp only
  (repeat' split) <;> first | rfl | simp
@[simp] theorem State.enterRunning_suc (s : State) (m : MoverId) : (s.enterRunning m).suc = s.suc := by
  unfold State.enterRunning; try dsimp only
  (repeat' split) <;> first | rfl | simp
@[simp] theorem State.enterRunning_cfg (s : State) (m : MoverId) : (s.enterRunning m).cfg = s.cfg := by
  unfold State.enterRunning; try dsimp only
  (repeat' split) <;> first | rfl | simp
@[simp] theorem State.enterRunning_liu (s : State) (m : MoverId) : (s.enterRunning m).liu = s.liu := by
  unfold State.enterRunning; try dsimp only
  (repeat' split) <;> first | rfl | simp
@[simp] theorem State.enterRunning_ptu (s : State) (m : MoverId) : (s.enterRunning m).ptu = s.ptu := by
  unfold State.enterRunning; try dsimp only
  (repeat' split) <;> first | rfl | simp
@[simp] theorem State.enterRunning_sbu (s : State) (m : MoverId) : (s.enterRunning m).sbu = s.sbu := by
  unfold State.enterRunning; try dsimp only
  (repeat' split) <;> first | rfl | simp
@[simp] theorem State.enterRunning_lcu (s : State) (m : MoverId) : (s.enterRunning m).lcu = s.lcu := by
  unfold State.enterRunning; try dsimp only
  (repeat' split) <;> first | rfl | simp
@[simp] theorem State.enterRunning_zcu (s : State) (m : MoverId) : (s.enterRunning m).zcu = s.zcu := by
  unfold State.enterRunning; try dsimp only
  (repeat' split) <;> first | rfl | simp
@[simp] theorem State.enterRunning_fpr (s : State) (m : MoverId) : (s.enterRunning m).fpr = s.fpr := by
  unfold State.enterRunning; try dsimp only
  (repeat' split) <;> first | rfl | simp
@[simp] theorem State.enterRunning_ktu (s : State) (m : MoverId) : (s.enterRunning m).ktu = s.ktu := by
  unfold State.enterRunning; try dsimp only
  (repeat' split) <;> first | rfl | simp
@[simp] theorem State.enterRunning_csa (s : State) (m : MoverId) : (s.enterRunning m).csa = s.csa := by
  unfold State.enterRunning; try dsimp only
  (repeat' split) <;> first | rfl | simp
@[simp] theorem State.enterRunning_fcl (s : State) (m : MoverId) : (s.enterRunning m).fcl = s.fcl := by
  unfold State.enterRunning; try dsimp only
  (repeat' split) <;> first | rfl | simp
@[simp] theorem State.enterRunning_pending (s : State) (m : MoverId) : (s.enterRunning m).pending = s.pending := by
  unfold State.enterRunning; try dsimp only
  (repeat' split) <;> first | rfl | simp

@[simp] theorem State.enterUnlocking_now (s : State) (m : MoverId) : (s.enterUnlocking m).now = s.now := by
  unfold State.enterUnlocking; try dsimp only
  (repeat' split) <;> first | rfl | simp
@[simp] theorem State.enterUnlocking_suc (s : State) (m : MoverId) : (s.enterUnlocking m).suc = s.suc := by
  unfold State.enterUnlocking; try dsimp only
  (repeat' split) <;> first | rfl | simp
@[simp] theorem State.enterUnlocking_cfg (s : State) (m : MoverId) : (s.enterUnlocking m).cfg = s.cfg := by
  unfold State.enterUnlocking; try dsimp only
  (repeat' split) <;> first | rfl | simp
@[simp] theorem State.enterUnlocking_liu (s : State) (m : MoverId) : (s.enterUnlocking m).liu = s.liu := by
  unfold State.enterUnlocking; try dsimp only
  (repeat' split) <;> first | rfl | simp
@[simp] theorem State.enterUnlocking_ptu (s : State) (m : MoverId) : (s.enterUnlocking m).ptu = s.ptu := by
  unfold State.enterUnlocking; try dsimp only
  (repeat' split) <;> first | rfl | simp
@[simp] theorem State.enterUnlocking_sbu (s : State) (m : MoverId) : (s.enterUnlocking m).sbu = s.sbu := by
  unfold State.enterUnlocking; try dsimp only
  (repeat' split) <;> first | rfl | simp
@[simp] theorem State.enterUnlocking_lcu (s : State) (m : MoverId) : (s.enterUnlocking m).lcu = s.lcu := by
  unfold State.enterUnlocking; try dsimp only
  (repeat' split) <;> first | rfl | simp
@[simp] theorem State.enterUnlocking_zcu (s : State) (m : MoverId) : (s.enterUnlocking m).zcu = s.zcu := by
  unfold State.enterUnlocking; try dsimp only
  (repeat' split) <;> first | rfl | simp
@[simp] theorem State.enterUnlocking_fpr (s : State) (m : MoverId) : (s.enterUnlocking m).fpr = s.fpr := by
  unfold State.enterUnlocking; try dsimp only
  (repeat' split) <;> first | rfl | simp
@[simp] theorem State.enterUnlocking_ktu (s : State) (m : MoverId) : (s.enterUnlocking m).ktu = s.ktu := by
  unfold State.enterUnlocking; try dsimp only
  (repeat' split) <;> first | rfl | simp
@[simp] theorem State.enterUnlocking_csa (s : State) (m : MoverId) : (s.enterUnlocking m).csa = s.csa := by
  unfold State.enterUnlocking; try dsimp only
  (repeat' split) <;> first | rfl | simp
@[simp] theorem State.enterUnlocking_fcl (s : State) (m : MoverId) : (s.enterUnlocking m).fcl = s.fcl := by
  unfold State.enterUnlocking; try dsimp only
  (repeat' split) <;> first | rfl | simp
@[simp] theorem State.enterUnlocking_pending (s : State) (m : MoverId) :
    (s.enterUnlocking m).pending = s.pending := by
  unfold State.enterUnlocking; try dsimp only
  (repeat' split) <;> first | rfl | simp

@[simp] theorem State.proceed_now (s : State) (m : MoverId) : (s.proceed m).now = s.now := by
  unfold State.proceed; try dsimp only
  (repeat' split) <;> first | rfl | simp
@[simp] theorem State.proceed_suc (s : State) (m : MoverId) : (s.proceed m).suc = s.suc := by
  unfold State.proceed; try dsimp only
  (repeat' split) <;> first | rfl | simp
@[simp] theorem State.proceed_cfg (s : State) (m : MoverId) : (s.proceed m).cfg = s.cfg := by
  unfold State.proceed; try dsimp only
  (repeat' split) <;> first | rfl | simp
@[simp] theorem State.proceed_liu (s : State) (m : MoverId) : (s.proceed m).liu = s.liu := by
  unfold State.proceed; try dsimp only
  (repeat' split) <;> first | rfl | simp
@[simp] theorem State.proceed_ptu (s : State) (m : MoverId) : (s.proceed m).ptu = s.ptu := by
  unfold State.proceed; try dsimp only
  (repeat' split) <;> first | rfl | simp
@[simp] theorem State.proceed_sbu (s : State) (m : MoverId) : (s.proceed m).sbu = s.sbu := by
  unfold State.proceed; try dsimp only
  (repeat' split) <;> first | rfl | simp
@[simp] theorem State.proceed_lcu (s : State) (m : MoverId) : (s.proceed m).lcu = s.lcu := by
  unfold State.proceed; try dsimp only
  (repeat' split) <;> first | rfl | simp
@[simp] theorem State.proceed_zcu (s : State) (m : MoverId) : (s.proceed m).zcu = s.zcu := by
  unfold State.proceed; try dsimp only
  (repeat' split) <;> first | rfl | simp
@[simp] theorem State.proceed_fpr (s : State) (m : MoverId) : (s.proceed m).fpr = s.fpr := by
  unfold State.proceed; try dsimp only
  (repeat' split) <;> first | rfl | simp
@[simp] theorem State.proceed_ktu (s : State) (m : MoverId) : (s.proceed m).ktu = s.ktu := by
  unfold State.proceed; try dsimp only
  (repeat' split) <;> first | rfl | simp
@[simp] theorem State.proceed_csa (s : State) (m : MoverId) : (s.proceed m).csa = s.csa := by
  unfold State.proceed; try dsimp only
  (repeat' split) <;> first | rfl | simp
@[simp] theorem State.proceed_fcl (s : State) (m : MoverId) : (s.proceed m).fcl = s.fcl := by
  unfold State.proceed; try dsimp only
  (repeat' split) <;> first | rfl | simp
@[simp] theorem State.proceed_pending (s : State) (m : MoverId) : (s.proceed m).pending = s.pending := by
  unfold State.proceed; try dsimp only
  (repeat' split) <;> first | rfl | simp

@[simp] theorem State.lookAgain_now (s : State) (m : MoverId) : (s.lookAgain m).now = s.now := by
  unfold State.lookAgain; try dsimp only
  (repeat' split) <;> first | rfl | simp
@[simp] theorem State.lookAgain_suc (s : State) (m : MoverId) : (s.lookAgain m).suc = s.suc := by
  unfold State.lookAgain; try dsimp only
  (repeat' split) <;> first | rfl | simp
@[simp] theorem State.lookAgain_cfg (s : State) (m : MoverId) : (s.lookAgain m).cfg = s.cfg := by
  unfold State.lookAgain; try dsimp only
  (repeat' split) <;> first | rfl | simp
@[simp] theorem State.lookAgain_liu (s : State) (m : MoverId) : (s.lookAgain m).liu = s.liu := by
  unfold State.lookAgain; try dsimp only
  (repeat' split) <;> first | rfl | simp
@[simp] theorem State.lookAgain_ptu (s : State) (m : MoverId) : (s.lookAgain m).ptu = s.ptu := by
  unfold State.lookAgain; try dsimp only
  (repeat' split) <;> first | rfl | simp
@[simp] theorem State.lookAgain_sbu (s : State) (m : MoverId) : (s.lookAgain m).sbu = s.sbu := by
  unfold State.lookAgain; try dsimp only
  (repeat' split) <;> first | rfl | simp
@[simp] theorem State.lookAgain_lcu (s : State) (m : MoverId) : (s.lookAgain m).lcu = s.lcu := by
  unfold State.lookAgain; try dsimp only
  (repeat' split) <;> first | rfl | simp
@[simp] theorem State.lookAgain_zcu (s : State) (m : MoverId) : (s.lookAgain m).zcu = s.zcu := by
  unfold State.lookAgain; try dsimp only
  (repeat' split) <;> first | rfl | simp
@[simp] theorem State.lookAgain_fpr (s : State) (m : MoverId) : (s.lookAgain m).fpr = s.fpr := by
  unfold State.lookAgain; try dsimp only
  (repeat' split) <;> first | rfl | simp
@[simp] theorem State.lookAgain_ktu (s : State) (m : MoverId) : (s.lookAgain m).ktu = s.ktu := by
  unfold State.lookAgain; try dsimp only
  (repeat' split) <;> first | rfl | simp
@[simp] theorem State.lookAgain_csa (s : State) (m : MoverId) : (s.lookAgain m).csa = s.csa := by
  unfold State.lookAgain; try dsimp only
  (repeat' split) <;> first | rfl | simp
@[simp] theorem State.lookAgain_fcl (s : State) (m : MoverId) : (s.lookAgain m).fcl = s.fcl := by
  unfold State.lookAgain; try dsimp only
  (repeat' split) <;> first | rfl | simp
@[simp] theorem State.lookAgain_pending (s : State) (m : MoverId) : (s.lookAgain m).pending = s.pending := by
  unfold State.lookAgain; try dsimp only
  (repeat' split) <;> first | rfl | simp

@[simp] theorem State.enterIdle_now (s : State) (m : MoverId) (code : RefusalCode) :
    (s.enterIdle m code).now = s.now := by
  unfold State.enterIdle; try dsimp only
  (repeat' split) <;> first | rfl | simp
@[simp] theorem State.enterIdle_suc (s : State) (m : MoverId) (code : RefusalCode) :
    (s.enterIdle m code).suc = s.suc := by
  unfold State.enterIdle; try dsimp only
  (repeat' split) <;> first | rfl | simp
@[simp] theorem State.enterIdle_cfg (s : State) (m : MoverId) (code : RefusalCode) :
    (s.enterIdle m code).cfg = s.cfg := by
  unfold State.enterIdle; try dsimp only
  (repeat' split) <;> first | rfl | simp
@[simp] theorem State.enterIdle_liu (s : State) (m : MoverId) (code : RefusalCode) :
    (s.enterIdle m code).liu = s.liu := by
  unfold State.enterIdle; try dsimp only
  (repeat' split) <;> first | rfl | simp
@[simp] theorem State.enterIdle_ptu (s : State) (m : MoverId) (code : RefusalCode) :
    (s.enterIdle m code).ptu = s.ptu := by
  unfold State.enterIdle; try dsimp only
  (repeat' split) <;> first | rfl | simp
@[simp] theorem State.enterIdle_lcu (s : State) (m : MoverId) (code : RefusalCode) :
    (s.enterIdle m code).lcu = s.lcu := by
  unfold State.enterIdle; try dsimp only
  (repeat' split) <;> first | rfl | simp
@[simp] theorem State.enterIdle_fpr (s : State) (m : MoverId) (code : RefusalCode) :
    (s.enterIdle m code).fpr = s.fpr := by
  unfold State.enterIdle; try dsimp only
  (repeat' split) <;> first | rfl | simp
@[simp] theorem State.enterIdle_ktu (s : State) (m : MoverId) (code : RefusalCode) :
    (s.enterIdle m code).ktu = s.ktu := by
  unfold State.enterIdle; try dsimp only
  (repeat' split) <;> first | rfl | simp
@[simp] theorem State.enterIdle_csa (s : State) (m : MoverId) (code : RefusalCode) :
    (s.enterIdle m code).csa = s.csa := by
  unfold State.enterIdle; try dsimp only
  (repeat' split) <;> first | rfl | simp
@[simp] theorem State.enterIdle_fcl (s : State) (m : MoverId) (code : RefusalCode) :
    (s.enterIdle m code).fcl = s.fcl := by
  unfold State.enterIdle; try dsimp only
  (repeat' split) <;> first | rfl | simp
@[simp] theorem State.enterIdle_pending (s : State) (m : MoverId) (code : RefusalCode) :
    (s.enterIdle m code).pending = s.pending := by
  unfold State.enterIdle; try dsimp only
  (repeat' split) <;> first | rfl | simp

@[simp] theorem State.enterFaulted_now (s : State) (m : MoverId) (reason : FaultReason) :
    (s.enterFaulted m reason).now = s.now := by
  unfold State.enterFaulted; try dsimp only
  (repeat' split) <;> first | rfl | simp
@[simp] theorem State.enterFaulted_suc (s : State) (m : MoverId) (reason : FaultReason) :
    (s.enterFaulted m reason).suc = s.suc := by
  unfold State.enterFaulted; try dsimp only
  (repeat' split) <;> first | rfl | simp
@[simp] theorem State.enterFaulted_cfg (s : State) (m : MoverId) (reason : FaultReason) :
    (s.enterFaulted m reason).cfg = s.cfg := by
  unfold State.enterFaulted; try dsimp only
  (repeat' split) <;> first | rfl | simp
@[simp] theorem State.enterFaulted_liu (s : State) (m : MoverId) (reason : FaultReason) :
    (s.enterFaulted m reason).liu = s.liu := by
  unfold State.enterFaulted; try dsimp only
  (repeat' split) <;> first | rfl | simp
@[simp] theorem State.enterFaulted_ptu (s : State) (m : MoverId) (reason : FaultReason) :
    (s.enterFaulted m reason).ptu = s.ptu := by
  unfold State.enterFaulted; try dsimp only
  (repeat' split) <;> first | rfl | simp
@[simp] theorem State.enterFaulted_lcu (s : State) (m : MoverId) (reason : FaultReason) :
    (s.enterFaulted m reason).lcu = s.lcu := by
  unfold State.enterFaulted; try dsimp only
  (repeat' split) <;> first | rfl | simp
@[simp] theorem State.enterFaulted_fpr (s : State) (m : MoverId) (reason : FaultReason) :
    (s.enterFaulted m reason).fpr = s.fpr := by
  unfold State.enterFaulted; try dsimp only
  (repeat' split) <;> first | rfl | simp
@[simp] theorem State.enterFaulted_ktu (s : State) (m : MoverId) (reason : FaultReason) :
    (s.enterFaulted m reason).ktu = s.ktu := by
  unfold State.enterFaulted; try dsimp only
  (repeat' split) <;> first | rfl | simp
@[simp] theorem State.enterFaulted_csa (s : State) (m : MoverId) (reason : FaultReason) :
    (s.enterFaulted m reason).csa = s.csa := by
  unfold State.enterFaulted; try dsimp only
  (repeat' split) <;> first | rfl | simp
@[simp] theorem State.enterFaulted_pending (s : State) (m : MoverId) (reason : FaultReason) :
    (s.enterFaulted m reason).pending = s.pending := by
  unfold State.enterFaulted; try dsimp only
  (repeat' split) <;> first | rfl | simp

@[simp] theorem State.faultInMotion_now (s : State) (m : MoverId) (reason : FaultReason) :
    (s.faultInMotion m reason).now = s.now := by
  unfold State.faultInMotion; try dsimp only
  (repeat' split) <;> first | rfl | simp
@[simp] theorem State.faultInMotion_suc (s : State) (m : MoverId) (reason : FaultReason) :
    (s.faultInMotion m reason).suc = s.suc := by
  unfold State.faultInMotion; try dsimp only
  (repeat' split) <;> first | rfl | simp
@[simp] theorem State.faultInMotion_cfg (s : State) (m : MoverId) (reason : FaultReason) :
    (s.faultInMotion m reason).cfg = s.cfg := by
  unfold State.faultInMotion; try dsimp only
  (repeat' split) <;> first | rfl | simp
@[simp] theorem State.faultInMotion_liu (s : State) (m : MoverId) (reason : FaultReason) :
    (s.faultInMotion m reason).liu = s.liu := by
  unfold State.faultInMotion; try dsimp only
  (repeat' split) <;> first | rfl | simp
@[simp] theorem State.faultInMotion_ptu (s : State) (m : MoverId) (reason : FaultReason) :
    (s.faultInMotion m reason).ptu = s.ptu := by
  unfold State.faultInMotion; try dsimp only
  (repeat' split) <;> first | rfl | simp
@[simp] theorem State.faultInMotion_lcu (s : State) (m : MoverId) (reason : FaultReason) :
    (s.faultInMotion m reason).lcu = s.lcu := by
  unfold State.faultInMotion; try dsimp only
  (repeat' split) <;> first | rfl | simp
@[simp] theorem State.faultInMotion_fpr (s : State) (m : MoverId) (reason : FaultReason) :
    (s.faultInMotion m reason).fpr = s.fpr := by
  unfold State.faultInMotion; try dsimp only
  (repeat' split) <;> first | rfl | simp
@[simp] theorem State.faultInMotion_ktu (s : State) (m : MoverId) (reason : FaultReason) :
    (s.faultInMotion m reason).ktu = s.ktu := by
  unfold State.faultInMotion; try dsimp only
  (repeat' split) <;> first | rfl | simp
@[simp] theorem State.faultInMotion_csa (s : State) (m : MoverId) (reason : FaultReason) :
    (s.faultInMotion m reason).csa = s.csa := by
  unfold State.faultInMotion; try dsimp only
  (repeat' split) <;> first | rfl | simp
@[simp] theorem State.faultInMotion_pending (s : State) (m : MoverId) (reason : FaultReason) :
    (s.faultInMotion m reason).pending = s.pending := by
  unfold State.faultInMotion; try dsimp only
  (repeat' split) <;> first | rfl | simp

@[simp] theorem State.haltMovers_now (s : State) : (s.haltMovers).now = s.now := by
  simp [State.haltMovers, allMovers]
@[simp] theorem State.haltMovers_suc (s : State) : (s.haltMovers).suc = s.suc := by
  simp [State.haltMovers, allMovers]
@[simp] theorem State.haltMovers_cfg (s : State) : (s.haltMovers).cfg = s.cfg := by
  simp [State.haltMovers, allMovers]
@[simp] theorem State.haltMovers_liu (s : State) : (s.haltMovers).liu = s.liu := by
  simp [State.haltMovers, allMovers]
@[simp] theorem State.haltMovers_ptu (s : State) : (s.haltMovers).ptu = s.ptu := by
  simp [State.haltMovers, allMovers]
@[simp] theorem State.haltMovers_lcu (s : State) : (s.haltMovers).lcu = s.lcu := by
  simp [State.haltMovers, allMovers]
@[simp] theorem State.haltMovers_fpr (s : State) : (s.haltMovers).fpr = s.fpr := by
  simp [State.haltMovers, allMovers]
@[simp] theorem State.haltMovers_ktu (s : State) : (s.haltMovers).ktu = s.ktu := by
  simp [State.haltMovers, allMovers]
@[simp] theorem State.haltMovers_csa (s : State) : (s.haltMovers).csa = s.csa := by
  simp [State.haltMovers, allMovers]
@[simp] theorem State.haltMovers_pending (s : State) : (s.haltMovers).pending = s.pending := by
  simp [State.haltMovers, allMovers]

@[simp] theorem State.raiseHalt_now (s : State) (k : FaultKind) : (s.raiseHalt k).now = s.now := by
  unfold State.raiseHalt; try dsimp only
  (repeat' split) <;> first | rfl | simp
@[simp] theorem State.raiseHalt_suc (s : State) (k : FaultKind) : (s.raiseHalt k).suc = s.suc := by
  unfold State.raiseHalt; try dsimp only
  (repeat' split) <;> first | rfl | simp
@[simp] theorem State.raiseHalt_cfg (s : State) (k : FaultKind) : (s.raiseHalt k).cfg = s.cfg := by
  unfold State.raiseHalt; try dsimp only
  (repeat' split) <;> first | rfl | simp
@[simp] theorem State.raiseHalt_liu (s : State) (k : FaultKind) : (s.raiseHalt k).liu = s.liu := by
  unfold State.raiseHalt; try dsimp only
  (repeat' split) <;> first | rfl | simp
@[simp] theorem State.raiseHalt_ptu (s : State) (k : FaultKind) : (s.raiseHalt k).ptu = s.ptu := by
  unfold State.raiseHalt; try dsimp only
  (repeat' split) <;> first | rfl | simp
@[simp] theorem State.raiseHalt_lcu (s : State) (k : FaultKind) : (s.raiseHalt k).lcu = s.lcu := by
  unfold State.raiseHalt; try dsimp only
  (repeat' split) <;> first | rfl | simp
@[simp] theorem State.raiseHalt_fpr (s : State) (k : FaultKind) : (s.raiseHalt k).fpr = s.fpr := by
  unfold State.raiseHalt; try dsimp only
  (repeat' split) <;> first | rfl | simp
@[simp] theorem State.raiseHalt_ktu (s : State) (k : FaultKind) : (s.raiseHalt k).ktu = s.ktu := by
  unfold State.raiseHalt; try dsimp only
  (repeat' split) <;> first | rfl | simp
@[simp] theorem State.raiseHalt_csa (s : State) (k : FaultKind) : (s.raiseHalt k).csa = s.csa := by
  unfold State.raiseHalt; try dsimp only
  (repeat' split) <;> first | rfl | simp
@[simp] theorem State.raiseHalt_pending (s : State) (k : FaultKind) : (s.raiseHalt k).pending = s.pending := by
  unfold State.raiseHalt; try dsimp only
  (repeat' split) <;> first | rfl | simp

@[simp] theorem State.enterStopping_now (s : State) (m : MoverId) (reason : StopReason) (mark : Option Dir) :
    (s.enterStopping m reason mark).now = s.now := by
  unfold State.enterStopping; try dsimp only
  (repeat' split) <;> first | rfl | simp
@[simp] theorem State.enterStopping_suc (s : State) (m : MoverId) (reason : StopReason) (mark : Option Dir) :
    (s.enterStopping m reason mark).suc = s.suc := by
  unfold State.enterStopping; try dsimp only
  (repeat' split) <;> first | rfl | simp
@[simp] theorem State.enterStopping_cfg (s : State) (m : MoverId) (reason : StopReason) (mark : Option Dir) :
    (s.enterStopping m reason mark).cfg = s.cfg := by
  unfold State.enterStopping; try dsimp only
  (repeat' split) <;> first | rfl | simp
@[simp] theorem State.enterStopping_liu (s : State) (m : MoverId) (reason : StopReason) (mark : Option Dir) :
    (s.enterStopping m reason mark).liu = s.liu := by
  unfold State.enterStopping; try dsimp only
  (repeat' split) <;> first | rfl | simp
@[simp] theorem State.enterStopping_ptu (s : State) (m : MoverId) (reason : StopReason) (mark : Option Dir) :
    (s.enterStopping m reason mark).ptu = s.ptu := by
  unfold State.enterStopping; try dsimp only
  (repeat' split) <;> first | rfl | simp
@[simp] theorem State.enterStopping_sbu (s : State) (m : MoverId) (reason : StopReason) (mark : Option Dir) :
    (s.enterStopping m reason mark).sbu = s.sbu := by
  unfold State.enterStopping; try dsimp only
  (repeat' split) <;> first | rfl | simp
@[simp] theorem State.enterStopping_lcu (s : State) (m : MoverId) (reason : StopReason) (mark : Option Dir) :
    (s.enterStopping m reason mark).lcu = s.lcu := by
  unfold State.enterStopping; try dsimp only
  (repeat' split) <;> first | rfl | simp
@[simp] theorem State.enterStopping_zcu (s : State) (m : MoverId) (reason : StopReason) (mark : Option Dir) :
    (s.enterStopping m reason mark).zcu = s.zcu := by
  unfold State.enterStopping; try dsimp only
  (repeat' split) <;> first | rfl | simp
@[simp] theorem State.enterStopping_fpr (s : State) (m : MoverId) (reason : StopReason) (mark : Option Dir) :
    (s.enterStopping m reason mark).fpr = s.fpr := by
  unfold State.enterStopping; try dsimp only
  (repeat' split) <;> first | rfl | simp
@[simp] theorem State.enterStopping_ktu (s : State) (m : MoverId) (reason : StopReason) (mark : Option Dir) :
    (s.enterStopping m reason mark).ktu = s.ktu := by
  unfold State.enterStopping; try dsimp only
  (repeat' split) <;> first | rfl | simp
@[simp] theorem State.enterStopping_csa (s : State) (m : MoverId) (reason : StopReason) (mark : Option Dir) :
    (s.enterStopping m reason mark).csa = s.csa := by
  unfold State.enterStopping; try dsimp only
  (repeat' split) <;> first | rfl | simp
@[simp] theorem State.enterStopping_fcl (s : State) (m : MoverId) (reason : StopReason) (mark : Option Dir) :
    (s.enterStopping m reason mark).fcl = s.fcl := by
  unfold State.enterStopping; try dsimp only
  (repeat' split) <;> first | rfl | simp
@[simp] theorem State.enterStopping_pending (s : State) (m : MoverId) (reason : StopReason) (mark : Option Dir) :
    (s.enterStopping m reason mark).pending = s.pending := by
  unfold State.enterStopping; try dsimp only
  (repeat' split) <;> first | rfl | simp

@[simp] theorem State.enterLocking_now (s : State) (m : MoverId) (code : RefusalCode) :
    (s.enterLocking m code).now = s.now := by
  unfold State.enterLocking; try dsimp only
  (repeat' split) <;> first | rfl | simp
@[simp] theorem State.enterLocking_suc (s : State) (m : MoverId) (code : RefusalCode) :
    (s.enterLocking m code).suc = s.suc := by
  unfold State.enterLocking; try dsimp only
  (repeat' split) <;> first | rfl | simp
@[simp] theorem State.enterLocking_cfg (s : State) (m : MoverId) (code : RefusalCode) :
    (s.enterLocking m code).cfg = s.cfg := by
  unfold State.enterLocking; try dsimp only
  (repeat' split) <;> first | rfl | simp
@[simp] theorem State.enterLocking_liu (s : State) (m : MoverId) (code : RefusalCode) :
    (s.enterLocking m code).liu = s.liu := by
  unfold State.enterLocking; try dsimp only
  (repeat' split) <;> first | rfl | simp
@[simp] theorem State.enterLocking_ptu (s : State) (m : MoverId) (code : RefusalCode) :
    (s.enterLocking m code).ptu = s.ptu := by
  unfold State.enterLocking; try dsimp only
  (repeat' split) <;> first | rfl | simp
@[simp] theorem State.enterLocking_lcu (s : State) (m : MoverId) (code : RefusalCode) :
    (s.enterLocking m code).lcu = s.lcu := by
  unfold State.enterLocking; try dsimp only
  (repeat' split) <;> first | rfl | simp
@[simp] theorem State.enterLocking_fpr (s : State) (m : MoverId) (code : RefusalCode) :
    (s.enterLocking m code).fpr = s.fpr := by
  unfold State.enterLocking; try dsimp only
  (repeat' split) <;> first | rfl | simp
@[simp] theorem State.enterLocking_ktu (s : State) (m : MoverId) (code : RefusalCode) :
    (s.enterLocking m code).ktu = s.ktu := by
  unfold State.enterLocking; try dsimp only
  (repeat' split) <;> first | rfl | simp
@[simp] theorem State.enterLocking_csa (s : State) (m : MoverId) (code : RefusalCode) :
    (s.enterLocking m code).csa = s.csa := by
  unfold State.enterLocking; try dsimp only
  (repeat' split) <;> first | rfl | simp
@[simp] theorem State.enterLocking_fcl (s : State) (m : MoverId) (code : RefusalCode) :
    (s.enterLocking m code).fcl = s.fcl := by
  unfold State.enterLocking; try dsimp only
  (repeat' split) <;> first | rfl | simp
@[simp] theorem State.enterLocking_pending (s : State) (m : MoverId) (code : RefusalCode) :
    (s.enterLocking m code).pending = s.pending := by
  unfold State.enterLocking; try dsimp only
  (repeat' split) <;> first | rfl | simp

@[simp] theorem State.enterRequesting_now (s : State) (m : MoverId) (src : Nat) (d : Dir) :
    (s.enterRequesting m src d).now = s.now := by
  unfold State.enterRequesting; try dsimp only
  (repeat' split) <;> first | rfl | simp
@[simp] theorem State.enterRequesting_suc (s : State) (m : MoverId) (src : Nat) (d : Dir) :
    (s.enterRequesting m src d).suc = s.suc := by
  unfold State.enterRequesting; try dsimp only
  (repeat' split) <;> first | rfl | simp
@[simp] theorem State.enterRequesting_cfg (s : State) (m : MoverId) (src : Nat) (d : Dir) :
    (s.enterRequesting m src d).cfg = s.cfg := by
  unfold State.enterRequesting; try dsimp only
  (repeat' split) <;> first | rfl | simp
@[simp] theorem State.enterRequesting_liu (s : State) (m : MoverId) (src : Nat) (d : Dir) :
    (s.enterRequesting m src d).liu = s.liu := by
  unfold State.enterRequesting; try dsimp only
  (repeat' split) <;> first | rfl | simp
@[simp] theorem State.enterRequesting_ptu (s : State) (m : MoverId) (src : Nat) (d : Dir) :
    (s.enterRequesting m src d).ptu = s.ptu := by
  unfold State.enterRequesting; try dsimp only
  (repeat' split) <;> first | rfl | simp
@[simp] theorem State.enterRequesting_lcu (s : State) (m : MoverId) (src : Nat) (d : Dir) :
    (s.enterRequesting m src d).lcu = s.lcu := by
  unfold State.enterRequesting; try dsimp only
  (repeat' split) <;> first | rfl | simp
@[simp] theorem State.enterRequesting_fpr (s : State) (m : MoverId) (src : Nat) (d : Dir) :
    (s.enterRequesting m src d).fpr = s.fpr := by
  unfold State.enterRequesting; try dsimp only
  (repeat' split) <;> first | rfl | simp
@[simp] theorem State.enterRequesting_ktu (s : State) (m : MoverId) (src : Nat) (d : Dir) :
    (s.enterRequesting m src d).ktu = s.ktu := by
  unfold State.enterRequesting; try dsimp only
  (repeat' split) <;> first | rfl | simp
@[simp] theorem State.enterRequesting_csa (s : State) (m : MoverId) (src : Nat) (d : Dir) :
    (s.enterRequesting m src d).csa = s.csa := by
  unfold State.enterRequesting; try dsimp only
  (repeat' split) <;> first | rfl | simp
@[simp] theorem State.enterRequesting_fcl (s : State) (m : MoverId) (src : Nat) (d : Dir) :
    (s.enterRequesting m src d).fcl = s.fcl := by
  unfold State.enterRequesting; try dsimp only
  (repeat' split) <;> first | rfl | simp
@[simp] theorem State.enterRequesting_pending (s : State) (m : MoverId) (src : Nat) (d : Dir) :
    (s.enterRequesting m src d).pending = s.pending := by
  unfold State.enterRequesting; try dsimp only
  (repeat' split) <;> first | rfl | simp

@[simp] theorem State.react_now (s : State) (m : MoverId) : (s.react m).now = s.now := by
  unfold State.react; try dsimp only
  (repeat' split) <;> first | rfl | simp
@[simp] theorem State.react_suc (s : State) (m : MoverId) : (s.react m).suc = s.suc := by
  unfold State.react; try dsimp only
  (repeat' split) <;> first | rfl | simp
@[simp] theorem State.react_cfg (s : State) (m : MoverId) : (s.react m).cfg = s.cfg := by
  unfold State.react; try dsimp only
  (repeat' split) <;> first | rfl | simp
@[simp] theorem State.react_liu (s : State) (m : MoverId) : (s.react m).liu = s.liu := by
  unfold State.react; try dsimp only
  (repeat' split) <;> first | rfl | simp
@[simp] theorem State.react_ptu (s : State) (m : MoverId) : (s.react m).ptu = s.ptu := by
  unfold State.react; try dsimp only
  (repeat' split) <;> first | rfl | simp
@[simp] theorem State.react_lcu (s : State) (m : MoverId) : (s.react m).lcu = s.lcu := by
  unfold State.react; try dsimp only
  (repeat' split) <;> first | rfl | simp
@[simp] theorem State.react_fpr (s : State) (m : MoverId) : (s.react m).fpr = s.fpr := by
  unfold State.react; try dsimp only
  (repeat' split) <;> first | rfl | simp
@[simp] theorem State.react_ktu (s : State) (m : MoverId) : (s.react m).ktu = s.ktu := by
  unfold State.react; try dsimp only
  (repeat' split) <;> first | rfl | simp
@[simp] theorem State.react_csa (s : State) (m : MoverId) : (s.react m).csa = s.csa := by
  unfold State.react; try dsimp only
  (repeat' split) <;> first | rfl | simp
@[simp] theorem State.react_fcl (s : State) (m : MoverId) : (s.react m).fcl = s.fcl := by
  unfold State.react; try dsimp only
  (repeat' split) <;> first | rfl | simp
@[simp] theorem State.react_pending (s : State) (m : MoverId) : (s.react m).pending = s.pending := by
  unfold State.react; try dsimp only
  (repeat' split) <;> first | rfl | simp

@[simp] theorem State.reactAll_now (s : State) : (s.reactAll).now = s.now := by
  unfold State.reactAll; try dsimp only
  (repeat' split) <;> first | rfl | simp
@[simp] theorem State.reactAll_suc (s : State) : (s.reactAll).suc = s.suc := by
  unfold State.reactAll; try dsimp only
  (repeat' split) <;> first | rfl | simp
@[simp] theorem State.reactAll_cfg (s : State) : (s.reactAll).cfg = s.cfg := by
  unfold State.reactAll; try dsimp only
  (repeat' split) <;> first | rfl | simp
@[simp] theorem State.reactAll_liu (s : State) : (s.reactAll).liu = s.liu := by
  unfold State.reactAll; try dsimp only
  (repeat' split) <;> first | rfl | simp
@[simp] theorem State.reactAll_ptu (s : State) : (s.reactAll).ptu = s.ptu := by
  unfold State.reactAll; try dsimp only
  (repeat' split) <;> first | rfl | simp
@[simp] theorem State.reactAll_lcu (s : State) : (s.reactAll).lcu = s.lcu := by
  unfold State.reactAll; try dsimp only
  (repeat' split) <;> first | rfl | simp
@[simp] theorem State.reactAll_fpr (s : State) : (s.reactAll).fpr = s.fpr := by
  unfold State.reactAll; try dsimp only
  (repeat' split) <;> first | rfl | simp
@[simp] theorem State.reactAll_ktu (s : State) : (s.reactAll).ktu = s.ktu := by
  unfold State.reactAll; try dsimp only
  (repeat' split) <;> first | rfl | simp
@[simp] theorem State.reactAll_csa (s : State) : (s.reactAll).csa = s.csa := by
  unfold State.reactAll; try dsimp only
  (repeat' split) <;> first | rfl | simp
@[simp] theorem State.reactAll_fcl (s : State) : (s.reactAll).fcl = s.fcl := by
  unfold State.reactAll; try dsimp only
  (repeat' split) <;> first | rfl | simp
@[simp] theorem State.reactAll_pending (s : State) : (s.reactAll).pending = s.pending := by
  unfold State.reactAll; try dsimp only
  (repeat' split) <;> first | rfl | simp

@[simp] theorem State.reexamine_now (s : State) : (s.reexamine).now = s.now := by
  unfold State.reexamine; try dsimp only
  (repeat' split) <;> first | rfl | simp
@[simp] theorem State.reexamine_suc (s : State) : (s.reexamine).suc = s.suc := by
  unfold State.reexamine; try dsimp only
  (repeat' split) <;> first | rfl | simp
@[simp] theorem State.reexamine_cfg (s : State) : (s.reexamine).cfg = s.cfg := by
  unfold State.reexamine; try dsimp only
  (repeat' split) <;> first | rfl | simp
@[simp] theorem State.reexamine_liu (s : State) : (s.reexamine).liu = s.liu := by
  unfold State.reexamine; try dsimp only
  (repeat' split) <;> first | rfl | simp
@[simp] theorem State.reexamine_ptu (s : State) : (s.reexamine).ptu = s.ptu := by
  unfold State.reexamine; try dsimp only
  (repeat' split) <;> first | rfl | simp
@[simp] theorem State.reexamine_lcu (s : State) : (s.reexamine).lcu = s.lcu := by
  unfold State.reexamine; try dsimp only
  (repeat' split) <;> first | rfl | simp
@[simp] theorem State.reexamine_fpr (s : State) : (s.reexamine).fpr = s.fpr := by
  unfold State.reexamine; try dsimp only
  (repeat' split) <;> first | rfl | simp
@[simp] theorem State.reexamine_ktu (s : State) : (s.reexamine).ktu = s.ktu := by
  unfold State.reexamine; try dsimp only
  (repeat' split) <;> first | rfl | simp
@[simp] theorem State.reexamine_csa (s : State) : (s.reexamine).csa = s.csa := by
  unfold State.reexamine; try dsimp only
  (repeat' split) <;> first | rfl | simp
@[simp] theorem State.reexamine_fcl (s : State) : (s.reexamine).fcl = s.fcl := by
  unfold State.reexamine; try dsimp only
  (repeat' split) <;> first | rfl | simp
@[simp] theorem State.reexamine_pending (s : State) : (s.reexamine).pending = s.pending := by
  unfold State.reexamine; try dsimp only
  (repeat' split) <;> first | rfl | simp

@[simp] theorem State.tickMover_now (s : State) (m : MoverId) : (s.tickMover m).now = s.now := by
  unfold State.tickMover; try dsimp only
  (repeat' split) <;> first | rfl | simp
@[simp] theorem State.tickMover_suc (s : State) (m : MoverId) : (s.tickMover m).suc = s.suc := by
  unfold State.tickMover; try dsimp only
  (repeat' split) <;> first | rfl | simp
@[simp] theorem State.tickMover_cfg (s : State) (m : MoverId) : (s.tickMover m).cfg = s.cfg := by
  unfold State.tickMover; try dsimp only
  (repeat' split) <;> first | rfl | simp
@[simp] theorem State.tickMover_liu (s : State) (m : MoverId) : (s.tickMover m).liu = s.liu := by
  unfold State.tickMover; try dsimp only
  (repeat' split) <;> first | rfl | simp
@[simp] theorem State.tickMover_ptu (s : State) (m : MoverId) : (s.tickMover m).ptu = s.ptu := by
  unfold State.tickMover; try dsimp only
  (repeat' split) <;> first | rfl | simp
@[simp] theorem State.tickMover_lcu (s : State) (m : MoverId) : (s.tickMover m).lcu = s.lcu := by
  unfold State.tickMover; try dsimp only
  (repeat' split) <;> first | rfl | simp
@[simp] theorem State.tickMover_fpr (s : State) (m : MoverId) : (s.tickMover m).fpr = s.fpr := by
  unfold State.tickMover; try dsimp only
  (repeat' split) <;> first | rfl | simp
@[simp] theorem State.tickMover_ktu (s : State) (m : MoverId) : (s.tickMover m).ktu = s.ktu := by
  unfold State.tickMover; try dsimp only
  (repeat' split) <;> first | rfl | simp
@[simp] theorem State.tickMover_csa (s : State) (m : MoverId) : (s.tickMover m).csa = s.csa := by
  unfold State.tickMover; try dsimp only
  (repeat' split) <;> first | rfl | simp
@[simp] theorem State.tickMover_fcl (s : State) (m : MoverId) : (s.tickMover m).fcl = s.fcl := by
  unfold State.tickMover; try dsimp only
  (repeat' split) <;> first | rfl | simp
@[simp] theorem State.tickMover_pending (s : State) (m : MoverId) : (s.tickMover m).pending = s.pending := by
  unfold State.tickMover; try dsimp only
  (repeat' split) <;> first | rfl | simp

@[simp] theorem State.reachEnd_now (s : State) (m : MoverId) : (s.reachEnd m).now = s.now := by
  unfold State.reachEnd; try dsimp only
  (repeat' split) <;> first | rfl | simp
@[simp] theorem State.reachEnd_suc (s : State) (m : MoverId) : (s.reachEnd m).suc = s.suc := by
  unfold State.reachEnd; try dsimp only
  (repeat' split) <;> first | rfl | simp
@[simp] theorem State.reachEnd_cfg (s : State) (m : MoverId) : (s.reachEnd m).cfg = s.cfg := by
  unfold State.reachEnd; try dsimp only
  (repeat' split) <;> first | rfl | simp
@[simp] theorem State.reachEnd_liu (s : State) (m : MoverId) : (s.reachEnd m).liu = s.liu := by
  unfold State.reachEnd; try dsimp only
  (repeat' split) <;> first | rfl | simp
@[simp] theorem State.reachEnd_ptu (s : State) (m : MoverId) : (s.reachEnd m).ptu = s.ptu := by
  unfold State.reachEnd; try dsimp only
  (repeat' split) <;> first | rfl | simp
@[simp] theorem State.reachEnd_lcu (s : State) (m : MoverId) : (s.reachEnd m).lcu = s.lcu := by
  unfold State.reachEnd; try dsimp only
  (repeat' split) <;> first | rfl | simp
@[simp] theorem State.reachEnd_fpr (s : State) (m : MoverId) : (s.reachEnd m).fpr = s.fpr := by
  unfold State.reachEnd; try dsimp only
  (repeat' split) <;> first | rfl | simp
@[simp] theorem State.reachEnd_ktu (s : State) (m : MoverId) : (s.reachEnd m).ktu = s.ktu := by
  unfold State.reachEnd; try dsimp only
  (repeat' split) <;> first | rfl | simp
@[simp] theorem State.reachEnd_csa (s : State) (m : MoverId) : (s.reachEnd m).csa = s.csa := by
  unfold State.reachEnd; try dsimp only
  (repeat' split) <;> first | rfl | simp
@[simp] theorem State.reachEnd_fcl (s : State) (m : MoverId) : (s.reachEnd m).fcl = s.fcl := by
  unfold State.reachEnd; try dsimp only
  (repeat' split) <;> first | rfl | simp
@[simp] theorem State.reachEnd_pending (s : State) (m : MoverId) : (s.reachEnd m).pending = s.pending := by
  unfold State.reachEnd; try dsimp only
  (repeat' split) <;> first | rfl | simp

@[simp] theorem State.fitnessStop_now (s : State) (m : MoverId) : (s.fitnessStop m).now = s.now := by
  unfold State.fitnessStop; try dsimp only
  (repeat' split) <;> first | rfl | simp
@[simp] theorem State.fitnessStop_suc (s : State) (m : MoverId) : (s.fitnessStop m).suc = s.suc := by
  unfold State.fitnessStop; try dsimp only
  (repeat' split) <;> first | rfl | simp
@[simp] theorem State.fitnessStop_cfg (s : State) (m : MoverId) : (s.fitnessStop m).cfg = s.cfg := by
  unfold State.fitnessStop; try dsimp only
  (repeat' split) <;> first | rfl | simp
@[simp] theorem State.fitnessStop_liu (s : State) (m : MoverId) : (s.fitnessStop m).liu = s.liu := by
  unfold State.fitnessStop; try dsimp only
  (repeat' split) <;> first | rfl | simp
@[simp] theorem State.fitnessStop_ptu (s : State) (m : MoverId) : (s.fitnessStop m).ptu = s.ptu := by
  unfold State.fitnessStop; try dsimp only
  (repeat' split) <;> first | rfl | simp
@[simp] theorem State.fitnessStop_lcu (s : State) (m : MoverId) : (s.fitnessStop m).lcu = s.lcu := by
  unfold State.fitnessStop; try dsimp only
  (repeat' split) <;> first | rfl | simp
@[simp] theorem State.fitnessStop_fpr (s : State) (m : MoverId) : (s.fitnessStop m).fpr = s.fpr := by
  unfold State.fitnessStop; try dsimp only
  (repeat' split) <;> first | rfl | simp
@[simp] theorem State.fitnessStop_ktu (s : State) (m : MoverId) : (s.fitnessStop m).ktu = s.ktu := by
  unfold State.fitnessStop; try dsimp only
  (repeat' split) <;> first | rfl | simp
@[simp] theorem State.fitnessStop_csa (s : State) (m : MoverId) : (s.fitnessStop m).csa = s.csa := by
  unfold State.fitnessStop; try dsimp only
  (repeat' split) <;> first | rfl | simp
@[simp] theorem State.fitnessStop_fcl (s : State) (m : MoverId) : (s.fitnessStop m).fcl = s.fcl := by
  unfold State.fitnessStop; try dsimp only
  (repeat' split) <;> first | rfl | simp
@[simp] theorem State.fitnessStop_pending (s : State) (m : MoverId) : (s.fitnessStop m).pending = s.pending := by
  unfold State.fitnessStop; try dsimp only
  (repeat' split) <;> first | rfl | simp

@[simp] theorem State.standbyStop_now (s : State) (m : MoverId) : (s.standbyStop m).now = s.now := by
  unfold State.standbyStop; try dsimp only
  (repeat' split) <;> first | rfl | simp
@[simp] theorem State.standbyStop_suc (s : State) (m : MoverId) : (s.standbyStop m).suc = s.suc := by
  unfold State.standbyStop; try dsimp only
  (repeat' split) <;> first | rfl | simp
@[simp] theorem State.standbyStop_cfg (s : State) (m : MoverId) : (s.standbyStop m).cfg = s.cfg := by
  unfold State.standbyStop; try dsimp only
  (repeat' split) <;> first | rfl | simp
@[simp] theorem State.standbyStop_liu (s : State) (m : MoverId) : (s.standbyStop m).liu = s.liu := by
  unfold State.standbyStop; try dsimp only
  (repeat' split) <;> first | rfl | simp
@[simp] theorem State.standbyStop_ptu (s : State) (m : MoverId) : (s.standbyStop m).ptu = s.ptu := by
  unfold State.standbyStop; try dsimp only
  (repeat' split) <;> first | rfl | simp
@[simp] theorem State.standbyStop_lcu (s : State) (m : MoverId) : (s.standbyStop m).lcu = s.lcu := by
  unfold State.standbyStop; try dsimp only
  (repeat' split) <;> first | rfl | simp
@[simp] theorem State.standbyStop_fpr (s : State) (m : MoverId) : (s.standbyStop m).fpr = s.fpr := by
  unfold State.standbyStop; try dsimp only
  (repeat' split) <;> first | rfl | simp
@[simp] theorem State.standbyStop_ktu (s : State) (m : MoverId) : (s.standbyStop m).ktu = s.ktu := by
  unfold State.standbyStop; try dsimp only
  (repeat' split) <;> first | rfl | simp
@[simp] theorem State.standbyStop_csa (s : State) (m : MoverId) : (s.standbyStop m).csa = s.csa := by
  unfold State.standbyStop; try dsimp only
  (repeat' split) <;> first | rfl | simp
@[simp] theorem State.standbyStop_fcl (s : State) (m : MoverId) : (s.standbyStop m).fcl = s.fcl := by
  unfold State.standbyStop; try dsimp only
  (repeat' split) <;> first | rfl | simp
@[simp] theorem State.standbyStop_pending (s : State) (m : MoverId) : (s.standbyStop m).pending = s.pending := by
  unfold State.standbyStop; try dsimp only
  (repeat' split) <;> first | rfl | simp

@[simp] theorem State.refuseDrive_now (s : State) (m : MoverId) (code : RefusalCode) :
    (s.refuseDrive m code).now = s.now := by
  unfold State.refuseDrive; try dsimp only
  (repeat' split) <;> first | rfl | simp
@[simp] theorem State.refuseDrive_suc (s : State) (m : MoverId) (code : RefusalCode) :
    (s.refuseDrive m code).suc = s.suc := by
  unfold State.refuseDrive; try dsimp only
  (repeat' split) <;> first | rfl | simp
@[simp] theorem State.refuseDrive_cfg (s : State) (m : MoverId) (code : RefusalCode) :
    (s.refuseDrive m code).cfg = s.cfg := by
  unfold State.refuseDrive; try dsimp only
  (repeat' split) <;> first | rfl | simp
@[simp] theorem State.refuseDrive_liu (s : State) (m : MoverId) (code : RefusalCode) :
    (s.refuseDrive m code).liu = s.liu := by
  unfold State.refuseDrive; try dsimp only
  (repeat' split) <;> first | rfl | simp
@[simp] theorem State.refuseDrive_ptu (s : State) (m : MoverId) (code : RefusalCode) :
    (s.refuseDrive m code).ptu = s.ptu := by
  unfold State.refuseDrive; try dsimp only
  (repeat' split) <;> first | rfl | simp
@[simp] theorem State.refuseDrive_sbu (s : State) (m : MoverId) (code : RefusalCode) :
    (s.refuseDrive m code).sbu = s.sbu := by
  unfold State.refuseDrive; try dsimp only
  (repeat' split) <;> first | rfl | simp
@[simp] theorem State.refuseDrive_lcu (s : State) (m : MoverId) (code : RefusalCode) :
    (s.refuseDrive m code).lcu = s.lcu := by
  unfold State.refuseDrive; try dsimp only
  (repeat' split) <;> first | rfl | simp
@[simp] theorem State.refuseDrive_zcu (s : State) (m : MoverId) (code : RefusalCode) :
    (s.refuseDrive m code).zcu = s.zcu := by
  unfold State.refuseDrive; try dsimp only
  (repeat' split) <;> first | rfl | simp
@[simp] theorem State.refuseDrive_fpr (s : State) (m : MoverId) (code : RefusalCode) :
    (s.refuseDrive m code).fpr = s.fpr := by
  unfold State.refuseDrive; try dsimp only
  (repeat' split) <;> first | rfl | simp
@[simp] theorem State.refuseDrive_ktu (s : State) (m : MoverId) (code : RefusalCode) :
    (s.refuseDrive m code).ktu = s.ktu := by
  unfold State.refuseDrive; try dsimp only
  (repeat' split) <;> first | rfl | simp
@[simp] theorem State.refuseDrive_csa (s : State) (m : MoverId) (code : RefusalCode) :
    (s.refuseDrive m code).csa = s.csa := by
  unfold State.refuseDrive; try dsimp only
  (repeat' split) <;> first | rfl | simp
@[simp] theorem State.refuseDrive_pending (s : State) (m : MoverId) (code : RefusalCode) :
    (s.refuseDrive m code).pending = s.pending := by
  unfold State.refuseDrive; try dsimp only
  (repeat' split) <;> first | rfl | simp

@[simp] theorem State.turnRequest_now (s : State) (m : MoverId) (d : Dir) : (s.turnRequest m d).now = s.now := by
  unfold State.turnRequest; try dsimp only
  (repeat' split) <;> first | rfl | simp
@[simp] theorem State.turnRequest_suc (s : State) (m : MoverId) (d : Dir) : (s.turnRequest m d).suc = s.suc := by
  unfold State.turnRequest; try dsimp only
  (repeat' split) <;> first | rfl | simp
@[simp] theorem State.turnRequest_cfg (s : State) (m : MoverId) (d : Dir) : (s.turnRequest m d).cfg = s.cfg := by
  unfold State.turnRequest; try dsimp only
  (repeat' split) <;> first | rfl | simp
@[simp] theorem State.turnRequest_liu (s : State) (m : MoverId) (d : Dir) : (s.turnRequest m d).liu = s.liu := by
  unfold State.turnRequest; try dsimp only
  (repeat' split) <;> first | rfl | simp
@[simp] theorem State.turnRequest_ptu (s : State) (m : MoverId) (d : Dir) : (s.turnRequest m d).ptu = s.ptu := by
  unfold State.turnRequest; try dsimp only
  (repeat' split) <;> first | rfl | simp
@[simp] theorem State.turnRequest_lcu (s : State) (m : MoverId) (d : Dir) : (s.turnRequest m d).lcu = s.lcu := by
  unfold State.turnRequest; try dsimp only
  (repeat' split) <;> first | rfl | simp
@[simp] theorem State.turnRequest_fpr (s : State) (m : MoverId) (d : Dir) : (s.turnRequest m d).fpr = s.fpr := by
  unfold State.turnRequest; try dsimp only
  (repeat' split) <;> first | rfl | simp
@[simp] theorem State.turnRequest_ktu (s : State) (m : MoverId) (d : Dir) : (s.turnRequest m d).ktu = s.ktu := by
  unfold State.turnRequest; try dsimp only
  (repeat' split) <;> first | rfl | simp
@[simp] theorem State.turnRequest_csa (s : State) (m : MoverId) (d : Dir) : (s.turnRequest m d).csa = s.csa := by
  unfold State.turnRequest; try dsimp only
  (repeat' split) <;> first | rfl | simp
@[simp] theorem State.turnRequest_fcl (s : State) (m : MoverId) (d : Dir) : (s.turnRequest m d).fcl = s.fcl := by
  unfold State.turnRequest; try dsimp only
  (repeat' split) <;> first | rfl | simp
@[simp] theorem State.turnRequest_pending (s : State) (m : MoverId) (d : Dir) :
    (s.turnRequest m d).pending = s.pending := by
  unfold State.turnRequest; try dsimp only
  (repeat' split) <;> first | rfl | simp

@[simp] theorem State.driveDir_now (s : State) (m : MoverId) (src : Nat) (d : Dir) :
    (s.driveDir m src d).now = s.now := by
  unfold State.driveDir; try dsimp only
  (repeat' split) <;> first | rfl | simp
@[simp] theorem State.driveDir_suc (s : State) (m : MoverId) (src : Nat) (d : Dir) :
    (s.driveDir m src d).suc = s.suc := by
  unfold State.driveDir; try dsimp only
  (repeat' split) <;> first | rfl | simp
@[simp] theorem State.driveDir_cfg (s : State) (m : MoverId) (src : Nat) (d : Dir) :
    (s.driveDir m src d).cfg = s.cfg := by
  unfold State.driveDir; try dsimp only
  (repeat' split) <;> first | rfl | simp
@[simp] theorem State.driveDir_liu (s : State) (m : MoverId) (src : Nat) (d : Dir) :
    (s.driveDir m src d).liu = s.liu := by
  unfold State.driveDir; try dsimp only
  (repeat' split) <;> first | rfl | simp
@[simp] theorem State.driveDir_ptu (s : State) (m : MoverId) (src : Nat) (d : Dir) :
    (s.driveDir m src d).ptu = s.ptu := by
  unfold State.driveDir; try dsimp only
  (repeat' split) <;> first | rfl | simp
@[simp] theorem State.driveDir_lcu (s : State) (m : MoverId) (src : Nat) (d : Dir) :
    (s.driveDir m src d).lcu = s.lcu := by
  unfold State.driveDir; try dsimp only
  (repeat' split) <;> first | rfl | simp
@[simp] theorem State.driveDir_fpr (s : State) (m : MoverId) (src : Nat) (d : Dir) :
    (s.driveDir m src d).fpr = s.fpr := by
  unfold State.driveDir; try dsimp only
  (repeat' split) <;> first | rfl | simp
@[simp] theorem State.driveDir_ktu (s : State) (m : MoverId) (src : Nat) (d : Dir) :
    (s.driveDir m src d).ktu = s.ktu := by
  unfold State.driveDir; try dsimp only
  (repeat' split) <;> first | rfl | simp
@[simp] theorem State.driveDir_csa (s : State) (m : MoverId) (src : Nat) (d : Dir) :
    (s.driveDir m src d).csa = s.csa := by
  unfold State.driveDir; try dsimp only
  (repeat' split) <;> first | rfl | simp
@[simp] theorem State.driveDir_pending (s : State) (m : MoverId) (src : Nat) (d : Dir) :
    (s.driveDir m src d).pending = s.pending := by
  unfold State.driveDir; try dsimp only
  (repeat' split) <;> first | rfl | simp

@[simp] theorem State.setGuard_now (s : State) (m : MoverId) (src : Nat) : (s.setGuard m src).now = s.now := by
  unfold State.setGuard; try dsimp only
  (repeat' split) <;> first | rfl | simp
@[simp] theorem State.setGuard_suc (s : State) (m : MoverId) (src : Nat) : (s.setGuard m src).suc = s.suc := by
  unfold State.setGuard; try dsimp only
  (repeat' split) <;> first | rfl | simp
@[simp] theorem State.setGuard_cfg (s : State) (m : MoverId) (src : Nat) : (s.setGuard m src).cfg = s.cfg := by
  unfold State.setGuard; try dsimp only
  (repeat' split) <;> first | rfl | simp
@[simp] theorem State.setGuard_liu (s : State) (m : MoverId) (src : Nat) : (s.setGuard m src).liu = s.liu := by
  unfold State.setGuard; try dsimp only
  (repeat' split) <;> first | rfl | simp
@[simp] theorem State.setGuard_ptu (s : State) (m : MoverId) (src : Nat) : (s.setGuard m src).ptu = s.ptu := by
  unfold State.setGuard; try dsimp only
  (repeat' split) <;> first | rfl | simp
@[simp] theorem State.setGuard_sbu (s : State) (m : MoverId) (src : Nat) : (s.setGuard m src).sbu = s.sbu := by
  unfold State.setGuard; try dsimp only
  (repeat' split) <;> first | rfl | simp
@[simp] theorem State.setGuard_lcu (s : State) (m : MoverId) (src : Nat) : (s.setGuard m src).lcu = s.lcu := by
  unfold State.setGuard; try dsimp only
  (repeat' split) <;> first | rfl | simp
@[simp] theorem State.setGuard_zcu (s : State) (m : MoverId) (src : Nat) : (s.setGuard m src).zcu = s.zcu := by
  unfold State.setGuard; try dsimp only
  (repeat' split) <;> first | rfl | simp
@[simp] theorem State.setGuard_fpr (s : State) (m : MoverId) (src : Nat) : (s.setGuard m src).fpr = s.fpr := by
  unfold State.setGuard; try dsimp only
  (repeat' split) <;> first | rfl | simp
@[simp] theorem State.setGuard_ktu (s : State) (m : MoverId) (src : Nat) : (s.setGuard m src).ktu = s.ktu := by
  unfold State.setGuard; try dsimp only
  (repeat' split) <;> first | rfl | simp
@[simp] theorem State.setGuard_csa (s : State) (m : MoverId) (src : Nat) : (s.setGuard m src).csa = s.csa := by
  unfold State.setGuard; try dsimp only
  (repeat' split) <;> first | rfl | simp
@[simp] theorem State.setGuard_fcl (s : State) (m : MoverId) (src : Nat) : (s.setGuard m src).fcl = s.fcl := by
  unfold State.setGuard; try dsimp only
  (repeat' split) <;> first | rfl | simp
@[simp] theorem State.setGuard_pending (s : State) (m : MoverId) (src : Nat) :
    (s.setGuard m src).pending = s.pending := by
  unfold State.setGuard; try dsimp only
  (repeat' split) <;> first | rfl | simp

@[simp] theorem State.driveStop_now (s : State) (m : MoverId) (src : Nat) : (s.driveStop m src).now = s.now := by
  unfold State.driveStop; try dsimp only
  (repeat' split) <;> first | rfl | simp
@[simp] theorem State.driveStop_suc (s : State) (m : MoverId) (src : Nat) : (s.driveStop m src).suc = s.suc := by
  unfold State.driveStop; try dsimp only
  (repeat' split) <;> first | rfl | simp
@[simp] theorem State.driveStop_cfg (s : State) (m : MoverId) (src : Nat) : (s.driveStop m src).cfg = s.cfg := by
  unfold State.driveStop; try dsimp only
  (repeat' split) <;> first | rfl | simp
@[simp] theorem State.driveStop_liu (s : State) (m : MoverId) (src : Nat) : (s.driveStop m src).liu = s.liu := by
  unfold State.driveStop; try dsimp only
  (repeat' split) <;> first | rfl | simp
@[simp] theorem State.driveStop_ptu (s : State) (m : MoverId) (src : Nat) : (s.driveStop m src).ptu = s.ptu := by
  unfold State.driveStop; try dsimp only
  (repeat' split) <;> first | rfl | simp
@[simp] theorem State.driveStop_lcu (s : State) (m : MoverId) (src : Nat) : (s.driveStop m src).lcu = s.lcu := by
  unfold State.driveStop; try dsimp only
  (repeat' split) <;> first | rfl | simp
@[simp] theorem State.driveStop_fpr (s : State) (m : MoverId) (src : Nat) : (s.driveStop m src).fpr = s.fpr := by
  unfold State.driveStop; try dsimp only
  (repeat' split) <;> first | rfl | simp
@[simp] theorem State.driveStop_ktu (s : State) (m : MoverId) (src : Nat) : (s.driveStop m src).ktu = s.ktu := by
  unfold State.driveStop; try dsimp only
  (repeat' split) <;> first | rfl | simp
@[simp] theorem State.driveStop_csa (s : State) (m : MoverId) (src : Nat) : (s.driveStop m src).csa = s.csa := by
  unfold State.driveStop; try dsimp only
  (repeat' split) <;> first | rfl | simp
@[simp] theorem State.driveStop_pending (s : State) (m : MoverId) (src : Nat) :
    (s.driveStop m src).pending = s.pending := by
  unfold State.driveStop; try dsimp only
  (repeat' split) <;> first | rfl | simp

@[simp] theorem State.clearFault_now (s : State) (m : MoverId) (r : Mover) : (s.clearFault m r).now = s.now := by
  unfold State.clearFault; try dsimp only
  (repeat' split) <;> first | rfl | simp
@[simp] theorem State.clearFault_suc (s : State) (m : MoverId) (r : Mover) : (s.clearFault m r).suc = s.suc := by
  unfold State.clearFault; try dsimp only
  (repeat' split) <;> first | rfl | simp
@[simp] theorem State.clearFault_cfg (s : State) (m : MoverId) (r : Mover) : (s.clearFault m r).cfg = s.cfg := by
  unfold State.clearFault; try dsimp only
  (repeat' split) <;> first | rfl | simp
@[simp] theorem State.clearFault_liu (s : State) (m : MoverId) (r : Mover) : (s.clearFault m r).liu = s.liu := by
  unfold State.clearFault; try dsimp only
  (repeat' split) <;> first | rfl | simp
@[simp] theorem State.clearFault_ptu (s : State) (m : MoverId) (r : Mover) : (s.clearFault m r).ptu = s.ptu := by
  unfold State.clearFault; try dsimp only
  (repeat' split) <;> first | rfl | simp
@[simp] theorem State.clearFault_sbu (s : State) (m : MoverId) (r : Mover) : (s.clearFault m r).sbu = s.sbu := by
  unfold State.clearFault; try dsimp only
  (repeat' split) <;> first | rfl | simp
@[simp] theorem State.clearFault_lcu (s : State) (m : MoverId) (r : Mover) : (s.clearFault m r).lcu = s.lcu := by
  unfold State.clearFault; try dsimp only
  (repeat' split) <;> first | rfl | simp
@[simp] theorem State.clearFault_zcu (s : State) (m : MoverId) (r : Mover) : (s.clearFault m r).zcu = s.zcu := by
  unfold State.clearFault; try dsimp only
  (repeat' split) <;> first | rfl | simp
@[simp] theorem State.clearFault_fpr (s : State) (m : MoverId) (r : Mover) : (s.clearFault m r).fpr = s.fpr := by
  unfold State.clearFault; try dsimp only
  (repeat' split) <;> first | rfl | simp
@[simp] theorem State.clearFault_ktu (s : State) (m : MoverId) (r : Mover) : (s.clearFault m r).ktu = s.ktu := by
  unfold State.clearFault; try dsimp only
  (repeat' split) <;> first | rfl | simp
@[simp] theorem State.clearFault_csa (s : State) (m : MoverId) (r : Mover) : (s.clearFault m r).csa = s.csa := by
  unfold State.clearFault; try dsimp only
  (repeat' split) <;> first | rfl | simp
@[simp] theorem State.clearFault_pending (s : State) (m : MoverId) (r : Mover) :
    (s.clearFault m r).pending = s.pending := by
  unfold State.clearFault; try dsimp only
  (repeat' split) <;> first | rfl | simp

@[simp] theorem State.driveClear_now (s : State) (m : MoverId) : (s.driveClear m).now = s.now := by
  unfold State.driveClear; try dsimp only
  (repeat' split) <;> first | rfl | simp
@[simp] theorem State.driveClear_suc (s : State) (m : MoverId) : (s.driveClear m).suc = s.suc := by
  unfold State.driveClear; try dsimp only
  (repeat' split) <;> first | rfl | simp
@[simp] theorem State.driveClear_cfg (s : State) (m : MoverId) : (s.driveClear m).cfg = s.cfg := by
  unfold State.driveClear; try dsimp only
  (repeat' split) <;> first | rfl | simp
@[simp] theorem State.driveClear_liu (s : State) (m : MoverId) : (s.driveClear m).liu = s.liu := by
  unfold State.driveClear; try dsimp only
  (repeat' split) <;> first | rfl | simp
@[simp] theorem State.driveClear_ptu (s : State) (m : MoverId) : (s.driveClear m).ptu = s.ptu := by
  unfold State.driveClear; try dsimp only
  (repeat' split) <;> first | rfl | simp
@[simp] theorem State.driveClear_sbu (s : State) (m : MoverId) : (s.driveClear m).sbu = s.sbu := by
  unfold State.driveClear; try dsimp only
  (repeat' split) <;> first | rfl | simp
@[simp] theorem State.driveClear_lcu (s : State) (m : MoverId) : (s.driveClear m).lcu = s.lcu := by
  unfold State.driveClear; try dsimp only
  (repeat' split) <;> first | rfl | simp
@[simp] theorem State.driveClear_zcu (s : State) (m : MoverId) : (s.driveClear m).zcu = s.zcu := by
  unfold State.driveClear; try dsimp only
  (repeat' split) <;> first | rfl | simp
@[simp] theorem State.driveClear_fpr (s : State) (m : MoverId) : (s.driveClear m).fpr = s.fpr := by
  unfold State.driveClear; try dsimp only
  (repeat' split) <;> first | rfl | simp
@[simp] theorem State.driveClear_ktu (s : State) (m : MoverId) : (s.driveClear m).ktu = s.ktu := by
  unfold State.driveClear; try dsimp only
  (repeat' split) <;> first | rfl | simp
@[simp] theorem State.driveClear_csa (s : State) (m : MoverId) : (s.driveClear m).csa = s.csa := by
  unfold State.driveClear; try dsimp only
  (repeat' split) <;> first | rfl | simp
@[simp] theorem State.driveClear_pending (s : State) (m : MoverId) : (s.driveClear m).pending = s.pending := by
  unfold State.driveClear; try dsimp only
  (repeat' split) <;> first | rfl | simp

@[simp] theorem State.deliverDrive_now (s : State) (src : Nat) (m : MoverId) (motion : Motion) :
    (s.deliverDrive src m motion).now = s.now := by
  unfold State.deliverDrive; try dsimp only
  (repeat' split) <;> first | rfl | simp
@[simp] theorem State.deliverDrive_suc (s : State) (src : Nat) (m : MoverId) (motion : Motion) :
    (s.deliverDrive src m motion).suc = s.suc := by
  unfold State.deliverDrive; try dsimp only
  (repeat' split) <;> first | rfl | simp
@[simp] theorem State.deliverDrive_cfg (s : State) (src : Nat) (m : MoverId) (motion : Motion) :
    (s.deliverDrive src m motion).cfg = s.cfg := by
  unfold State.deliverDrive; try dsimp only
  (repeat' split) <;> first | rfl | simp
@[simp] theorem State.deliverDrive_liu (s : State) (src : Nat) (m : MoverId) (motion : Motion) :
    (s.deliverDrive src m motion).liu = s.liu := by
  unfold State.deliverDrive; try dsimp only
  (repeat' split) <;> first | rfl | simp
@[simp] theorem State.deliverDrive_ptu (s : State) (src : Nat) (m : MoverId) (motion : Motion) :
    (s.deliverDrive src m motion).ptu = s.ptu := by
  unfold State.deliverDrive; try dsimp only
  (repeat' split) <;> first | rfl | simp
@[simp] theorem State.deliverDrive_lcu (s : State) (src : Nat) (m : MoverId) (motion : Motion) :
    (s.deliverDrive src m motion).lcu = s.lcu := by
  unfold State.deliverDrive; try dsimp only
  (repeat' split) <;> first | rfl | simp
@[simp] theorem State.deliverDrive_fpr (s : State) (src : Nat) (m : MoverId) (motion : Motion) :
    (s.deliverDrive src m motion).fpr = s.fpr := by
  unfold State.deliverDrive; try dsimp only
  (repeat' split) <;> first | rfl | simp
@[simp] theorem State.deliverDrive_ktu (s : State) (src : Nat) (m : MoverId) (motion : Motion) :
    (s.deliverDrive src m motion).ktu = s.ktu := by
  unfold State.deliverDrive; try dsimp only
  (repeat' split) <;> first | rfl | simp
@[simp] theorem State.deliverDrive_csa (s : State) (src : Nat) (m : MoverId) (motion : Motion) :
    (s.deliverDrive src m motion).csa = s.csa := by
  unfold State.deliverDrive; try dsimp only
  (repeat' split) <;> first | rfl | simp
@[simp] theorem State.deliverDrive_pending (s : State) (src : Nat) (m : MoverId) (motion : Motion) :
    (s.deliverDrive src m motion).pending = s.pending := by
  unfold State.deliverDrive; try dsimp only
  (repeat' split) <;> first | rfl | simp

@[simp] theorem State.holdExpired_now (s : State) (m : MoverId) : (s.holdExpired m).now = s.now := by
  unfold State.holdExpired; try dsimp only
  (repeat' split) <;> first | rfl | simp
@[simp] theorem State.holdExpired_suc (s : State) (m : MoverId) : (s.holdExpired m).suc = s.suc := by
  unfold State.holdExpired; try dsimp only
  (repeat' split) <;> first | rfl | simp
@[simp] theorem State.holdExpired_cfg (s : State) (m : MoverId) : (s.holdExpired m).cfg = s.cfg := by
  unfold State.holdExpired; try dsimp only
  (repeat' split) <;> first | rfl | simp
@[simp] theorem State.holdExpired_liu (s : State) (m : MoverId) : (s.holdExpired m).liu = s.liu := by
  unfold State.holdExpired; try dsimp only
  (repeat' split) <;> first | rfl | simp
@[simp] theorem State.holdExpired_ptu (s : State) (m : MoverId) : (s.holdExpired m).ptu = s.ptu := by
  unfold State.holdExpired; try dsimp only
  (repeat' split) <;> first | rfl | simp
@[simp] theorem State.holdExpired_lcu (s : State) (m : MoverId) : (s.holdExpired m).lcu = s.lcu := by
  unfold State.holdExpired; try dsimp only
  (repeat' split) <;> first | rfl | simp
@[simp] theorem State.holdExpired_fpr (s : State) (m : MoverId) : (s.holdExpired m).fpr = s.fpr := by
  unfold State.holdExpired; try dsimp only
  (repeat' split) <;> first | rfl | simp
@[simp] theorem State.holdExpired_ktu (s : State) (m : MoverId) : (s.holdExpired m).ktu = s.ktu := by
  unfold State.holdExpired; try dsimp only
  (repeat' split) <;> first | rfl | simp
@[simp] theorem State.holdExpired_csa (s : State) (m : MoverId) : (s.holdExpired m).csa = s.csa := by
  unfold State.holdExpired; try dsimp only
  (repeat' split) <;> first | rfl | simp
@[simp] theorem State.holdExpired_fcl (s : State) (m : MoverId) : (s.holdExpired m).fcl = s.fcl := by
  unfold State.holdExpired; try dsimp only
  (repeat' split) <;> first | rfl | simp
@[simp] theorem State.holdExpired_pending (s : State) (m : MoverId) : (s.holdExpired m).pending = s.pending := by
  unfold State.holdExpired; try dsimp only
  (repeat' split) <;> first | rfl | simp

@[simp] theorem State.comeToRest_now (s : State) (m : MoverId) (reason : StopReason) :
    (s.comeToRest m reason).now = s.now := by
  unfold State.comeToRest; try dsimp only
  (repeat' split) <;> first | rfl | simp
@[simp] theorem State.comeToRest_suc (s : State) (m : MoverId) (reason : StopReason) :
    (s.comeToRest m reason).suc = s.suc := by
  unfold State.comeToRest; try dsimp only
  (repeat' split) <;> first | rfl | simp
@[simp] theorem State.comeToRest_cfg (s : State) (m : MoverId) (reason : StopReason) :
    (s.comeToRest m reason).cfg = s.cfg := by
  unfold State.comeToRest; try dsimp only
  (repeat' split) <;> first | rfl | simp
@[simp] theorem State.comeToRest_liu (s : State) (m : MoverId) (reason : StopReason) :
    (s.comeToRest m reason).liu = s.liu := by
  unfold State.comeToRest; try dsimp only
  (repeat' split) <;> first | rfl | simp
@[simp] theorem State.comeToRest_ptu (s : State) (m : MoverId) (reason : StopReason) :
    (s.comeToRest m reason).ptu = s.ptu := by
  unfold State.comeToRest; try dsimp only
  (repeat' split) <;> first | rfl | simp
@[simp] theorem State.comeToRest_lcu (s : State) (m : MoverId) (reason : StopReason) :
    (s.comeToRest m reason).lcu = s.lcu := by
  unfold State.comeToRest; try dsimp only
  (repeat' split) <;> first | rfl | simp
@[simp] theorem State.comeToRest_fpr (s : State) (m : MoverId) (reason : StopReason) :
    (s.comeToRest m reason).fpr = s.fpr := by
  unfold State.comeToRest; try dsimp only
  (repeat' split) <;> first | rfl | simp
@[simp] theorem State.comeToRest_ktu (s : State) (m : MoverId) (reason : StopReason) :
    (s.comeToRest m reason).ktu = s.ktu := by
  unfold State.comeToRest; try dsimp only
  (repeat' split) <;> first | rfl | simp
@[simp] theorem State.comeToRest_csa (s : State) (m : MoverId) (reason : StopReason) :
    (s.comeToRest m reason).csa = s.csa := by
  unfold State.comeToRest; try dsimp only
  (repeat' split) <;> first | rfl | simp
@[simp] theorem State.comeToRest_fcl (s : State) (m : MoverId) (reason : StopReason) :
    (s.comeToRest m reason).fcl = s.fcl := by
  unfold State.comeToRest; try dsimp only
  (repeat' split) <;> first | rfl | simp
@[simp] theorem State.comeToRest_pending (s : State) (m : MoverId) (reason : StopReason) :
    (s.comeToRest m reason).pending = s.pending := by
  unfold State.comeToRest; try dsimp only
  (repeat' split) <;> first | rfl | simp

@[simp] theorem State.dwellOver_now (s : State) (m : MoverId) (r : Mover) : (s.dwellOver m r).now = s.now := by
  unfold State.dwellOver; try dsimp only
  (repeat' split) <;> first | rfl | simp
@[simp] theorem State.dwellOver_suc (s : State) (m : MoverId) (r : Mover) : (s.dwellOver m r).suc = s.suc := by
  unfold State.dwellOver; try dsimp only
  (repeat' split) <;> first | rfl | simp
@[simp] theorem State.dwellOver_cfg (s : State) (m : MoverId) (r : Mover) : (s.dwellOver m r).cfg = s.cfg := by
  unfold State.dwellOver; try dsimp only
  (repeat' split) <;> first | rfl | simp
@[simp] theorem State.dwellOver_liu (s : State) (m : MoverId) (r : Mover) : (s.dwellOver m r).liu = s.liu := by
  unfold State.dwellOver; try dsimp only
  (repeat' split) <;> first | rfl | simp
@[simp] theorem State.dwellOver_ptu (s : State) (m : MoverId) (r : Mover) : (s.dwellOver m r).ptu = s.ptu := by
  unfold State.dwellOver; try dsimp only
  (repeat' split) <;> first | rfl | simp
@[simp] theorem State.dwellOver_lcu (s : State) (m : MoverId) (r : Mover) : (s.dwellOver m r).lcu = s.lcu := by
  unfold State.dwellOver; try dsimp only
  (repeat' split) <;> first | rfl | simp
@[simp] theorem State.dwellOver_fpr (s : State) (m : MoverId) (r : Mover) : (s.dwellOver m r).fpr = s.fpr := by
  unfold State.dwellOver; try dsimp only
  (repeat' split) <;> first | rfl | simp
@[simp] theorem State.dwellOver_ktu (s : State) (m : MoverId) (r : Mover) : (s.dwellOver m r).ktu = s.ktu := by
  unfold State.dwellOver; try dsimp only
  (repeat' split) <;> first | rfl | simp
@[simp] theorem State.dwellOver_csa (s : State) (m : MoverId) (r : Mover) : (s.dwellOver m r).csa = s.csa := by
  unfold State.dwellOver; try dsimp only
  (repeat' split) <;> first | rfl | simp
@[simp] theorem State.dwellOver_fcl (s : State) (m : MoverId) (r : Mover) : (s.dwellOver m r).fcl = s.fcl := by
  unfold State.dwellOver; try dsimp only
  (repeat' split) <;> first | rfl | simp
@[simp] theorem State.dwellOver_pending (s : State) (m : MoverId) (r : Mover) :
    (s.dwellOver m r).pending = s.pending := by
  unfold State.dwellOver; try dsimp only
  (repeat' split) <;> first | rfl | simp

@[simp] theorem State.pulse_now (s : State) (m : MoverId) : (s.pulse m).now = s.now := by
  unfold State.pulse; try dsimp only
  (repeat' split) <;> first | rfl | simp
@[simp] theorem State.pulse_suc (s : State) (m : MoverId) : (s.pulse m).suc = s.suc := by
  unfold State.pulse; try dsimp only
  (repeat' split) <;> first | rfl | simp
@[simp] theorem State.pulse_cfg (s : State) (m : MoverId) : (s.pulse m).cfg = s.cfg := by
  unfold State.pulse; try dsimp only
  (repeat' split) <;> first | rfl | simp
@[simp] theorem State.pulse_liu (s : State) (m : MoverId) : (s.pulse m).liu = s.liu := by
  unfold State.pulse; try dsimp only
  (repeat' split) <;> first | rfl | simp
@[simp] theorem State.pulse_ptu (s : State) (m : MoverId) : (s.pulse m).ptu = s.ptu := by
  unfold State.pulse; try dsimp only
  (repeat' split) <;> first | rfl | simp
@[simp] theorem State.pulse_sbu (s : State) (m : MoverId) : (s.pulse m).sbu = s.sbu := by
  unfold State.pulse; try dsimp only
  (repeat' split) <;> first | rfl | simp
@[simp] theorem State.pulse_lcu (s : State) (m : MoverId) : (s.pulse m).lcu = s.lcu := by
  unfold State.pulse; try dsimp only
  (repeat' split) <;> first | rfl | simp
@[simp] theorem State.pulse_zcu (s : State) (m : MoverId) : (s.pulse m).zcu = s.zcu := by
  unfold State.pulse; try dsimp only
  (repeat' split) <;> first | rfl | simp
@[simp] theorem State.pulse_fpr (s : State) (m : MoverId) : (s.pulse m).fpr = s.fpr := by
  unfold State.pulse; try dsimp only
  (repeat' split) <;> first | rfl | simp
@[simp] theorem State.pulse_ktu (s : State) (m : MoverId) : (s.pulse m).ktu = s.ktu := by
  unfold State.pulse; try dsimp only
  (repeat' split) <;> first | rfl | simp
@[simp] theorem State.pulse_csa (s : State) (m : MoverId) : (s.pulse m).csa = s.csa := by
  unfold State.pulse; try dsimp only
  (repeat' split) <;> first | rfl | simp
@[simp] theorem State.pulse_fcl (s : State) (m : MoverId) : (s.pulse m).fcl = s.fcl := by
  unfold State.pulse; try dsimp only
  (repeat' split) <;> first | rfl | simp
@[simp] theorem State.pulse_pending (s : State) (m : MoverId) : (s.pulse m).pending = s.pending := by
  unfold State.pulse; try dsimp only
  (repeat' split) <;> first | rfl | simp

@[simp] theorem State.countEnd_now (s : State) (m : MoverId) : (s.countEnd m).now = s.now := by
  unfold State.countEnd; try dsimp only
  (repeat' split) <;> first | rfl | simp
@[simp] theorem State.countEnd_suc (s : State) (m : MoverId) : (s.countEnd m).suc = s.suc := by
  unfold State.countEnd; try dsimp only
  (repeat' split) <;> first | rfl | simp
@[simp] theorem State.countEnd_cfg (s : State) (m : MoverId) : (s.countEnd m).cfg = s.cfg := by
  unfold State.countEnd; try dsimp only
  (repeat' split) <;> first | rfl | simp
@[simp] theorem State.countEnd_liu (s : State) (m : MoverId) : (s.countEnd m).liu = s.liu := by
  unfold State.countEnd; try dsimp only
  (repeat' split) <;> first | rfl | simp
@[simp] theorem State.countEnd_ptu (s : State) (m : MoverId) : (s.countEnd m).ptu = s.ptu := by
  unfold State.countEnd; try dsimp only
  (repeat' split) <;> first | rfl | simp
@[simp] theorem State.countEnd_lcu (s : State) (m : MoverId) : (s.countEnd m).lcu = s.lcu := by
  unfold State.countEnd; try dsimp only
  (repeat' split) <;> first | rfl | simp
@[simp] theorem State.countEnd_fpr (s : State) (m : MoverId) : (s.countEnd m).fpr = s.fpr := by
  unfold State.countEnd; try dsimp only
  (repeat' split) <;> first | rfl | simp
@[simp] theorem State.countEnd_ktu (s : State) (m : MoverId) : (s.countEnd m).ktu = s.ktu := by
  unfold State.countEnd; try dsimp only
  (repeat' split) <;> first | rfl | simp
@[simp] theorem State.countEnd_csa (s : State) (m : MoverId) : (s.countEnd m).csa = s.csa := by
  unfold State.countEnd; try dsimp only
  (repeat' split) <;> first | rfl | simp
@[simp] theorem State.countEnd_fcl (s : State) (m : MoverId) : (s.countEnd m).fcl = s.fcl := by
  unfold State.countEnd; try dsimp only
  (repeat' split) <;> first | rfl | simp
@[simp] theorem State.countEnd_pending (s : State) (m : MoverId) : (s.countEnd m).pending = s.pending := by
  unfold State.countEnd; try dsimp only
  (repeat' split) <;> first | rfl | simp

@[simp] theorem State.atHome_now (s : State) (m : MoverId) : (s.atHome m).now = s.now := by
  unfold State.atHome; try dsimp only
  (repeat' split) <;> first | rfl | simp
@[simp] theorem State.atHome_suc (s : State) (m : MoverId) : (s.atHome m).suc = s.suc := by
  unfold State.atHome; try dsimp only
  (repeat' split) <;> first | rfl | simp
@[simp] theorem State.atHome_cfg (s : State) (m : MoverId) : (s.atHome m).cfg = s.cfg := by
  unfold State.atHome; try dsimp only
  (repeat' split) <;> first | rfl | simp
@[simp] theorem State.atHome_liu (s : State) (m : MoverId) : (s.atHome m).liu = s.liu := by
  unfold State.atHome; try dsimp only
  (repeat' split) <;> first | rfl | simp
@[simp] theorem State.atHome_ptu (s : State) (m : MoverId) : (s.atHome m).ptu = s.ptu := by
  unfold State.atHome; try dsimp only
  (repeat' split) <;> first | rfl | simp
@[simp] theorem State.atHome_sbu (s : State) (m : MoverId) : (s.atHome m).sbu = s.sbu := by
  unfold State.atHome; try dsimp only
  (repeat' split) <;> first | rfl | simp
@[simp] theorem State.atHome_lcu (s : State) (m : MoverId) : (s.atHome m).lcu = s.lcu := by
  unfold State.atHome; try dsimp only
  (repeat' split) <;> first | rfl | simp
@[simp] theorem State.atHome_zcu (s : State) (m : MoverId) : (s.atHome m).zcu = s.zcu := by
  unfold State.atHome; try dsimp only
  (repeat' split) <;> first | rfl | simp
@[simp] theorem State.atHome_fpr (s : State) (m : MoverId) : (s.atHome m).fpr = s.fpr := by
  unfold State.atHome; try dsimp only
  (repeat' split) <;> first | rfl | simp
@[simp] theorem State.atHome_ktu (s : State) (m : MoverId) : (s.atHome m).ktu = s.ktu := by
  unfold State.atHome; try dsimp only
  (repeat' split) <;> first | rfl | simp
@[simp] theorem State.atHome_csa (s : State) (m : MoverId) : (s.atHome m).csa = s.csa := by
  unfold State.atHome; try dsimp only
  (repeat' split) <;> first | rfl | simp
@[simp] theorem State.atHome_fcl (s : State) (m : MoverId) : (s.atHome m).fcl = s.fcl := by
  unfold State.atHome; try dsimp only
  (repeat' split) <;> first | rfl | simp
@[simp] theorem State.atHome_pending (s : State) (m : MoverId) : (s.atHome m).pending = s.pending := by
  unfold State.atHome; try dsimp only
  (repeat' split) <;> first | rfl | simp

@[simp] theorem State.moverReading_now (s : State) (m : MoverId) (reading : Nat) :
    (s.moverReading m reading).now = s.now := by
  unfold State.moverReading; try dsimp only
  (repeat' split) <;> first | rfl | simp
@[simp] theorem State.moverReading_suc (s : State) (m : MoverId) (reading : Nat) :
    (s.moverReading m reading).suc = s.suc := by
  unfold State.moverReading; try dsimp only
  (repeat' split) <;> first | rfl | simp
@[simp] theorem State.moverReading_cfg (s : State) (m : MoverId) (reading : Nat) :
    (s.moverReading m reading).cfg = s.cfg := by
  unfold State.moverReading; try dsimp only
  (repeat' split) <;> first | rfl | simp
@[simp] theorem State.moverReading_liu (s : State) (m : MoverId) (reading : Nat) :
    (s.moverReading m reading).liu = s.liu := by
  unfold State.moverReading; try dsimp only
  (repeat' split) <;> first | rfl | simp
@[simp] theorem State.moverReading_ptu (s : State) (m : MoverId) (reading : Nat) :
    (s.moverReading m reading).ptu = s.ptu := by
  unfold State.moverReading; try dsimp only
  (repeat' split) <;> first | rfl | simp
@[simp] theorem State.moverReading_sbu (s : State) (m : MoverId) (reading : Nat) :
    (s.moverReading m reading).sbu = s.sbu := by
  unfold State.moverReading; try dsimp only
  (repeat' split) <;> first | rfl | simp
@[simp] theorem State.moverReading_lcu (s : State) (m : MoverId) (reading : Nat) :
    (s.moverReading m reading).lcu = s.lcu := by
  unfold State.moverReading; try dsimp only
  (repeat' split) <;> first | rfl | simp
@[simp] theorem State.moverReading_zcu (s : State) (m : MoverId) (reading : Nat) :
    (s.moverReading m reading).zcu = s.zcu := by
  unfold State.moverReading; try dsimp only
  (repeat' split) <;> first | rfl | simp
@[simp] theorem State.moverReading_fpr (s : State) (m : MoverId) (reading : Nat) :
    (s.moverReading m reading).fpr = s.fpr := by
  unfold State.moverReading; try dsimp only
  (repeat' split) <;> first | rfl | simp
@[simp] theorem State.moverReading_ktu (s : State) (m : MoverId) (reading : Nat) :
    (s.moverReading m reading).ktu = s.ktu := by
  unfold State.moverReading; try dsimp only
  (repeat' split) <;> first | rfl | simp
@[simp] theorem State.moverReading_csa (s : State) (m : MoverId) (reading : Nat) :
    (s.moverReading m reading).csa = s.csa := by
  unfold State.moverReading; try dsimp only
  (repeat' split) <;> first | rfl | simp
@[simp] theorem State.moverReading_fcl (s : State) (m : MoverId) (reading : Nat) :
    (s.moverReading m reading).fcl = s.fcl := by
  unfold State.moverReading; try dsimp only
  (repeat' split) <;> first | rfl | simp
@[simp] theorem State.moverReading_pending (s : State) (m : MoverId) (reading : Nat) :
    (s.moverReading m reading).pending = s.pending := by
  unfold State.moverReading; try dsimp only
  (repeat' split) <;> first | rfl | simp

/-! ### The line -/

@[simp] theorem State.compose_now (s : State) : (s.compose).now = s.now := by
  unfold State.compose; try dsimp only
  (repeat' split) <;> first | rfl | simp
@[simp] theorem State.compose_suc (s : State) : (s.compose).suc = s.suc := by
  unfold State.compose; try dsimp only
  (repeat' split) <;> first | rfl | simp
@[simp] theorem State.compose_cfg (s : State) : (s.compose).cfg = s.cfg := by
  unfold State.compose; try dsimp only
  (repeat' split) <;> first | rfl | simp
@[simp] theorem State.compose_ptu (s : State) : (s.compose).ptu = s.ptu := by
  unfold State.compose; try dsimp only
  (repeat' split) <;> first | rfl | simp
@[simp] theorem State.compose_lcu (s : State) : (s.compose).lcu = s.lcu := by
  unfold State.compose; try dsimp only
  (repeat' split) <;> first | rfl | simp
@[simp] theorem State.compose_zcu (s : State) : (s.compose).zcu = s.zcu := by
  unfold State.compose; try dsimp only
  (repeat' split) <;> first | rfl | simp
@[simp] theorem State.compose_mvu (s : State) : (s.compose).mvu = s.mvu := by
  unfold State.compose; try dsimp only
  (repeat' split) <;> first | rfl | simp
@[simp] theorem State.compose_fpr (s : State) : (s.compose).fpr = s.fpr := by
  unfold State.compose; try dsimp only
  (repeat' split) <;> first | rfl | simp
@[simp] theorem State.compose_ktu (s : State) : (s.compose).ktu = s.ktu := by
  unfold State.compose; try dsimp only
  (repeat' split) <;> first | rfl | simp
@[simp] theorem State.compose_csa (s : State) : (s.compose).csa = s.csa := by
  unfold State.compose; try dsimp only
  (repeat' split) <;> first | rfl | simp
@[simp] theorem State.compose_fcl (s : State) : (s.compose).fcl = s.fcl := by
  unfold State.compose; try dsimp only
  (repeat' split) <;> first | rfl | simp
@[simp] theorem State.compose_pending (s : State) : (s.compose).pending = s.pending := by
  unfold State.compose; try dsimp only
  (repeat' split) <;> first | rfl | simp

@[simp] theorem announceChange_now (s t : State) : (announceChange s t).now = t.now := by
  unfold announceChange; split <;> simp

@[simp] theorem announceChange_suc (s t : State) : (announceChange s t).suc = t.suc := by
  unfold announceChange; split <;> simp

@[simp] theorem announceChange_cfg (s t : State) : (announceChange s t).cfg = t.cfg := by
  unfold announceChange; split <;> simp

@[simp] theorem announceChange_ptu (s t : State) : (announceChange s t).ptu = t.ptu := by
  unfold announceChange; split <;> simp

@[simp] theorem announceChange_lcu (s t : State) : (announceChange s t).lcu = t.lcu := by
  unfold announceChange; split <;> simp

@[simp] theorem announceChange_zcu (s t : State) : (announceChange s t).zcu = t.zcu := by
  unfold announceChange; split <;> simp

@[simp] theorem announceChange_mvu (s t : State) : (announceChange s t).mvu = t.mvu := by
  unfold announceChange; split <;> simp

@[simp] theorem announceChange_fpr (s t : State) : (announceChange s t).fpr = t.fpr := by
  unfold announceChange; split <;> simp

@[simp] theorem announceChange_ktu (s t : State) : (announceChange s t).ktu = t.ktu := by
  unfold announceChange; split <;> simp

@[simp] theorem announceChange_csa (s t : State) : (announceChange s t).csa = t.csa := by
  unfold announceChange; split <;> simp

@[simp] theorem announceChange_fcl (s t : State) : (announceChange s t).fcl = t.fcl := by
  unfold announceChange; split <;> simp

@[simp] theorem announceChange_pending (s t : State) : (announceChange s t).pending = t.pending := by
  unfold announceChange; split <;> simp

@[simp] theorem State.emptyQueue_now (s : State) : (s.emptyQueue).now = s.now := by
  rfl
@[simp] theorem State.emptyQueue_suc (s : State) : (s.emptyQueue).suc = s.suc := by
  rfl
@[simp] theorem State.emptyQueue_cfg (s : State) : (s.emptyQueue).cfg = s.cfg := by
  rfl
@[simp] theorem State.emptyQueue_ptu (s : State) : (s.emptyQueue).ptu = s.ptu := by
  rfl
@[simp] theorem State.emptyQueue_lcu (s : State) : (s.emptyQueue).lcu = s.lcu := by
  rfl
@[simp] theorem State.emptyQueue_zcu (s : State) : (s.emptyQueue).zcu = s.zcu := by
  rfl
@[simp] theorem State.emptyQueue_mvu (s : State) : (s.emptyQueue).mvu = s.mvu := by
  rfl
@[simp] theorem State.emptyQueue_fpr (s : State) : (s.emptyQueue).fpr = s.fpr := by
  rfl
@[simp] theorem State.emptyQueue_ktu (s : State) : (s.emptyQueue).ktu = s.ktu := by
  rfl
@[simp] theorem State.emptyQueue_csa (s : State) : (s.emptyQueue).csa = s.csa := by
  rfl
@[simp] theorem State.emptyQueue_fcl (s : State) : (s.emptyQueue).fcl = s.fcl := by
  rfl
@[simp] theorem State.emptyQueue_pending (s : State) : (s.emptyQueue).pending = s.pending := by
  rfl

@[simp] theorem State.raiseTwin_now (s : State) : (s.raiseTwin).now = s.now := by
  unfold State.raiseTwin; try dsimp only
  (repeat' split) <;> first | rfl | simp
@[simp] theorem State.raiseTwin_suc (s : State) : (s.raiseTwin).suc = s.suc := by
  unfold State.raiseTwin; try dsimp only
  (repeat' split) <;> first | rfl | simp
@[simp] theorem State.raiseTwin_cfg (s : State) : (s.raiseTwin).cfg = s.cfg := by
  unfold State.raiseTwin; try dsimp only
  (repeat' split) <;> first | rfl | simp
@[simp] theorem State.raiseTwin_ptu (s : State) : (s.raiseTwin).ptu = s.ptu := by
  unfold State.raiseTwin; try dsimp only
  (repeat' split) <;> first | rfl | simp
@[simp] theorem State.raiseTwin_lcu (s : State) : (s.raiseTwin).lcu = s.lcu := by
  unfold State.raiseTwin; try dsimp only
  (repeat' split) <;> first | rfl | simp
@[simp] theorem State.raiseTwin_fpr (s : State) : (s.raiseTwin).fpr = s.fpr := by
  unfold State.raiseTwin; try dsimp only
  (repeat' split) <;> first | rfl | simp
@[simp] theorem State.raiseTwin_ktu (s : State) : (s.raiseTwin).ktu = s.ktu := by
  unfold State.raiseTwin; try dsimp only
  (repeat' split) <;> first | rfl | simp
@[simp] theorem State.raiseTwin_csa (s : State) : (s.raiseTwin).csa = s.csa := by
  unfold State.raiseTwin; try dsimp only
  (repeat' split) <;> first | rfl | simp
@[simp] theorem State.raiseTwin_pending (s : State) : (s.raiseTwin).pending = s.pending := by
  unfold State.raiseTwin; try dsimp only
  (repeat' split) <;> first | rfl | simp

@[simp] theorem State.loseFitness_now (s : State) : (s.loseFitness).now = s.now := by
  simp [State.loseFitness, allMovers]
@[simp] theorem State.loseFitness_suc (s : State) : (s.loseFitness).suc = s.suc := by
  simp [State.loseFitness, allMovers]
@[simp] theorem State.loseFitness_cfg (s : State) : (s.loseFitness).cfg = s.cfg := by
  simp [State.loseFitness, allMovers]
@[simp] theorem State.loseFitness_liu (s : State) : (s.loseFitness).liu = s.liu := by
  simp [State.loseFitness, allMovers]
@[simp] theorem State.loseFitness_ptu (s : State) : (s.loseFitness).ptu = s.ptu := by
  simp [State.loseFitness, allMovers]
@[simp] theorem State.loseFitness_lcu (s : State) : (s.loseFitness).lcu = s.lcu := by
  simp [State.loseFitness, allMovers]
@[simp] theorem State.loseFitness_fpr (s : State) : (s.loseFitness).fpr = s.fpr := by
  simp [State.loseFitness, allMovers]
@[simp] theorem State.loseFitness_ktu (s : State) : (s.loseFitness).ktu = s.ktu := by
  simp [State.loseFitness, allMovers]
@[simp] theorem State.loseFitness_csa (s : State) : (s.loseFitness).csa = s.csa := by
  simp [State.loseFitness, allMovers]
@[simp] theorem State.loseFitness_pending (s : State) : (s.loseFitness).pending = s.pending := by
  simp [State.loseFitness, allMovers]

@[simp] theorem State.regainFitness_now (s : State) : (s.regainFitness).now = s.now := by
  simp [State.regainFitness, allMovers]
@[simp] theorem State.regainFitness_suc (s : State) : (s.regainFitness).suc = s.suc := by
  simp [State.regainFitness, allMovers]
@[simp] theorem State.regainFitness_cfg (s : State) : (s.regainFitness).cfg = s.cfg := by
  simp [State.regainFitness, allMovers]
@[simp] theorem State.regainFitness_liu (s : State) : (s.regainFitness).liu = s.liu := by
  simp [State.regainFitness, allMovers]
@[simp] theorem State.regainFitness_ptu (s : State) : (s.regainFitness).ptu = s.ptu := by
  simp [State.regainFitness, allMovers]
@[simp] theorem State.regainFitness_lcu (s : State) : (s.regainFitness).lcu = s.lcu := by
  simp [State.regainFitness, allMovers]
@[simp] theorem State.regainFitness_fpr (s : State) : (s.regainFitness).fpr = s.fpr := by
  simp [State.regainFitness, allMovers]
@[simp] theorem State.regainFitness_ktu (s : State) : (s.regainFitness).ktu = s.ktu := by
  simp [State.regainFitness, allMovers]
@[simp] theorem State.regainFitness_csa (s : State) : (s.regainFitness).csa = s.csa := by
  simp [State.regainFitness, allMovers]
@[simp] theorem State.regainFitness_pending (s : State) : (s.regainFitness).pending = s.pending := by
  simp [State.regainFitness, allMovers]

@[simp] theorem State.judgeFitness_now (s : State) : (s.judgeFitness).now = s.now := by
  unfold State.judgeFitness; try dsimp only
  (repeat' split) <;> first | rfl | simp
@[simp] theorem State.judgeFitness_suc (s : State) : (s.judgeFitness).suc = s.suc := by
  unfold State.judgeFitness; try dsimp only
  (repeat' split) <;> first | rfl | simp
@[simp] theorem State.judgeFitness_cfg (s : State) : (s.judgeFitness).cfg = s.cfg := by
  unfold State.judgeFitness; try dsimp only
  (repeat' split) <;> first | rfl | simp
@[simp] theorem State.judgeFitness_liu (s : State) : (s.judgeFitness).liu = s.liu := by
  unfold State.judgeFitness; try dsimp only
  (repeat' split) <;> first | rfl | simp
@[simp] theorem State.judgeFitness_ptu (s : State) : (s.judgeFitness).ptu = s.ptu := by
  unfold State.judgeFitness; try dsimp only
  (repeat' split) <;> first | rfl | simp
@[simp] theorem State.judgeFitness_lcu (s : State) : (s.judgeFitness).lcu = s.lcu := by
  unfold State.judgeFitness; try dsimp only
  (repeat' split) <;> first | rfl | simp
@[simp] theorem State.judgeFitness_fpr (s : State) : (s.judgeFitness).fpr = s.fpr := by
  unfold State.judgeFitness; try dsimp only
  (repeat' split) <;> first | rfl | simp
@[simp] theorem State.judgeFitness_ktu (s : State) : (s.judgeFitness).ktu = s.ktu := by
  unfold State.judgeFitness; try dsimp only
  (repeat' split) <;> first | rfl | simp
@[simp] theorem State.judgeFitness_csa (s : State) : (s.judgeFitness).csa = s.csa := by
  unfold State.judgeFitness; try dsimp only
  (repeat' split) <;> first | rfl | simp
@[simp] theorem State.judgeFitness_pending (s : State) : (s.judgeFitness).pending = s.pending := by
  unfold State.judgeFitness; try dsimp only
  (repeat' split) <;> first | rfl | simp

@[simp] theorem State.reportPort_now (s : State) (p : PortId) : (s.reportPort p).now = s.now := by
  unfold State.reportPort; try dsimp only
  (repeat' split) <;> first | rfl | simp
@[simp] theorem State.reportPort_suc (s : State) (p : PortId) : (s.reportPort p).suc = s.suc := by
  unfold State.reportPort; try dsimp only
  (repeat' split) <;> first | rfl | simp
@[simp] theorem State.reportPort_cfg (s : State) (p : PortId) : (s.reportPort p).cfg = s.cfg := by
  unfold State.reportPort; try dsimp only
  (repeat' split) <;> first | rfl | simp
@[simp] theorem State.reportPort_liu (s : State) (p : PortId) : (s.reportPort p).liu = s.liu := by
  unfold State.reportPort; try dsimp only
  (repeat' split) <;> first | rfl | simp
@[simp] theorem State.reportPort_ptu (s : State) (p : PortId) : (s.reportPort p).ptu = s.ptu := by
  unfold State.reportPort; try dsimp only
  (repeat' split) <;> first | rfl | simp
@[simp] theorem State.reportPort_sbu (s : State) (p : PortId) : (s.reportPort p).sbu = s.sbu := by
  unfold State.reportPort; try dsimp only
  (repeat' split) <;> first | rfl | simp
@[simp] theorem State.reportPort_lcu (s : State) (p : PortId) : (s.reportPort p).lcu = s.lcu := by
  unfold State.reportPort; try dsimp only
  (repeat' split) <;> first | rfl | simp
@[simp] theorem State.reportPort_zcu (s : State) (p : PortId) : (s.reportPort p).zcu = s.zcu := by
  unfold State.reportPort; try dsimp only
  (repeat' split) <;> first | rfl | simp
@[simp] theorem State.reportPort_mvu (s : State) (p : PortId) : (s.reportPort p).mvu = s.mvu := by
  unfold State.reportPort; try dsimp only
  (repeat' split) <;> first | rfl | simp
@[simp] theorem State.reportPort_fpr (s : State) (p : PortId) : (s.reportPort p).fpr = s.fpr := by
  unfold State.reportPort; try dsimp only
  (repeat' split) <;> first | rfl | simp
@[simp] theorem State.reportPort_ktu (s : State) (p : PortId) : (s.reportPort p).ktu = s.ktu := by
  unfold State.reportPort; try dsimp only
  (repeat' split) <;> first | rfl | simp
@[simp] theorem State.reportPort_csa (s : State) (p : PortId) : (s.reportPort p).csa = s.csa := by
  unfold State.reportPort; try dsimp only
  (repeat' split) <;> first | rfl | simp
@[simp] theorem State.reportPort_pending (s : State) (p : PortId) : (s.reportPort p).pending = s.pending := by
  unfold State.reportPort; try dsimp only
  (repeat' split) <;> first | rfl | simp

@[simp] theorem State.movePort_now (s : State) (p : PortId) (f : Port → Port) : (s.movePort p f).now = s.now := by
  unfold State.movePort; try dsimp only
  (repeat' split) <;> first | rfl | simp
@[simp] theorem State.movePort_suc (s : State) (p : PortId) (f : Port → Port) : (s.movePort p f).suc = s.suc := by
  unfold State.movePort; try dsimp only
  (repeat' split) <;> first | rfl | simp
@[simp] theorem State.movePort_cfg (s : State) (p : PortId) (f : Port → Port) : (s.movePort p f).cfg = s.cfg := by
  unfold State.movePort; try dsimp only
  (repeat' split) <;> first | rfl | simp
@[simp] theorem State.movePort_ptu (s : State) (p : PortId) (f : Port → Port) : (s.movePort p f).ptu = s.ptu := by
  unfold State.movePort; try dsimp only
  (repeat' split) <;> first | rfl | simp
@[simp] theorem State.movePort_lcu (s : State) (p : PortId) (f : Port → Port) : (s.movePort p f).lcu = s.lcu := by
  unfold State.movePort; try dsimp only
  (repeat' split) <;> first | rfl | simp
@[simp] theorem State.movePort_fpr (s : State) (p : PortId) (f : Port → Port) : (s.movePort p f).fpr = s.fpr := by
  unfold State.movePort; try dsimp only
  (repeat' split) <;> first | rfl | simp
@[simp] theorem State.movePort_ktu (s : State) (p : PortId) (f : Port → Port) : (s.movePort p f).ktu = s.ktu := by
  unfold State.movePort; try dsimp only
  (repeat' split) <;> first | rfl | simp
@[simp] theorem State.movePort_csa (s : State) (p : PortId) (f : Port → Port) : (s.movePort p f).csa = s.csa := by
  unfold State.movePort; try dsimp only
  (repeat' split) <;> first | rfl | simp
@[simp] theorem State.movePort_pending (s : State) (p : PortId) (f : Port → Port) :
    (s.movePort p f).pending = s.pending := by
  unfold State.movePort; try dsimp only
  (repeat' split) <;> first | rfl | simp

@[simp] theorem State.startPorts_now (s : State) : (s.startPorts).now = s.now := by
  rfl
@[simp] theorem State.startPorts_suc (s : State) : (s.startPorts).suc = s.suc := by
  rfl
@[simp] theorem State.startPorts_cfg (s : State) : (s.startPorts).cfg = s.cfg := by
  rfl
@[simp] theorem State.startPorts_ptu (s : State) : (s.startPorts).ptu = s.ptu := by
  rfl
@[simp] theorem State.startPorts_sbu (s : State) : (s.startPorts).sbu = s.sbu := by
  rfl
@[simp] theorem State.startPorts_lcu (s : State) : (s.startPorts).lcu = s.lcu := by
  rfl
@[simp] theorem State.startPorts_zcu (s : State) : (s.startPorts).zcu = s.zcu := by
  rfl
@[simp] theorem State.startPorts_mvu (s : State) : (s.startPorts).mvu = s.mvu := by
  rfl
@[simp] theorem State.startPorts_fpr (s : State) : (s.startPorts).fpr = s.fpr := by
  rfl
@[simp] theorem State.startPorts_ktu (s : State) : (s.startPorts).ktu = s.ktu := by
  rfl
@[simp] theorem State.startPorts_csa (s : State) : (s.startPorts).csa = s.csa := by
  rfl
@[simp] theorem State.startPorts_fcl (s : State) : (s.startPorts).fcl = s.fcl := by
  rfl
@[simp] theorem State.startPorts_pending (s : State) : (s.startPorts).pending = s.pending := by
  rfl

@[simp] theorem State.judgeDepartures_now (s : State) : (s.judgeDepartures).now = s.now := by
  rfl
@[simp] theorem State.judgeDepartures_suc (s : State) : (s.judgeDepartures).suc = s.suc := by
  rfl
@[simp] theorem State.judgeDepartures_cfg (s : State) : (s.judgeDepartures).cfg = s.cfg := by
  rfl
@[simp] theorem State.judgeDepartures_ptu (s : State) : (s.judgeDepartures).ptu = s.ptu := by
  rfl
@[simp] theorem State.judgeDepartures_sbu (s : State) : (s.judgeDepartures).sbu = s.sbu := by
  rfl
@[simp] theorem State.judgeDepartures_lcu (s : State) : (s.judgeDepartures).lcu = s.lcu := by
  rfl
@[simp] theorem State.judgeDepartures_zcu (s : State) : (s.judgeDepartures).zcu = s.zcu := by
  rfl
@[simp] theorem State.judgeDepartures_mvu (s : State) : (s.judgeDepartures).mvu = s.mvu := by
  rfl
@[simp] theorem State.judgeDepartures_fpr (s : State) : (s.judgeDepartures).fpr = s.fpr := by
  rfl
@[simp] theorem State.judgeDepartures_ktu (s : State) : (s.judgeDepartures).ktu = s.ktu := by
  rfl
@[simp] theorem State.judgeDepartures_csa (s : State) : (s.judgeDepartures).csa = s.csa := by
  rfl
@[simp] theorem State.judgeDepartures_fcl (s : State) : (s.judgeDepartures).fcl = s.fcl := by
  rfl
@[simp] theorem State.judgeDepartures_pending (s : State) : (s.judgeDepartures).pending = s.pending := by
  rfl

@[simp] theorem State.onQueued_now (s : State) (serial : Nat) (f : Queued → Queued) :
    (s.onQueued serial f).now = s.now := by
  rfl
@[simp] theorem State.onQueued_suc (s : State) (serial : Nat) (f : Queued → Queued) :
    (s.onQueued serial f).suc = s.suc := by
  rfl
@[simp] theorem State.onQueued_cfg (s : State) (serial : Nat) (f : Queued → Queued) :
    (s.onQueued serial f).cfg = s.cfg := by
  rfl
@[simp] theorem State.onQueued_ptu (s : State) (serial : Nat) (f : Queued → Queued) :
    (s.onQueued serial f).ptu = s.ptu := by
  rfl
@[simp] theorem State.onQueued_sbu (s : State) (serial : Nat) (f : Queued → Queued) :
    (s.onQueued serial f).sbu = s.sbu := by
  rfl
@[simp] theorem State.onQueued_lcu (s : State) (serial : Nat) (f : Queued → Queued) :
    (s.onQueued serial f).lcu = s.lcu := by
  rfl
@[simp] theorem State.onQueued_zcu (s : State) (serial : Nat) (f : Queued → Queued) :
    (s.onQueued serial f).zcu = s.zcu := by
  rfl
@[simp] theorem State.onQueued_mvu (s : State) (serial : Nat) (f : Queued → Queued) :
    (s.onQueued serial f).mvu = s.mvu := by
  rfl
@[simp] theorem State.onQueued_fpr (s : State) (serial : Nat) (f : Queued → Queued) :
    (s.onQueued serial f).fpr = s.fpr := by
  rfl
@[simp] theorem State.onQueued_ktu (s : State) (serial : Nat) (f : Queued → Queued) :
    (s.onQueued serial f).ktu = s.ktu := by
  rfl
@[simp] theorem State.onQueued_csa (s : State) (serial : Nat) (f : Queued → Queued) :
    (s.onQueued serial f).csa = s.csa := by
  rfl
@[simp] theorem State.onQueued_fcl (s : State) (serial : Nat) (f : Queued → Queued) :
    (s.onQueued serial f).fcl = s.fcl := by
  rfl
@[simp] theorem State.onQueued_pending (s : State) (serial : Nat) (f : Queued → Queued) :
    (s.onQueued serial f).pending = s.pending := by
  rfl

@[simp] theorem State.completeFrame_now (s : State) (p : PortId) (a : Attempt) :
    (s.completeFrame p a).now = s.now := by
  unfold State.completeFrame; try dsimp only
  (repeat' split) <;> first | rfl | simp
@[simp] theorem State.completeFrame_suc (s : State) (p : PortId) (a : Attempt) :
    (s.completeFrame p a).suc = s.suc := by
  unfold State.completeFrame; try dsimp only
  (repeat' split) <;> first | rfl | simp
@[simp] theorem State.completeFrame_cfg (s : State) (p : PortId) (a : Attempt) :
    (s.completeFrame p a).cfg = s.cfg := by
  unfold State.completeFrame; try dsimp only
  (repeat' split) <;> first | rfl | simp
@[simp] theorem State.completeFrame_ptu (s : State) (p : PortId) (a : Attempt) :
    (s.completeFrame p a).ptu = s.ptu := by
  unfold State.completeFrame; try dsimp only
  (repeat' split) <;> first | rfl | simp
@[simp] theorem State.completeFrame_lcu (s : State) (p : PortId) (a : Attempt) :
    (s.completeFrame p a).lcu = s.lcu := by
  unfold State.completeFrame; try dsimp only
  (repeat' split) <;> first | rfl | simp
@[simp] theorem State.completeFrame_zcu (s : State) (p : PortId) (a : Attempt) :
    (s.completeFrame p a).zcu = s.zcu := by
  unfold State.completeFrame; try dsimp only
  (repeat' split) <;> first | rfl | simp
@[simp] theorem State.completeFrame_mvu (s : State) (p : PortId) (a : Attempt) :
    (s.completeFrame p a).mvu = s.mvu := by
  unfold State.completeFrame; try dsimp only
  (repeat' split) <;> first | rfl | simp
@[simp] theorem State.completeFrame_fpr (s : State) (p : PortId) (a : Attempt) :
    (s.completeFrame p a).fpr = s.fpr := by
  unfold State.completeFrame; try dsimp only
  (repeat' split) <;> first | rfl | simp
@[simp] theorem State.completeFrame_ktu (s : State) (p : PortId) (a : Attempt) :
    (s.completeFrame p a).ktu = s.ktu := by
  unfold State.completeFrame; try dsimp only
  (repeat' split) <;> first | rfl | simp
@[simp] theorem State.completeFrame_csa (s : State) (p : PortId) (a : Attempt) :
    (s.completeFrame p a).csa = s.csa := by
  unfold State.completeFrame; try dsimp only
  (repeat' split) <;> first | rfl | simp
@[simp] theorem State.completeFrame_fcl (s : State) (p : PortId) (a : Attempt) :
    (s.completeFrame p a).fcl = s.fcl := by
  unfold State.completeFrame; try dsimp only
  (repeat' split) <;> first | rfl | simp
@[simp] theorem State.completeFrame_pending (s : State) (p : PortId) (a : Attempt) :
    (s.completeFrame p a).pending = s.pending := by
  unfold State.completeFrame; try dsimp only
  (repeat' split) <;> first | rfl | simp

@[simp] theorem State.mismatchFrame_now (s : State) (p : PortId) (a : Attempt) :
    (s.mismatchFrame p a).now = s.now := by
  unfold State.mismatchFrame; try dsimp only
  (repeat' split) <;> first | rfl | simp
@[simp] theorem State.mismatchFrame_suc (s : State) (p : PortId) (a : Attempt) :
    (s.mismatchFrame p a).suc = s.suc := by
  unfold State.mismatchFrame; try dsimp only
  (repeat' split) <;> first | rfl | simp
@[simp] theorem State.mismatchFrame_cfg (s : State) (p : PortId) (a : Attempt) :
    (s.mismatchFrame p a).cfg = s.cfg := by
  unfold State.mismatchFrame; try dsimp only
  (repeat' split) <;> first | rfl | simp
@[simp] theorem State.mismatchFrame_ptu (s : State) (p : PortId) (a : Attempt) :
    (s.mismatchFrame p a).ptu = s.ptu := by
  unfold State.mismatchFrame; try dsimp only
  (repeat' split) <;> first | rfl | simp
@[simp] theorem State.mismatchFrame_lcu (s : State) (p : PortId) (a : Attempt) :
    (s.mismatchFrame p a).lcu = s.lcu := by
  unfold State.mismatchFrame; try dsimp only
  (repeat' split) <;> first | rfl | simp
@[simp] theorem State.mismatchFrame_fpr (s : State) (p : PortId) (a : Attempt) :
    (s.mismatchFrame p a).fpr = s.fpr := by
  unfold State.mismatchFrame; try dsimp only
  (repeat' split) <;> first | rfl | simp
@[simp] theorem State.mismatchFrame_ktu (s : State) (p : PortId) (a : Attempt) :
    (s.mismatchFrame p a).ktu = s.ktu := by
  unfold State.mismatchFrame; try dsimp only
  (repeat' split) <;> first | rfl | simp
@[simp] theorem State.mismatchFrame_csa (s : State) (p : PortId) (a : Attempt) :
    (s.mismatchFrame p a).csa = s.csa := by
  unfold State.mismatchFrame; try dsimp only
  (repeat' split) <;> first | rfl | simp
@[simp] theorem State.mismatchFrame_pending (s : State) (p : PortId) (a : Attempt) :
    (s.mismatchFrame p a).pending = s.pending := by
  unfold State.mismatchFrame; try dsimp only
  (repeat' split) <;> first | rfl | simp

@[simp] theorem State.offerFrame_now (s : State) (f : Frame) : (s.offerFrame f).now = s.now := by
  unfold State.offerFrame; try dsimp only
  (repeat' split) <;> first | rfl | simp
@[simp] theorem State.offerFrame_suc (s : State) (f : Frame) : (s.offerFrame f).suc = s.suc := by
  unfold State.offerFrame; try dsimp only
  (repeat' split) <;> first | rfl | simp
@[simp] theorem State.offerFrame_cfg (s : State) (f : Frame) : (s.offerFrame f).cfg = s.cfg := by
  unfold State.offerFrame; try dsimp only
  (repeat' split) <;> first | rfl | simp
@[simp] theorem State.offerFrame_ptu (s : State) (f : Frame) : (s.offerFrame f).ptu = s.ptu := by
  unfold State.offerFrame; try dsimp only
  (repeat' split) <;> first | rfl | simp
@[simp] theorem State.offerFrame_sbu (s : State) (f : Frame) : (s.offerFrame f).sbu = s.sbu := by
  unfold State.offerFrame; try dsimp only
  (repeat' split) <;> first | rfl | simp
@[simp] theorem State.offerFrame_lcu (s : State) (f : Frame) : (s.offerFrame f).lcu = s.lcu := by
  unfold State.offerFrame; try dsimp only
  (repeat' split) <;> first | rfl | simp
@[simp] theorem State.offerFrame_zcu (s : State) (f : Frame) : (s.offerFrame f).zcu = s.zcu := by
  unfold State.offerFrame; try dsimp only
  (repeat' split) <;> first | rfl | simp
@[simp] theorem State.offerFrame_mvu (s : State) (f : Frame) : (s.offerFrame f).mvu = s.mvu := by
  unfold State.offerFrame; try dsimp only
  (repeat' split) <;> first | rfl | simp
@[simp] theorem State.offerFrame_fpr (s : State) (f : Frame) : (s.offerFrame f).fpr = s.fpr := by
  unfold State.offerFrame; try dsimp only
  (repeat' split) <;> first | rfl | simp
@[simp] theorem State.offerFrame_ktu (s : State) (f : Frame) : (s.offerFrame f).ktu = s.ktu := by
  unfold State.offerFrame; try dsimp only
  (repeat' split) <;> first | rfl | simp
@[simp] theorem State.offerFrame_csa (s : State) (f : Frame) : (s.offerFrame f).csa = s.csa := by
  unfold State.offerFrame; try dsimp only
  (repeat' split) <;> first | rfl | simp
@[simp] theorem State.offerFrame_pending (s : State) (f : Frame) : (s.offerFrame f).pending = s.pending := by
  unfold State.offerFrame; try dsimp only
  (repeat' split) <;> first | rfl | simp

@[simp] theorem State.ageDrive_now (s : State) : (s.ageDrive).now = s.now := by
  unfold State.ageDrive; try dsimp only
  (repeat' split) <;> first | rfl | simp
@[simp] theorem State.ageDrive_suc (s : State) : (s.ageDrive).suc = s.suc := by
  unfold State.ageDrive; try dsimp only
  (repeat' split) <;> first | rfl | simp
@[simp] theorem State.ageDrive_cfg (s : State) : (s.ageDrive).cfg = s.cfg := by
  unfold State.ageDrive; try dsimp only
  (repeat' split) <;> first | rfl | simp
@[simp] theorem State.ageDrive_ptu (s : State) : (s.ageDrive).ptu = s.ptu := by
  unfold State.ageDrive; try dsimp only
  (repeat' split) <;> first | rfl | simp
@[simp] theorem State.ageDrive_sbu (s : State) : (s.ageDrive).sbu = s.sbu := by
  unfold State.ageDrive; try dsimp only
  (repeat' split) <;> first | rfl | simp
@[simp] theorem State.ageDrive_lcu (s : State) : (s.ageDrive).lcu = s.lcu := by
  unfold State.ageDrive; try dsimp only
  (repeat' split) <;> first | rfl | simp
@[simp] theorem State.ageDrive_zcu (s : State) : (s.ageDrive).zcu = s.zcu := by
  unfold State.ageDrive; try dsimp only
  (repeat' split) <;> first | rfl | simp
@[simp] theorem State.ageDrive_mvu (s : State) : (s.ageDrive).mvu = s.mvu := by
  unfold State.ageDrive; try dsimp only
  (repeat' split) <;> first | rfl | simp
@[simp] theorem State.ageDrive_fpr (s : State) : (s.ageDrive).fpr = s.fpr := by
  unfold State.ageDrive; try dsimp only
  (repeat' split) <;> first | rfl | simp
@[simp] theorem State.ageDrive_ktu (s : State) : (s.ageDrive).ktu = s.ktu := by
  unfold State.ageDrive; try dsimp only
  (repeat' split) <;> first | rfl | simp
@[simp] theorem State.ageDrive_csa (s : State) : (s.ageDrive).csa = s.csa := by
  unfold State.ageDrive; try dsimp only
  (repeat' split) <;> first | rfl | simp
@[simp] theorem State.ageDrive_pending (s : State) : (s.ageDrive).pending = s.pending := by
  unfold State.ageDrive; try dsimp only
  (repeat' split) <;> first | rfl | simp

@[simp] theorem State.reportOrphans_now (s : State) : (s.reportOrphans).now = s.now := by
  unfold State.reportOrphans; try dsimp only
  (repeat' split) <;> first | rfl | simp
@[simp] theorem State.reportOrphans_suc (s : State) : (s.reportOrphans).suc = s.suc := by
  unfold State.reportOrphans; try dsimp only
  (repeat' split) <;> first | rfl | simp
@[simp] theorem State.reportOrphans_cfg (s : State) : (s.reportOrphans).cfg = s.cfg := by
  unfold State.reportOrphans; try dsimp only
  (repeat' split) <;> first | rfl | simp
@[simp] theorem State.reportOrphans_liu (s : State) : (s.reportOrphans).liu = s.liu := by
  unfold State.reportOrphans; try dsimp only
  (repeat' split) <;> first | rfl | simp
@[simp] theorem State.reportOrphans_ptu (s : State) : (s.reportOrphans).ptu = s.ptu := by
  unfold State.reportOrphans; try dsimp only
  (repeat' split) <;> first | rfl | simp
@[simp] theorem State.reportOrphans_sbu (s : State) : (s.reportOrphans).sbu = s.sbu := by
  unfold State.reportOrphans; try dsimp only
  (repeat' split) <;> first | rfl | simp
@[simp] theorem State.reportOrphans_lcu (s : State) : (s.reportOrphans).lcu = s.lcu := by
  unfold State.reportOrphans; try dsimp only
  (repeat' split) <;> first | rfl | simp
@[simp] theorem State.reportOrphans_zcu (s : State) : (s.reportOrphans).zcu = s.zcu := by
  unfold State.reportOrphans; try dsimp only
  (repeat' split) <;> first | rfl | simp
@[simp] theorem State.reportOrphans_mvu (s : State) : (s.reportOrphans).mvu = s.mvu := by
  unfold State.reportOrphans; try dsimp only
  (repeat' split) <;> first | rfl | simp
@[simp] theorem State.reportOrphans_fpr (s : State) : (s.reportOrphans).fpr = s.fpr := by
  unfold State.reportOrphans; try dsimp only
  (repeat' split) <;> first | rfl | simp
@[simp] theorem State.reportOrphans_ktu (s : State) : (s.reportOrphans).ktu = s.ktu := by
  unfold State.reportOrphans; try dsimp only
  (repeat' split) <;> first | rfl | simp
@[simp] theorem State.reportOrphans_csa (s : State) : (s.reportOrphans).csa = s.csa := by
  unfold State.reportOrphans; try dsimp only
  (repeat' split) <;> first | rfl | simp
@[simp] theorem State.reportOrphans_pending (s : State) : (s.reportOrphans).pending = s.pending := by
  unfold State.reportOrphans; try dsimp only
  (repeat' split) <;> first | rfl | simp

@[simp] theorem State.judgeClash_now (filed : List ClaimStatus) (s : State) (m : MoverId) :
    (State.judgeClash filed s m).now = s.now := by
  unfold State.judgeClash; split <;> simp
@[simp] theorem State.judgeClash_suc (filed : List ClaimStatus) (s : State) (m : MoverId) :
    (State.judgeClash filed s m).suc = s.suc := by
  unfold State.judgeClash; split <;> simp
@[simp] theorem State.judgeClash_cfg (filed : List ClaimStatus) (s : State) (m : MoverId) :
    (State.judgeClash filed s m).cfg = s.cfg := by
  unfold State.judgeClash; split <;> simp
@[simp] theorem State.judgeClash_liu (filed : List ClaimStatus) (s : State) (m : MoverId) :
    (State.judgeClash filed s m).liu = s.liu := by
  unfold State.judgeClash; split <;> simp
@[simp] theorem State.judgeClash_ptu (filed : List ClaimStatus) (s : State) (m : MoverId) :
    (State.judgeClash filed s m).ptu = s.ptu := by
  unfold State.judgeClash; split <;> simp
@[simp] theorem State.judgeClash_lcu (filed : List ClaimStatus) (s : State) (m : MoverId) :
    (State.judgeClash filed s m).lcu = s.lcu := by
  unfold State.judgeClash; split <;> simp
@[simp] theorem State.judgeClash_fpr (filed : List ClaimStatus) (s : State) (m : MoverId) :
    (State.judgeClash filed s m).fpr = s.fpr := by
  unfold State.judgeClash; split <;> simp
@[simp] theorem State.judgeClash_ktu (filed : List ClaimStatus) (s : State) (m : MoverId) :
    (State.judgeClash filed s m).ktu = s.ktu := by
  unfold State.judgeClash; split <;> simp
@[simp] theorem State.judgeClash_csa (filed : List ClaimStatus) (s : State) (m : MoverId) :
    (State.judgeClash filed s m).csa = s.csa := by
  unfold State.judgeClash; split <;> simp
@[simp] theorem State.judgeClash_pending (filed : List ClaimStatus) (s : State) (m : MoverId) :
    (State.judgeClash filed s m).pending = s.pending := by
  unfold State.judgeClash; split <;> simp

@[simp] theorem State.fileAnnounce_now (s : State) (i : SlotId) (a : Announce) :
    (s.fileAnnounce i a).now = s.now := by
  simp [State.fileAnnounce, allMovers]
@[simp] theorem State.fileAnnounce_suc (s : State) (i : SlotId) (a : Announce) :
    (s.fileAnnounce i a).suc = s.suc := by
  simp [State.fileAnnounce, allMovers]
@[simp] theorem State.fileAnnounce_cfg (s : State) (i : SlotId) (a : Announce) :
    (s.fileAnnounce i a).cfg = s.cfg := by
  simp [State.fileAnnounce, allMovers]
@[simp] theorem State.fileAnnounce_liu (s : State) (i : SlotId) (a : Announce) :
    (s.fileAnnounce i a).liu = s.liu := by
  simp [State.fileAnnounce, allMovers]
@[simp] theorem State.fileAnnounce_lcu (s : State) (i : SlotId) (a : Announce) :
    (s.fileAnnounce i a).lcu = s.lcu := by
  simp [State.fileAnnounce, allMovers]
@[simp] theorem State.fileAnnounce_fpr (s : State) (i : SlotId) (a : Announce) :
    (s.fileAnnounce i a).fpr = s.fpr := by
  simp [State.fileAnnounce, allMovers]
@[simp] theorem State.fileAnnounce_ktu (s : State) (i : SlotId) (a : Announce) :
    (s.fileAnnounce i a).ktu = s.ktu := by
  simp [State.fileAnnounce, allMovers]
@[simp] theorem State.fileAnnounce_csa (s : State) (i : SlotId) (a : Announce) :
    (s.fileAnnounce i a).csa = s.csa := by
  simp [State.fileAnnounce, allMovers]
@[simp] theorem State.fileAnnounce_pending (s : State) (i : SlotId) (a : Announce) :
    (s.fileAnnounce i a).pending = s.pending := by
  simp [State.fileAnnounce, allMovers]

@[simp] theorem State.deliverAnnounce_now (s : State) (src : Nat) (a : Announce) :
    (s.deliverAnnounce src a).now = s.now := by
  unfold State.deliverAnnounce; try dsimp only
  (repeat' split) <;> first | rfl | simp
@[simp] theorem State.deliverAnnounce_suc (s : State) (src : Nat) (a : Announce) :
    (s.deliverAnnounce src a).suc = s.suc := by
  unfold State.deliverAnnounce; try dsimp only
  (repeat' split) <;> first | rfl | simp
@[simp] theorem State.deliverAnnounce_cfg (s : State) (src : Nat) (a : Announce) :
    (s.deliverAnnounce src a).cfg = s.cfg := by
  unfold State.deliverAnnounce; try dsimp only
  (repeat' split) <;> first | rfl | simp
@[simp] theorem State.deliverAnnounce_lcu (s : State) (src : Nat) (a : Announce) :
    (s.deliverAnnounce src a).lcu = s.lcu := by
  unfold State.deliverAnnounce; try dsimp only
  (repeat' split) <;> first | rfl | simp
@[simp] theorem State.deliverAnnounce_fpr (s : State) (src : Nat) (a : Announce) :
    (s.deliverAnnounce src a).fpr = s.fpr := by
  unfold State.deliverAnnounce; try dsimp only
  (repeat' split) <;> first | rfl | simp
@[simp] theorem State.deliverAnnounce_ktu (s : State) (src : Nat) (a : Announce) :
    (s.deliverAnnounce src a).ktu = s.ktu := by
  unfold State.deliverAnnounce; try dsimp only
  (repeat' split) <;> first | rfl | simp
@[simp] theorem State.deliverAnnounce_csa (s : State) (src : Nat) (a : Announce) :
    (s.deliverAnnounce src a).csa = s.csa := by
  unfold State.deliverAnnounce; try dsimp only
  (repeat' split) <;> first | rfl | simp
@[simp] theorem State.deliverAnnounce_pending (s : State) (src : Nat) (a : Announce) :
    (s.deliverAnnounce src a).pending = s.pending := by
  unfold State.deliverAnnounce; try dsimp only
  (repeat' split) <;> first | rfl | simp

@[simp] theorem State.deliverForget_now (s : State) (src target : Nat) :
    (s.deliverForget src target).now = s.now := by
  unfold State.deliverForget; try dsimp only
  (repeat' split) <;> first | rfl | simp
@[simp] theorem State.deliverForget_suc (s : State) (src target : Nat) :
    (s.deliverForget src target).suc = s.suc := by
  unfold State.deliverForget; try dsimp only
  (repeat' split) <;> first | rfl | simp
@[simp] theorem State.deliverForget_cfg (s : State) (src target : Nat) :
    (s.deliverForget src target).cfg = s.cfg := by
  unfold State.deliverForget; try dsimp only
  (repeat' split) <;> first | rfl | simp
@[simp] theorem State.deliverForget_liu (s : State) (src target : Nat) :
    (s.deliverForget src target).liu = s.liu := by
  unfold State.deliverForget; try dsimp only
  (repeat' split) <;> first | rfl | simp
@[simp] theorem State.deliverForget_lcu (s : State) (src target : Nat) :
    (s.deliverForget src target).lcu = s.lcu := by
  unfold State.deliverForget; try dsimp only
  (repeat' split) <;> first | rfl | simp
@[simp] theorem State.deliverForget_fpr (s : State) (src target : Nat) :
    (s.deliverForget src target).fpr = s.fpr := by
  unfold State.deliverForget; try dsimp only
  (repeat' split) <;> first | rfl | simp
@[simp] theorem State.deliverForget_ktu (s : State) (src target : Nat) :
    (s.deliverForget src target).ktu = s.ktu := by
  unfold State.deliverForget; try dsimp only
  (repeat' split) <;> first | rfl | simp
@[simp] theorem State.deliverForget_csa (s : State) (src target : Nat) :
    (s.deliverForget src target).csa = s.csa := by
  unfold State.deliverForget; try dsimp only
  (repeat' split) <;> first | rfl | simp
@[simp] theorem State.deliverForget_pending (s : State) (src target : Nat) :
    (s.deliverForget src target).pending = s.pending := by
  unfold State.deliverForget; try dsimp only
  (repeat' split) <;> first | rfl | simp

@[simp] theorem State.ageTo_now (s : State) (i : SlotId) (status : PeerStatus) : (s.ageTo i status).now = s.now := by
  unfold State.ageTo; try dsimp only
  (repeat' split) <;> first | rfl | simp
@[simp] theorem State.ageTo_suc (s : State) (i : SlotId) (status : PeerStatus) : (s.ageTo i status).suc = s.suc := by
  unfold State.ageTo; try dsimp only
  (repeat' split) <;> first | rfl | simp
@[simp] theorem State.ageTo_cfg (s : State) (i : SlotId) (status : PeerStatus) : (s.ageTo i status).cfg = s.cfg := by
  unfold State.ageTo; try dsimp only
  (repeat' split) <;> first | rfl | simp
@[simp] theorem State.ageTo_liu (s : State) (i : SlotId) (status : PeerStatus) : (s.ageTo i status).liu = s.liu := by
  unfold State.ageTo; try dsimp only
  (repeat' split) <;> first | rfl | simp
@[simp] theorem State.ageTo_sbu (s : State) (i : SlotId) (status : PeerStatus) : (s.ageTo i status).sbu = s.sbu := by
  unfold State.ageTo; try dsimp only
  (repeat' split) <;> first | rfl | simp
@[simp] theorem State.ageTo_lcu (s : State) (i : SlotId) (status : PeerStatus) : (s.ageTo i status).lcu = s.lcu := by
  unfold State.ageTo; try dsimp only
  (repeat' split) <;> first | rfl | simp
@[simp] theorem State.ageTo_zcu (s : State) (i : SlotId) (status : PeerStatus) : (s.ageTo i status).zcu = s.zcu := by
  unfold State.ageTo; try dsimp only
  (repeat' split) <;> first | rfl | simp
@[simp] theorem State.ageTo_mvu (s : State) (i : SlotId) (status : PeerStatus) : (s.ageTo i status).mvu = s.mvu := by
  unfold State.ageTo; try dsimp only
  (repeat' split) <;> first | rfl | simp
@[simp] theorem State.ageTo_fpr (s : State) (i : SlotId) (status : PeerStatus) : (s.ageTo i status).fpr = s.fpr := by
  unfold State.ageTo; try dsimp only
  (repeat' split) <;> first | rfl | simp
@[simp] theorem State.ageTo_ktu (s : State) (i : SlotId) (status : PeerStatus) : (s.ageTo i status).ktu = s.ktu := by
  unfold State.ageTo; try dsimp only
  (repeat' split) <;> first | rfl | simp
@[simp] theorem State.ageTo_csa (s : State) (i : SlotId) (status : PeerStatus) : (s.ageTo i status).csa = s.csa := by
  unfold State.ageTo; try dsimp only
  (repeat' split) <;> first | rfl | simp
@[simp] theorem State.ageTo_pending (s : State) (i : SlotId) (status : PeerStatus) :
    (s.ageTo i status).pending = s.pending := by
  unfold State.ageTo; try dsimp only
  (repeat' split) <;> first | rfl | simp

@[simp] theorem State.deliver_now (s : State) (f : Frame) : (s.deliver f).now = s.now := by
  unfold State.deliver; try dsimp only
  (repeat' split) <;> first | rfl | simp
@[simp] theorem State.deliver_suc (s : State) (f : Frame) : (s.deliver f).suc = s.suc := by
  unfold State.deliver; try dsimp only
  (repeat' split) <;> first | rfl | simp
@[simp] theorem State.deliver_cfg (s : State) (f : Frame) : (s.deliver f).cfg = s.cfg := by
  unfold State.deliver; try dsimp only
  (repeat' split) <;> first | rfl | simp
@[simp] theorem State.deliver_fpr (s : State) (f : Frame) : (s.deliver f).fpr = s.fpr := by
  unfold State.deliver; try dsimp only
  (repeat' split) <;> first | rfl | simp
@[simp] theorem State.deliver_ktu (s : State) (f : Frame) : (s.deliver f).ktu = s.ktu := by
  unfold State.deliver; try dsimp only
  (repeat' split) <;> first | rfl | simp
@[simp] theorem State.deliver_csa (s : State) (f : Frame) : (s.deliver f).csa = s.csa := by
  unfold State.deliver; try dsimp only
  (repeat' split) <;> first | rfl | simp
@[simp] theorem State.deliver_pending (s : State) (f : Frame) : (s.deliver f).pending = s.pending := by
  unfold State.deliver; try dsimp only
  (repeat' split) <;> first | rfl | simp

@[simp] theorem State.takeBadFrame_now (s : State) (p : PortId) : (s.takeBadFrame p).now = s.now := by
  unfold State.takeBadFrame; try dsimp only
  (repeat' split) <;> first | rfl | simp
@[simp] theorem State.takeBadFrame_suc (s : State) (p : PortId) : (s.takeBadFrame p).suc = s.suc := by
  unfold State.takeBadFrame; try dsimp only
  (repeat' split) <;> first | rfl | simp
@[simp] theorem State.takeBadFrame_cfg (s : State) (p : PortId) : (s.takeBadFrame p).cfg = s.cfg := by
  unfold State.takeBadFrame; try dsimp only
  (repeat' split) <;> first | rfl | simp
@[simp] theorem State.takeBadFrame_ptu (s : State) (p : PortId) : (s.takeBadFrame p).ptu = s.ptu := by
  unfold State.takeBadFrame; try dsimp only
  (repeat' split) <;> first | rfl | simp
@[simp] theorem State.takeBadFrame_lcu (s : State) (p : PortId) : (s.takeBadFrame p).lcu = s.lcu := by
  unfold State.takeBadFrame; try dsimp only
  (repeat' split) <;> first | rfl | simp
@[simp] theorem State.takeBadFrame_fpr (s : State) (p : PortId) : (s.takeBadFrame p).fpr = s.fpr := by
  unfold State.takeBadFrame; try dsimp only
  (repeat' split) <;> first | rfl | simp
@[simp] theorem State.takeBadFrame_ktu (s : State) (p : PortId) : (s.takeBadFrame p).ktu = s.ktu := by
  unfold State.takeBadFrame; try dsimp only
  (repeat' split) <;> first | rfl | simp
@[simp] theorem State.takeBadFrame_csa (s : State) (p : PortId) : (s.takeBadFrame p).csa = s.csa := by
  unfold State.takeBadFrame; try dsimp only
  (repeat' split) <;> first | rfl | simp
@[simp] theorem State.takeBadFrame_pending (s : State) (p : PortId) : (s.takeBadFrame p).pending = s.pending := by
  unfold State.takeBadFrame; try dsimp only
  (repeat' split) <;> first | rfl | simp

@[simp] theorem State.takeGoodFrame_now (s : State) (p : PortId) : (s.takeGoodFrame p).now = s.now := by
  unfold State.takeGoodFrame; try dsimp only
  (repeat' split) <;> first | rfl | simp
@[simp] theorem State.takeGoodFrame_suc (s : State) (p : PortId) : (s.takeGoodFrame p).suc = s.suc := by
  unfold State.takeGoodFrame; try dsimp only
  (repeat' split) <;> first | rfl | simp
@[simp] theorem State.takeGoodFrame_cfg (s : State) (p : PortId) : (s.takeGoodFrame p).cfg = s.cfg := by
  unfold State.takeGoodFrame; try dsimp only
  (repeat' split) <;> first | rfl | simp
@[simp] theorem State.takeGoodFrame_ptu (s : State) (p : PortId) : (s.takeGoodFrame p).ptu = s.ptu := by
  unfold State.takeGoodFrame; try dsimp only
  (repeat' split) <;> first | rfl | simp
@[simp] theorem State.takeGoodFrame_lcu (s : State) (p : PortId) : (s.takeGoodFrame p).lcu = s.lcu := by
  unfold State.takeGoodFrame; try dsimp only
  (repeat' split) <;> first | rfl | simp
@[simp] theorem State.takeGoodFrame_fpr (s : State) (p : PortId) : (s.takeGoodFrame p).fpr = s.fpr := by
  unfold State.takeGoodFrame; try dsimp only
  (repeat' split) <;> first | rfl | simp
@[simp] theorem State.takeGoodFrame_ktu (s : State) (p : PortId) : (s.takeGoodFrame p).ktu = s.ktu := by
  unfold State.takeGoodFrame; try dsimp only
  (repeat' split) <;> first | rfl | simp
@[simp] theorem State.takeGoodFrame_csa (s : State) (p : PortId) : (s.takeGoodFrame p).csa = s.csa := by
  unfold State.takeGoodFrame; try dsimp only
  (repeat' split) <;> first | rfl | simp
@[simp] theorem State.takeGoodFrame_pending (s : State) (p : PortId) : (s.takeGoodFrame p).pending = s.pending := by
  unfold State.takeGoodFrame; try dsimp only
  (repeat' split) <;> first | rfl | simp

@[simp] theorem State.checkAndDeliver_now (s : State) (frame : List Byte) :
    (s.checkAndDeliver frame).now = s.now := by
  unfold State.checkAndDeliver; try dsimp only
  (repeat' split) <;> first | rfl | simp
@[simp] theorem State.checkAndDeliver_suc (s : State) (frame : List Byte) :
    (s.checkAndDeliver frame).suc = s.suc := by
  unfold State.checkAndDeliver; try dsimp only
  (repeat' split) <;> first | rfl | simp
@[simp] theorem State.checkAndDeliver_cfg (s : State) (frame : List Byte) :
    (s.checkAndDeliver frame).cfg = s.cfg := by
  unfold State.checkAndDeliver; try dsimp only
  (repeat' split) <;> first | rfl | simp
@[simp] theorem State.checkAndDeliver_fpr (s : State) (frame : List Byte) :
    (s.checkAndDeliver frame).fpr = s.fpr := by
  unfold State.checkAndDeliver; try dsimp only
  (repeat' split) <;> first | rfl | simp
@[simp] theorem State.checkAndDeliver_ktu (s : State) (frame : List Byte) :
    (s.checkAndDeliver frame).ktu = s.ktu := by
  unfold State.checkAndDeliver; try dsimp only
  (repeat' split) <;> first | rfl | simp
@[simp] theorem State.checkAndDeliver_csa (s : State) (frame : List Byte) :
    (s.checkAndDeliver frame).csa = s.csa := by
  unfold State.checkAndDeliver; try dsimp only
  (repeat' split) <;> first | rfl | simp
@[simp] theorem State.checkAndDeliver_pending (s : State) (frame : List Byte) :
    (s.checkAndDeliver frame).pending = s.pending := by
  unfold State.checkAndDeliver; try dsimp only
  (repeat' split) <;> first | rfl | simp

end Sys2Proof.Machine
end

