-- ==== Sys2Proof/Laws/Ops.lean ====
section
/-! SUPPORT. What each shared operation does: the flags after a report, the demand list after an entry is made, changed
or given up, the movers and claims after each entry into a phase, an output and its trip. -/

namespace Sys2Proof

/-- Two kinds with one place are one kind. -/
theorem FaultKind.idx_inj {j k : FaultKind} (h : j.idx = k.idx) : j = k := by
  revert h; cases j <;> cases k <;> decide

theorem FaultKind.mem_all (k : FaultKind) : k ∈ FaultKind.all := by cases k <;> decide

end Sys2Proof

namespace Sys2Proof.Machine

open Sys2Proof

/-! ### Movers, claims and records by number -/

theorem otherMover_ne (m : MoverId) : otherMover m ≠ m := by revert m; decide
theorem eq_otherMover {m x : MoverId} (h : x ≠ m) : x = otherMover m := by revert h; revert m x; decide
@[simp] theorem otherMover_other (m : MoverId) : otherMover (otherMover m) = m := by revert m; decide

theorem State.onMover_mover (s : State) (m x : MoverId) (f : Mover → Mover) :
    (s.onMover m f).mover x = if x = m then (s.mover x).map f else s.mover x := by
  by_cases h : x = m
  · subst h; simp [State.onMover, State.mover]
  · simp [State.onMover, State.mover, h]

@[simp] theorem State.onMover_mover_same (s : State) (m : MoverId) (f : Mover → Mover) :
    (s.onMover m f).mover m = (s.mover m).map f := by simp [State.onMover_mover]

theorem State.onMover_mover_other (s : State) (m x : MoverId) (f : Mover → Mover) (h : x ≠ m) :
    (s.onMover m f).mover x = s.mover x := by simp [State.onMover_mover, h]

theorem State.setClaim_claim (s : State) (m x : MoverId) (c : Claim) :
    (s.setClaim m c).claim x = if x = m then c else s.claim x := by
  simpa [State.claim, State.setClaim] using set_get s.zcu.claims m x c

theorem State.setPeer_record (s : State) (i j : SlotId) (r : Option PeerRec) :
    (s.setPeer i r).ptu.peers[j] = if j = i then r else s.ptu.peers[j] := by
  simpa [State.setPeer] using set_get s.ptu.peers i j r

/-- A slot's record, looked up in the list of records. -/
theorem State.mem_records (s : State) (r : PeerRec) : r ∈ s.records ↔ ∃ i : SlotId, s.ptu.peers[i] = some r := by
  simp only [State.records, List.mem_filterMap, Vector.mem_toList_iff, Vector.mem_iff_getElem, id]
  constructor
  · rintro ⟨x, ⟨i, hi, rfl⟩, h⟩
    exact ⟨⟨i, hi⟩, h⟩
  · rintro ⟨i, h⟩
    exact ⟨some r, ⟨i.val, i.isLt, h⟩, rfl⟩

/-! ### Flags -/

/-- The flag of a kind after a kind becomes or stays active. -/
theorem State.activate_flags (s : State) (k j : FaultKind) (hold : Option Nat) :
    (s.activate k hold).fcl.flags[j.idx] = if j = k then { active := true, hold := hold } else s.fcl.flags[j.idx] := by
  have h := set_get s.fcl.flags k.idx j.idx ({ active := true, hold := hold } : Flag)
  by_cases e : j = k
  · subst e; simp [State.activate]
  · have e' : j.idx ≠ k.idx := fun x => e (FaultKind.idx_inj x)
    simpa [State.activate, e, e'] using h

theorem State.clearFlag_flags (s : State) (k j : FaultKind) :
    (s.clearFlag k).fcl.flags[j.idx] = if j = k then {} else s.fcl.flags[j.idx] := by
  have h := set_get s.fcl.flags k.idx j.idx ({} : Flag)
  by_cases e : j = k
  · subst e; simp [State.clearFlag]
  · have e' : j.idx ≠ k.idx := fun x => e (FaultKind.idx_inj x)
    simpa [State.clearFlag, e, e'] using h

theorem State.activate_active (s : State) (k j : FaultKind) (hold : Option Nat) :
    (s.activate k hold).active j = if j = k then true else s.active j := by
  unfold State.active
  rw [State.activate_flags]
  split <;> rfl

theorem State.raiseEvent_active (s : State) (k j : FaultKind) :
    (s.raiseEvent k).active j = if j = k then true else s.active j := State.activate_active s k j _

theorem State.raiseCond_active (s : State) (k j : FaultKind) :
    (s.raiseCond k).active j = if j = k then true else s.active j := by
  unfold State.raiseCond
  split
  · split
    · subst j; assumption
    · rfl
  · exact State.activate_active s k j none

theorem State.clearFlag_active (s : State) (k j : FaultKind) :
    (s.clearFlag k).active j = if j = k then false else s.active j := by
  unfold State.active
  rw [State.clearFlag_flags]
  split <;> rfl

/-- What a report leaves: its own kind as reported, every other as it stood. -/
theorem State.reportCond_active (s : State) (k j : FaultKind) (holds : Bool) :
    (s.reportCond k holds).active j = if j = k then holds else s.active j := by
  unfold State.reportCond
  cases holds
  · rw [if_neg Bool.false_ne_true]
    split
    · exact State.clearFlag_active s k j
    · split
      · subst j; exact Bool.eq_false_iff.2 ‹_›
      · rfl
  · rw [if_pos rfl]
    exact State.raiseCond_active s k j

@[simp] theorem State.reportCond_active_same (s : State) (k : FaultKind) (holds : Bool) :
    (s.reportCond k holds).active k = holds := by simp [State.reportCond_active]

/-- The first-fault record, once filled, is not changed by a kind's becoming active. -/
theorem State.activate_firstFault (s : State) (k : FaultKind) (hold : Option Nat) (r : FaultKind × Nat)
    (h : s.fcl.firstFault = some r) : (s.activate k hold).fcl.firstFault = some r := by
  simp [State.activate, firstFaultAfter, h]

theorem State.reportCond_firstFault (s : State) (k : FaultKind) (holds : Bool) (r : FaultKind × Nat)
    (h : s.fcl.firstFault = some r) : (s.reportCond k holds).fcl.firstFault = some r := by
  unfold State.reportCond State.raiseCond
  split
  · split
    · exact h
    · exact State.activate_firstFault s k none r h
  · split <;> exact h

/-! ### The demand list -/

/-- The entry found for a source is that source's. -/
theorem demandIn_source {l : List Demand} {src : Source} {d : Demand} (h : demandIn l src = some d) :
    d ∈ l ∧ d.source = src := by
  refine ⟨List.mem_of_find?_eq_some h, ?_⟩
  simpa using List.find?_some h

theorem demandIn_none {l : List Demand} {src : Source} : demandIn l src = none ↔ ∀ d ∈ l, d.source ≠ src := by
  simp [demandIn]

/-- In a list with one entry to a source, each entry is the one found for its source. -/
theorem demandIn_of_mem {l : List Demand} (once : (l.map fun d => d.source).Nodup) {d : Demand} (h : d ∈ l) :
    demandIn l d.source = some d := by
  induction l with
  | nil => cases h
  | cons e l ih =>
    rw [List.map_cons, List.nodup_cons] at once
    unfold demandIn
    rw [List.find?_cons]
    by_cases same : e.source = d.source
    · rcases List.mem_cons.1 h with rfl | h
      · simp
      · exact absurd (List.mem_map.2 ⟨d, h, same.symm⟩) once.1
    · rcases List.mem_cons.1 h with rfl | h
      · exact absurd rfl same
      · rw [decide_eq_false same]; exact ih once.2 h

theorem demandIn_dropSource (l : List Demand) (src other : Source) :
    demandIn (dropSource src l) other = if other = src then none else demandIn l other := by
  induction l with
  | nil => simp [demandIn, dropSource]
  | cons e l ih =>
    unfold dropSource demandIn at ih ⊢
    by_cases k : e.source = src
    · rw [List.filter_cons_of_neg (by simpa using k), ih]
      split
      · rfl
      · rw [List.find?_cons_of_neg]
        simpa [k] using fun h : src = other => ‹¬other = src› h.symm
    · rw [List.filter_cons_of_pos (by simpa using k), List.find?_cons, List.find?_cons, ih]
      by_cases h : other = src
      · subst h; simp [k]
      · simp [h]

theorem mem_insertDemand (d e : Demand) (l : List Demand) : e ∈ insertDemand d l ↔ e = d ∨ e ∈ l := by
  induction l with
  | nil => simp [insertDemand]
  | cons x l ih =>
    unfold insertDemand
    split
    · simp
    · simp [ih, or_left_comm]

theorem insertDemand_perm (d : Demand) (l : List Demand) : (insertDemand d l).Perm (d :: l) := by
  induction l with
  | nil => exact List.Perm.refl _
  | cons x l ih =>
    unfold insertDemand
    split
    · exact List.Perm.refl _
    · exact (ih.cons x).trans (List.Perm.swap d x l)

/-- An entry takes its place: the list stays in its order (R20). -/
theorem insertDemand_ordered (d : Demand) (l : List Demand) (h : l.Pairwise fun a b => a.key < b.key)
    (fresh : ∀ e ∈ l, e.key ≠ d.key) : (insertDemand d l).Pairwise fun a b => a.key < b.key := by
  induction l with
  | nil => simp [insertDemand]
  | cons x l ih =>
    rw [List.pairwise_cons] at h
    have hx := fresh x (by simp)
    unfold insertDemand
    split
    · rename_i lt
      rw [List.pairwise_cons]
      refine ⟨fun e he => ?_, List.pairwise_cons.2 h⟩
      rcases List.mem_cons.1 he with rfl | he
      · exact lt
      · exact Nat.lt_trans lt (h.1 e he)
    · rw [List.pairwise_cons]
      refine ⟨fun e he => ?_, ih h.2 fun e he => fresh e (List.mem_cons_of_mem _ he)⟩
      rcases (mem_insertDemand d e l).1 he with rfl | he
      · omega
      · exact h.1 e he

theorem demandIn_insertDemand (d : Demand) (l : List Demand) (src : Source) (fresh : demandIn l d.source = none) :
    demandIn (insertDemand d l) src = if src = d.source then some d else demandIn l src := by
  induction l with
  | nil =>
    by_cases h : src = d.source
    · subst h; simp [insertDemand, demandIn]
    · simp [insertDemand, demandIn, h, Ne.symm h]
  | cons x l ih =>
    have fx : x.source ≠ d.source := demandIn_none.1 fresh x (by simp)
    have fl : demandIn l d.source = none := demandIn_none.2 fun e he => demandIn_none.1 fresh e (by simp [he])
    unfold insertDemand
    split
    · by_cases h : src = d.source
      · subst h; simp [demandIn]
      · simp [demandIn, List.find?_cons, h, Ne.symm h]
    · have ih := ih fl
      unfold demandIn at ih ⊢
      rw [List.find?_cons, List.find?_cons, ih]
      by_cases h : src = d.source
      · subst h; simp [fx]
      · simp [h]

theorem demandIn_mapSource (l : List Demand) (src other : Source) (f : Demand → Demand)
    (keeps : ∀ d, (f d).source = d.source) :
    demandIn (mapSource src f l) other = if other = src then (demandIn l other).map f else demandIn l other := by
  induction l with
  | nil => simp [demandIn, mapSource]
  | cons e l ih =>
    unfold mapSource demandIn at ih ⊢
    rw [List.map_cons, List.find?_cons, List.find?_cons, ih]
    by_cases k : e.source = src
    · by_cases h : e.source = other
      · subst h; simp [k, keeps]
      · have : other ≠ src := fun x => h (k.trans x.symm)
        simp [k, keeps, this, Ne.symm this]
    · by_cases h : e.source = other
      · have : other ≠ src := fun x => k (h.trans x)
        simp [h, this]
      · simp [k, h]

/-- An entry given up is gone, and no other entry changes (R21). -/
theorem State.removeEntry_demandOf (s : State) (src other : Source) :
    (s.removeEntry src).demandOf other = if other = src then none else s.demandOf other :=
  demandIn_dropSource s.sbu.demands src other

/-- An entry made is as R21 starts it, and no other entry changes. -/
theorem State.createEntry_demandOf (s : State) (src other : Source) (cls : Fin 8) (rank want : Nat) :
    (s.createEntry src cls rank want).demandOf other =
      if other = src then some (newDemand s.inIsland src cls rank want) else s.demandOf other := by
  have source : (newDemand s.inIsland src cls rank want).source = src := by unfold newDemand; split <;> rfl
  have fresh : demandIn (dropSource src s.sbu.demands) src = none := by simp [demandIn_dropSource]
  show demandIn (insertDemand _ (dropSource src s.sbu.demands)) other = _
  rw [demandIn_insertDemand _ _ _ (by rw [source]; exact fresh), source, demandIn_dropSource]
  split <;> simp_all [State.demandOf]

theorem changeWant_source (island : Bool) (want : Nat) (d : Demand) : (changeWant island want d).source = d.source := by
  unfold changeWant; split <;> [rfl; split <;> rfl]

/-- An entry whose W changes follows R22, and no other entry changes. -/
theorem State.changeEntry_demandOf (s : State) (src other : Source) (want : Nat) :
    (s.changeEntry src want).demandOf other =
      if other = src then (s.demandOf other).map (changeWant s.inIsland want) else s.demandOf other :=
  demandIn_mapSource s.sbu.demands src other _ fun d => changeWant_source s.inIsland want d

/-- A command or a tick that leaves the SBU alone leaves every entry alone. -/
theorem State.demandOf_congr {s t : State} (h : t.sbu = s.sbu) (src : Source) : t.demandOf src = s.demandOf src := by
  unfold State.demandOf; rw [h]

/-! ### Claims -/

theorem State.examineClaim_claim (s : State) (m x : MoverId) :
    (s.examineClaim m).claim x = if x = m then s.nextClaim m else s.claim x := State.setClaim_claim s m x _

/-- A claim that is NONE or HELD stands when it is looked at again. -/
theorem State.nextClaim_stands (s : State) (m : MoverId) (h : s.claim m = .unclaimed ∨ s.claim m = .held) :
    s.nextClaim m = s.claim m := by
  unfold State.nextClaim; rcases h with h | h <;> rw [h]

/-- Looking at a claim again never makes one of nothing, and never gives one up (R73 to R75). -/
theorem State.nextClaim_unclaimed (s : State) (m : MoverId) : s.nextClaim m = .unclaimed ↔ s.claim m = .unclaimed := by
  unfold State.nextClaim
  cases s.claim m with
  | unclaimed => simp
  | held => simp
  | waiting => simp only; split <;> simp
  | listening start =>
    simp only
    split
    · simp
    · split <;> simp

/-- A claim given up is NONE, whatever the other one does (R79). -/
theorem State.releaseClaim_claim (s : State) (m : MoverId) : (s.releaseClaim m).claim m = .unclaimed := by
  have h : (s.setClaim m .unclaimed).claim m = .unclaimed := by simp [State.setClaim_claim]
  have h0 : ∀ (t : State) (x : MoverId), t.claim m = .unclaimed → (t.examineClaim x).claim m = .unclaimed := by
    intro t x ht
    rw [State.examineClaim_claim]
    split
    · subst m; rw [State.nextClaim_stands t _ (.inl ht), ht]
    · exact ht
  exact h0 _ 1 (h0 _ 0 h)

/-! ### Movers -/

theorem State.enterRunning_mover (s : State) (m : MoverId) :
    (s.enterRunning m).mover m = (s.mover m).map fun r =>
      { r with
        phase := .running
        stopReason := none
        reversal := none
        timer := if (s.moverCfg m).kind = .windlass then none else some (s.now + (s.moverCfg m).travel)
        overTime := none
        stallSpan := none } := State.onMover_mover_same s m _

theorem State.enterStopping_mover (s : State) (m : MoverId) (reason : StopReason) (mark : Option Dir) :
    (s.enterStopping m reason mark).mover m = (s.mover m).map fun r =>
      { r with
        phase := .stopping
        stopReason := some reason
        reversal := mark
        timer := some (s.now + (s.moverCfg m).stopDwell)
        overTime := none
        stallSpan := none } := State.onMover_mover_same s m _

/-- A mover that is looked at again stays as it was, or goes from REQUESTING to UNLOCKING or RUNNING (R97). -/
theorem State.proceed_mover (s : State) (m x : MoverId) :
    (s.proceed m).mover x = s.mover x ∨ x = m ∧ ((s.proceed m).mover x = (s.enterRunning m).mover x ∨
      (s.proceed m).mover x = (s.mover x).map fun r => { r with phase := .unlocking, timer := some (s.now + Config.lockSpan) }) := by
  by_cases h : x = m
  · subst h
    unfold State.proceed State.enterUnlocking
    split
    · split
      · split
        · exact .inr ⟨rfl, .inl rfl⟩
        · exact .inr ⟨rfl, .inr (State.onMover_mover_same s x _)⟩
      · exact .inr ⟨rfl, .inl rfl⟩
    · exact .inl rfl
  · left
    unfold State.proceed State.enterUnlocking State.enterRunning
    split
    · split
      · split <;> exact State.onMover_mover_other s m x _ h
      · exact State.onMover_mover_other s m x _ h
    · rfl

/-- What its station's other mover does leaves a mover alone. -/
theorem State.lookAgain_mover_other (s : State) (m x : MoverId) (h : x ≠ m) : (s.lookAgain m).mover x = s.mover x := by
  unfold State.lookAgain
  split
  · split
    · rcases State.proceed_mover s m x with e | ⟨e, -⟩
      · exact e
      · exact absurd e h
    · rfl
  · rfl

@[simp] theorem State.removeEntry_mover (s : State) (src : Source) (x : MoverId) :
    (s.removeEntry src).mover x = s.mover x := rfl

@[simp] theorem State.releaseClaim_mover (s : State) (m x : MoverId) : (s.releaseClaim m).mover x = s.mover x := rfl

@[simp] theorem State.reportReason_mover (s : State) (r : FaultReason) (x : MoverId) :
    (s.reportReason r).mover x = s.mover x := by
  unfold State.mover; rw [State.reportReason_mvu]

/-- A mover that enters IDLE drops its motion and keeps the code given (R90, R117). -/
theorem State.enterIdle_mover (s : State) (m : MoverId) (code : RefusalCode) :
    (s.enterIdle m code).mover m = (s.mover m).map fun r => { dropMotion r with phase := .idle, lastRefusal := code } := by
  unfold State.enterIdle
  rw [State.lookAgain_mover_other _ _ _ (otherMover_ne m).symm]
  simp

/-- A mover that enters FAULTED drops its motion and keeps its reason, also as its code (R107). -/
theorem State.enterFaulted_mover (s : State) (m : MoverId) (reason : FaultReason) :
    (s.enterFaulted m reason).mover m = (s.mover m).map fun r =>
      { dropMotion r with phase := .faulted, faultReason := some reason, lastRefusal := reason.refusal } := by
  unfold State.enterFaulted
  rw [State.lookAgain_mover_other _ _ _ (otherMover_ne m).symm]
  simp

/-- Looking again changes no claim. -/
@[simp] theorem State.lookAgain_claim (s : State) (m x : MoverId) : (s.lookAgain m).claim x = s.claim x := by
  unfold State.claim; rw [State.lookAgain_zcu]

/-- A mover that enters IDLE has given its claim up (R79). -/
theorem State.enterIdle_claim (s : State) (m : MoverId) (code : RefusalCode) :
    (s.enterIdle m code).claim m = .unclaimed := by
  unfold State.enterIdle
  rw [State.lookAgain_claim]
  exact State.releaseClaim_claim _ m

theorem State.enterFaulted_claim (s : State) (m : MoverId) (reason : FaultReason) :
    (s.enterFaulted m reason).claim m = .unclaimed := by
  unfold State.enterFaulted
  rw [State.lookAgain_claim]
  unfold State.claim
  rw [State.reportReason_zcu]
  exact State.releaseClaim_claim _ m

/-- A mover that enters IDLE has given its entry up, and no other entry changes (R90). -/
theorem State.enterIdle_demandOf (s : State) (m : MoverId) (code : RefusalCode) (other : Source) :
    (s.enterIdle m code).demandOf other = if other = .mover m then none else s.demandOf other := by
  rw [← State.removeEntry_demandOf]
  exact State.demandOf_congr (by unfold State.enterIdle; rw [State.lookAgain_sbu, State.releaseClaim_sbu]; rfl) other

theorem State.enterFaulted_demandOf (s : State) (m : MoverId) (reason : FaultReason) (other : Source) :
    (s.enterFaulted m reason).demandOf other = if other = .mover m then none else s.demandOf other := by
  rw [← State.removeEntry_demandOf]
  exact State.demandOf_congr
    (by unfold State.enterFaulted; rw [State.lookAgain_sbu, State.reportReason_sbu, State.releaseClaim_sbu]; rfl) other

/-! ### The queue -/

/-- A command frame offered to the queue: dropped under TWIN, refused by a full FIFO with TXQ_FULL, behind the others
elsewhere (R15, R157). -/
theorem State.offerFrame_cases (s : State) (f : Frame) :
    (s.active .twin = true ∧ s.offerFrame f = s) ∨
    (s.active .twin = false ∧ 4 ≤ s.liu.fifo.length ∧ s.offerFrame f = s.raiseEvent .txqFull) ∨
    (s.active .twin = false ∧ s.liu.fifo.length < 4 ∧ s.offerFrame f =
      { s with liu := { s.liu with
          fifo := s.liu.fifo ++ [{ serial := s.liu.serial, frame := f, queuedAt := s.now }]
          serial := s.liu.serial + 1 } }) := by
  unfold State.offerFrame
  cases h : s.active .twin
  · right
    by_cases l : 4 ≤ s.liu.fifo.length
    · left; simp [Config.fifoDepth, l]
    · right; simp [Config.fifoDepth, l, Nat.lt_of_not_le l]
  · left; simp

/-! ### An output and its trip -/

@[simp] theorem moveTo_lreq (now pos : Nat) (ch : Channel) : (moveTo now pos ch).lreq = ch.lreq := rfl
@[simp] theorem moveTo_leff (now pos : Nat) (ch : Channel) : (moveTo now pos ch).leff = ch.leff := rfl
@[simp] theorem moveTo_position (now pos : Nat) (ch : Channel) : (moveTo now pos ch).position = pos := rfl
@[simp] theorem moveTo_mark (now pos : Nat) (ch : Channel) : (moveTo now pos ch).mark = ch.mark := rfl
@[simp] theorem moveTo_tripMemory (now pos : Nat) (ch : Channel) : (moveTo now pos ch).tripMemory = ch.tripMemory := rfl

/-- Wherever the output of a channel in service is moved to, a trip due at that instant stays due (R59). -/
theorem moveTo_keeps_trip (now pos : Nat) (ch : Channel) (service : ch.mark = .inService)
    (h : overrun now ch = true ∨ tripOwed now ch = true) :
    overrun now (moveTo now pos ch) = true ∨ tripOwed now (moveTo now pos ch) = true := by
  by_cases run : overrun now ch = true
  · by_cases off : pos = 0
    · right; simp [moveTo, tripOwed, off, run, service]
    · left
      simp only [overrun, Bool.and_eq_true] at run
      simpa [moveTo, overrun, off, Nat.pos_of_ne_zero off] using run.2
  · right; simp_all [moveTo, tripOwed]

/-- A trip takes its channel's levels and output to 0 and leaves it TRIPPED with a fresh memory, or LOCKED_OUT where the
memory ran; the other channels stand (R56, R57). -/
theorem State.trip_channel (s : State) (c x : ChannelId) :
    (s.trip c).lcu.channels[x] =
      if x = c then
        if (s.lcu.channels[c]).tripMemory.isSome = true
        then { tripOutput s.lcu.channels[c] with mark := .lockedOut, tripMemory := none }
        else { tripOutput s.lcu.channels[c] with mark := .tripped, tripMemory := some (s.now + Config.tripMemorySpan) }
      else s.lcu.channels[x] := by
  unfold State.trip
  dsimp only
  split <;> by_cases same : x = c <;> simp_all [modifyAt, Fin.getElem_fin, Fin.ext_iff, eq_comm]

end Sys2Proof.Machine
end

