-- ==== Sys2Proof/Laws/Line.lean ====
section
/-! SUPPORT. What hearing does: a report of conditions that stand, a good frame on a port that moves neither its
conditions nor line fitness, the SUPPLY pin at a tick; and what holds a link pulse back. -/

namespace Sys2Proof.Machine

open Sys2Proof Sys2Proof.Safety

/-- A condition that stands as reported is not reported again. -/
theorem State.reportCond_of_stands {s : State} {k : FaultKind} {holds : Bool} (h : s.active k = holds) :
    s.reportCond k holds = s := by
  unfold State.reportCond State.raiseCond
  cases holds <;> simp [h]

/-- Line fitness that stands as reported is neither lost nor regained (R154). -/
theorem State.judgeFitness_of_stands {s : State} (h : FitnessOk s) : s.judgeFitness = s := by
  unfold State.judgeFitness
  split
  · rename_i running
    have := h running
    cases fit : s.lineFit <;> simp_all
  · rfl

/-- A port sends no link pulse within 1 ms of the last transition on its pair (R150). -/
theorem State.no_pulse_within_1_ms {s : State} {p : PortId} (h : s.now < (s.liu.ports[p]).lastTransition + 1) :
    execLinkPulse p s = .next s := by
  have wait : s.pulseDue p = false := by
    simp [State.pulseDue, Config.pulseInterval]
    exact fun _ _ => Nat.le_of_lt_succ h
  simp [execLinkPulse, wait]

/-- An attempt that the loss of carrier abandons leaves its last transition there (R150). -/
theorem goDark_of_attempt {now : Nat} {x : Port} (h : x.attempt.isSome = true) :
    (goDark now x).attempt = none ∧ (goDark now x).lastTransition = now := by simp [goDark, h]

theorem darkKind_ne_unfitKind (p q : PortId) : darkKind p ≠ unfitKind q := by revert p q; decide
theorem lineUnfit_ne_unfitKind (p : PortId) : FaultKind.lineUnfit ≠ unfitKind p := by revert p; decide

/-- Line fitness reads the ports' states alone. -/
theorem State.lineFit_congr {s t : State} (cfg : t.cfg = s.cfg)
    (ports : ∀ p : PortId, (t.liu.ports[p]).state = (s.liu.ports[p]).state) : t.lineFit = s.lineFit := by
  have fit : ∀ p : PortId, t.portFit p = s.portFit p := fun p => by unfold State.portFit; rw [ports p]
  unfold State.lineFit
  rw [cfg, fit 0, fit 1]

theorem heardNow_off_locked {s : State} {p : PortId} (h : (s.liu.ports[p]).state ≠ .locked) :
    heardNow s p = s.onPort p fun x => { x with carrier := some s.now, lastTransition := s.now } := if_pos h

/-- A good frame moves line fitness on a LOCKED port alone (R153). -/
theorem heardNow_lineFit {s : State} {p : PortId} (h : (s.liu.ports[p]).state ≠ .locked) :
    (heardNow s p).lineFit = s.lineFit := by
  rw [heardNow_off_locked h]
  refine State.lineFit_congr rfl fun q => ?_
  by_cases same : q = p
  · subst same; simp [State.onPort]
  · simp [State.onPort, same]

/-- Hearing keeps every flag but PORT_UNFIT of the port, and the phase. -/
theorem heardNow_active {s : State} {p : PortId} {k : FaultKind} (h : k ≠ unfitKind p) :
    (heardNow s p).active k = s.active k := by
  unfold heardNow
  split
  · rfl
  · split
    · rfl
    · dsimp only
      split
      · rw [State.clearFlag_active, if_neg h]; rfl
      · rfl

@[simp] theorem heardNow_suc (s : State) (p : PortId) : (heardNow s p).suc = s.suc := by
  unfold heardNow
  split
  · rfl
  · split
    · rfl
    · dsimp only
      split <;> rfl

/-- A change of a port that agrees with another on the port is that change. -/
theorem State.onPort_congr {s : State} {p : PortId} {f g : Port → Port} (h : f s.liu.ports[p] = g s.liu.ports[p]) :
    s.onPort p f = s.onPort p g := by
  unfold State.onPort modifyAt
  exact congrArg (fun x => { s with liu := { s.liu with ports := s.liu.ports.set p x } }) h

/-- A report on a port that has changed, its PORT_DARK standing as it was. -/
theorem State.reportPort_onPort {s : State} {p : PortId} {f : Port → Port}
    (dark : s.active (darkKind p) = portDarkHolds (f s.liu.ports[p])) :
    (s.onPort p f).reportPort p = (s.onPort p f).reportCond (unfitKind p) (portUnfitHolds (f s.liu.ports[p])) := by
  have same : (s.onPort p f).liu.ports[p] = f s.liu.ports[p] := modifyAt_same _ _ _
  unfold State.reportPort
  rw [same, State.reportCond_of_stands (s := s.onPort p f) dark]

theorem countGood_off_locked {now : Nat} {x : Port} (h : x.state ≠ .locked) : countGood now x = x := if_neg h

theorem portDarkHolds_awake {x : Port} (h : x.state ≠ .dark) : portDarkHolds x = false := by simp [portDarkHolds, h]

/-- A good frame on a calm port moves what heardNow says and nothing else (R150, R153, R154). -/
theorem State.takeGoodFrame_of_calm {s : State} {p : PortId} (awake : (s.liu.ports[p]).state ≠ .dark)
    (calm : Calm s p) : s.takeGoodFrame p = heardNow s p := by
  obtain ⟨fit, dark, unfit, fitness⟩ := calm
  have stands : FitnessOk (heardNow s p) := fun running => by
    rw [heardNow_active (lineUnfit_ne_unfitKind p), fit]
    exact fitness (by simpa [State.running] using running)
  suffices (s.onPort p fun x => countGood s.now (seeTransition s.now x)).reportPort p = heardNow s p by
    show (State.reportPort _ p).judgeFitness = _
    rw [this, State.judgeFitness_of_stands stands]
  rw [portDarkHolds_awake awake] at dark
  generalize hx : s.liu.ports[p] = x at awake unfit
  have report : ∀ f : Port → Port, (f x).state ≠ .dark → (s.onPort p f).reportPort p =
      (s.onPort p f).reportCond (unfitKind p) (portUnfitHolds (f x)) := fun f h => by
    rw [State.reportPort_onPort (hx ▸ dark.trans (portDarkHolds_awake h).symm), hx]
  unfold heardNow
  rw [hx]
  by_cases locked : x.state = .locked
  · rw [if_neg (not_not.2 locked)]
    have counted : countGood s.now (seeTransition s.now x) =
        if x.good + 1 < 8 then { seeTransition s.now x with good := x.good + 1 }
        else { seeTransition s.now x with
          state := .fit, good := 8, wasFit := true, errors := 0, windowEnd := some (s.now + 1000) } := by
      unfold countGood
      rw [if_pos (show (seeTransition s.now x).state = .locked from locked)]
      show (if Config.goodFramesForFit ≤ x.good + 1 then _ else _) = _
      by_cases few : x.good + 1 < 8
      · rw [if_pos few, if_neg (show ¬Config.goodFramesForFit ≤ x.good + 1 from fun h => absurd few (Nat.not_lt.2 h))]; rfl
      · rw [if_neg few, if_pos (show Config.goodFramesForFit ≤ x.good + 1 from Nat.not_lt.1 few)]; rfl
    by_cases few : x.good + 1 < 8
    · rw [if_pos few] at counted ⊢
      rw [State.onPort_congr (g := fun y => { seeTransition s.now y with good := y.good + 1 }) (hx ▸ counted),
        report _ awake]
      exact State.reportCond_of_stands unfit
    · rw [if_neg few] at counted ⊢
      rw [State.onPort_congr (g := fun y => { seeTransition s.now y with
          state := .fit, good := 8, wasFit := true, errors := 0, windowEnd := some (s.now + 1000) }) (hx ▸ counted),
        report _ (show PortState.fit ≠ .dark by decide)]
      rfl
  · rw [if_pos locked]
    have counted : countGood s.now (seeTransition s.now x) = seeTransition s.now x := countGood_off_locked locked
    rw [State.onPort_congr (g := seeTransition s.now) (hx ▸ counted), report _ awake]
    exact State.reportCond_of_stands unfit

/-- SUPPLY is sampled with the pin left as it is where it delivers the value sampled (R17, R134). -/
theorem State.sampleSupply_fpr {s : State} {supply : Bool}
    (h : ∀ p, s.cfg.supply = some p → (s.fpr.pins[p]).delivered = supply) :
    (s.sampleSupply supply).fpr = s.fpr := by
  unfold State.sampleSupply State.settleSupply
  split
  · rename_i p bound; rw [if_pos (h p bound)]
  · rfl

end Sys2Proof.Machine
end

