-- ==== Sys2Proof/Laws/Symbols.lean ====
section
/-! SUPPORT. The symbols of a pair read back: each code bit by bit, the bits of bytes, and a mismatch on a pair. -/

namespace Sys2Proof.Machine

open Sys2Proof

@[simp] theorem arbBit_arbSymbol (b : Bool) : arbBit (arbSymbol b).halves = some b := by cases b <;> rfl
@[simp] theorem dataBit_dataSymbol (b : Bool) : dataBit (dataSymbol b).halves = some b := by cases b <;> rfl

/-- Bits sent in a code are read back in it, whatever follows. -/
theorem readBits_sent {code : BitTime → Option Bool} {symbol : Bool → Symbol}
    (h : ∀ b, code (symbol b).halves = some b) (bits : List Bool) (rest : List BitTime) :
    readBits code bits.length ((bits.map symbol).map Symbol.halves ++ rest) = some bits := by
  induction bits with
  | nil => rfl
  | cons b bits ih =>
    simp only [List.map_cons, List.cons_append, List.length_cons, readBits, h, ih]

@[simp] theorem bitsOf_length (b : Byte) : (bitsOf b).length = 8 := rfl

/-- The bits of a byte have its value. -/
theorem byteOf_bitsOf (b : Byte) : byteOf (bitsValue (bitsOf b)) = b := by
  revert b; decide +kernel

/-- Bytes come back from their bits. -/
theorem bytesOfBits_bitsOf (l : List Byte) : bytesOfBits l.length (l.flatMap bitsOf) = l := by
  induction l with
  | nil => rfl
  | cons b l ih =>
    have first : ((b :: l).flatMap bitsOf).take 8 = bitsOf b := rfl
    have later : ((b :: l).flatMap bitsOf).drop 8 = l.flatMap bitsOf := rfl
    rw [List.length_cons, bytesOfBits, first, later, byteOf_bitsOf, ih]

/-- A port that sends what the pair shows meets no mismatch. -/
@[simp] theorem overridden_self (b : BitTime) : overridden b b = false := by
  obtain ⟨x, y⟩ := b; cases x <;> cases y <;> rfl

/-- A sender is overridden on a pair it shares exactly where the other drives dominant what it leaves recessive (R155). -/
theorem overridden_overlay (a b : BitTime) : overridden a (overlay a b) = overridden a b := by
  obtain ⟨x, y⟩ := a; obtain ⟨u, v⟩ := b; cases x <;> cases y <;> cases u <;> cases v <;> rfl

end Sys2Proof.Machine
end

