-- ==== Sys2Proof/Tests/Slice0.lean ====
section
/-! SUPPORT. Tests: the well-formedness checks refuse ill-formed operands; the manual's worked examples and tables come
out step by step; and for every statement that has hypotheses, a concrete state and operands that meet them. -/

set_option Elab.async false

namespace Sys2Proof.Tests

open Sys2Proof Sys2Proof.Machine Sys2Proof.Safety

/-! ### A small station -/

/-- The state a command leads to. -/
def ran (c : Instr) (s : State) : State :=
  match exec c s with
  | .next t => t
  | .fault _ => s
  | .refused _ => s

/-- Bytes from their values. -/
def bytes (l : List Nat) : List Byte := l.map byteOf

/-- A pin entry: function, FILTERED, argument. -/
def pinIs (fn : PinFn) (filtered : Bool := false) (arg : Nat := 0) : PinCfg :=
  { fn := fn, filtered := filtered, arg := arg }

/-- The pins of the test image. -/
def testPins : Vector PinCfg 32 :=
  #v[pinIs .endA, pinIs .endB, pinIs .lockOpen, pinIs .lockClosed, pinIs .gypsy, pinIs .home, pinIs .powerFault,
    pinIs .occupancy true, pinIs .supply, pinIs .standby, pinIs .key, pinIs .key, pinIs .channelOut,
    pinIs .channelOut false 1, pinIs .driveA, pinIs .driveB, pinIs .powerEnable, pinIs .lockRelease,
    pinIs .driveA false 1, pinIs .driveB false 1, pinIs .powerEnable false 1, pinIs .slow false 1, pinIs .beacon,
    pinIs .keyIndicator, pinIs .alert, pinIs .peerAlert, pinIs .drained, {}, {}, {}, {}, {}]

/-- The channels of the test image: CH0 DIMMED, CH1 SWITCHED, both on a pin; the rest without one. -/
def testChannels : Vector ChannelCfg 12 :=
  ((Vector.replicate 12 { trip := 1 : ChannelCfg }).set 0
    { kind := .dimmed, rating := 100, cls := 3, rank := 1, lmin := 20, fade := 8, trip := 60 }).set 1
    { kind := .switched, rating := 40, cls := 2, rank := 0, lmin := 0, fade := 0, trip := 60 }

/-- MV0, a HATCH with its lock fitted. -/
def testHatch : MoverCfg :=
  { kind := .hatch, zones := 3#16, runRating := 180, cls := 1, rank := 0, overcurrent := 100, travel := 40000
    lockFitted := true, stopDwell := 300, holdTimeout := 350, commandList := [2, 5]
    endA := some 0, endB := some 1, lockOpen := some 2, lockClosed := some 3, powerFault := some 6 }

/-- MV1, a WINDLASS. -/
def testWindlass : MoverCfg :=
  { kind := .windlass, zones := 4#16, runRating := 350, cls := 1, rank := 1, overcurrent := 600
    lockFitted := false, stopDwell := 300, holdTimeout := 350, commandList := [2, 5]
    chain := { pitch := 420, slowCount := 12, maxCount := 250, stallThreshold := 300, stallTime := 1500 }
    gypsy := some 4, home := some 5 }

/-- The key entries of the test image. -/
def testKeys : Vector KeyCfg 16 :=
  #v[{ pin := some 10, action := .setLevel 5 0 128 }, { pin := some 10, action := .toggle 5 1 256 },
    { pin := some 11, action := .scene 4 }, { pin := some 11, action := .holdDrive 5 0 .dirA },
    { pin := some 10, action := .holdDrive 5 0 .dirB }, { pin := some 10, action := .clear 5 0 },
    { pin := some 11, action := .forget 12 }, {}, {}, {}, {}, {}, {}, {}, {}, {}]

/-- The configuration of station 5. -/
def testCfg : Cfg :=
  { s0 := 1600, s1 := 1100, margin := 100, islandCap := 300, settle := 400, islandDelay := 1000, period := .ms100
    listenWindow := 300, officers := [2], reportNotice := false, reportDegraded := true
    occupancy := (Vector.replicate 16 none).set 0 (some 7), supply := some 8, standby := some 9
    ports := { eqFloor := 3, eqMax := 6, dwell := 4, errorThreshold := 4, selection := .either }
    pins := testPins, channels := testChannels, movers := #v[some testHatch, some testWindlass]
    keys := testKeys
    scenes := (Vector.replicate 32 []).set 4 [{ channel := 0, level := 180 }, { channel := 1, level := 0 }] }

/-- An image of that configuration, written out from Tables 8-9 to 8-17. -/
def testImage : List Byte :=
  bytes
    ([1, 232, 1, 7, 1, 0, 39, 0, 36, 2, 0, 75, 0, 5, 3, 0, 80, 0, 96, 4, 0, 176, 0, 108, 5, 1, 28, 0, 68, 6, 1, 96, 0,
      96, 7, 1, 192, 0, 38] ++
    [6, 64, 4, 76, 0, 100, 1, 44, 255, 255, 255, 255, 255, 2, 0, 0, 0, 255, 7, 255, 255, 255, 255, 255, 255, 255,
      255, 255, 255, 255, 255, 255, 255, 255, 8, 9] ++
    [3, 6, 1, 255, 2] ++
    [2, 0, 0, 3, 0, 0, 4, 0, 0, 5, 0, 0, 6, 0, 0, 7, 0, 0, 8, 0, 0, 9, 64, 0, 10, 0, 0, 11, 0, 0, 1, 0, 0, 1, 0, 0,
      12, 0, 0, 12, 0, 1, 13, 0, 0, 14, 0, 0, 16, 0, 0, 17, 0, 0, 13, 0, 1, 14, 0, 1, 16, 0, 1, 15, 0, 1, 18, 0, 0,
      19, 0, 0, 20, 0, 0, 21, 0, 0, 22, 0, 0] ++ List.replicate 15 0 ++
    [1, 0, 100, 3, 1, 20, 8, 0, 60, 0, 0, 40, 2, 0, 0, 0, 0, 60] ++
    (List.replicate 10 [0, 0, 0, 0, 0, 0, 0, 0, 1]).flatten ++
    [1, 0, 3, 0, 180, 255, 0, 0, 100, 40, 1, 255, 255, 2, 5, 0, 0, 0, 0, 0, 0, 0, 0, 0, 0, 0, 0, 0, 1, 2, 3, 255, 255,
      6] ++
    [3, 0, 4, 1, 94, 1, 1, 2, 88, 0, 0, 30, 255, 2, 5, 0, 0, 1, 164, 0, 12, 0, 250, 1, 44, 255, 255, 255, 255, 255,
      255, 4, 5, 255] ++
    [10, 1, 5, 0, 0, 128, 10, 2, 5, 1, 1, 0, 11, 3, 0, 4, 0, 0, 11, 4, 5, 0, 0, 1, 10, 4, 5, 0, 0, 2, 10, 5, 5, 0, 0,
      0, 11, 6, 12, 0, 0, 0] ++ List.replicate 54 0 ++
    [0, 0, 0, 0, 2] ++ List.replicate 27 0 ++ [0, 0, 180, 1, 0, 0] ++ [162, 231])

/-- Port A FIT, port B dark with its carrier lost. -/
def testPorts : Vector Port 2 :=
  #v[{ state := .fit, eq := 3, restartDone := true, wasFit := true, good := 8, windowEnd := some 20000
       carrier := some 19995, lastTransition := 19995 },
    { state := .dark, eq := 3, carrier := none, lastTransition := 100 }]

/-- Station 5 in RUN at 20000 ms: port A FIT, PORT_DARK B active, both movers IDLE, the chain known at 97. -/
def station : State :=
  { now := 20000
    suc := { phase := .run, since := 10000, ownNumber := some 5, image := .valid, runEntry := some 10000
             nextTick := some 20000 }
    cfg := testCfg
    liu := { ports := testPorts }
    mvu := { movers := #v[some {}, some { count := 97, known := true }] }
    csa := { inputs := Vector.replicate 14 { offset := some 23 } }
    fcl := { flags := (Vector.replicate 26 {}).set 6 { active := true }, tickCount := 90
             firstFault := some (.portDarkB, 3) } }

/-- An entry that is settled and draws what it wants. -/
def settledEntry (src : Source) (cls : Fin 8) (rank want : Nat) : Demand :=
  { source := src, cls := cls, rank := rank, want := want, settled := want, pending := none, drawing := want
    ceiling := none }

/-- The hatch RUNNING toward A, driven by station 2, its zones HELD and its entry granted. -/
def runningHatch : Mover :=
  { phase := .running, driver := some 2, direction := some .dirA, lastDrive := some 19900, timer := some 50000 }

/-- The station with the hatch in a phase of motion: its entry granted and its claim HELD. -/
def moving (r : Mover) : State :=
  { station with
    sbu := { demands := [settledEntry (.mover 0) 1 0 180], grants := #v[0, 180, 0, 0, 0, 0, 0, 0] }
    zcu := { claims := #v[.held, .unclaimed] }
    mvu := { movers := #v[some r, some { count := 97, known := true }] } }

/-- The hatch in its stop dwell after END_A. -/
def dwelling : Mover := { runningHatch with phase := .stopping, stopReason := some .atEnd, timer := some 19950 }

/-- The windlass RUNNING with a direction and a count. -/
def chain (d : Dir) (count : Nat) (known : Bool) : Mover :=
  { phase := .running, driver := some 2, direction := some d, lastDrive := some 19900, count := count, known := known }

/-- The station with the windlass in a phase of motion. -/
def hauling (r : Mover) : State :=
  { station with
    sbu := { demands := [settledEntry (.mover 1) 1 1 350], grants := #v[0, 350, 0, 0, 0, 0, 0, 0] }
    zcu := { claims := #v[.unclaimed, .held] }
    mvu := { movers := #v[some {}, some r] } }

/-- The station with CH0 at a requested and effective level that its settled entry pays for, its output there. -/
def lit (level : Nat) : State :=
  { station with
    sbu := { demands := [settledEntry (.chan 0) 3 1 ((100 * level + 255) / 256)]
             grants := #v[0, 0, 0, (100 * level + 255) / 256, 0, 0, 0, 0] }
    lcu := { channels := (Vector.replicate 12 {}).set 0 { lreq := level, leff := level, position := level } } }

/-- The station with a frame in the FIFO and under way on port A. -/
def sending (q : Queued) : State :=
  { station with
    liu :=
      { ports := #v[{ testPorts[(0 : PortId)] with attempt := some { serial := 7, frame := q.frame } },
          testPorts[(1 : PortId)]]
        fifo := [q]
        serial := 8 } }

/-- A queued DRIVE. -/
def driveAt (t : Nat) : Queued := { serial := 7, frame := .drive 5 9 0 .dirA, queuedAt := t }

/-- A peer's ANNOUNCE. -/
def peerSays (claims : List ClaimStatus) : Announce :=
  { period := .ms200, islandCap := 40, demand := #v[0, 0, 300, 0, 400, 0, 0, 0], profile := true, claims := claims }

/-- The station with a record of peer 12. -/
def withPeer (status : PeerStatus) (heard : Nat) : State :=
  let record : PeerRec := { status := status, heard := heard, ann := peerSays [] }
  { station with ptu := { peers := (Vector.replicate 48 none).set 11 (some record) } }

/-- The station in an early phase, with nothing in force. -/
def early (phase : Phase) (since now : Nat) : State :=
  { now := now, suc := { phase := phase, since := since, ownNumber := some 5 } }

/-- The station with a pin's delivered value active. -/
def withPin (s : State) (p : PinId) : State := s.onPin p fun x => { x with delivered := true }

/-! ### Well-formedness: each check refuses an ill-formed operand -/

theorem test_wf_refuses_a_short_frame : (Instr.set 0 (bytes [3, 2, 4, 5, 0, 0, 128, 1])).wf = false := by decide
theorem test_wf_refuses_a_long_frame : (Instr.driveStop 0 (encodeFrame (.drive 2 5 0 .stop) ++ [0#8])).wf = false := by
  decide +kernel
theorem test_wf_takes_a_whole_frame : (Instr.set 0 (encodeFrame (.set 2 5 0 128))).wf = true := by decide +kernel
theorem test_wf_refuses_a_raw_value_below_its_range : (Instr.senseReading 0 (-129)).wf = false := by decide
theorem test_wf_refuses_a_raw_value_above_its_range : (Instr.senseReading 0 2176).wf = false := by decide
theorem test_wf_refuses_a_memory_past_2048_bytes : (Instr.loadEnd (List.replicate 2049 0#8) 0#32).wf = false := by
  decide +kernel

/-! ### Formats -/

/-- The published check value of this CRC over the nine digits (from outside the manual). -/
theorem test_crc_of_the_nine_digits : crc16 (bytes [49, 50, 51, 52, 53, 54, 55, 56, 57]) = 0x29B1 := by decide +kernel

/-- A DRIVE frame written out from Tables 8-4 and 8-5: kind 1, source 2, length 3, target 5, mover 0, motion 1. -/
theorem test_drive_frame_is_read :
    parseFrame (bytes [1, 2, 3, 5, 0, 1, 0, 0]) = some (.drive 2 5 0 .dirA) := by decide +kernel

/-- A SET frame written out from Tables 8-4 and 8-5: kind 3, source 12, length 4, target 5, channel 3, level 0x0100. -/
theorem test_set_frame_is_read :
    parseFrame (bytes [3, 12, 4, 5, 3, 1, 0, 0, 0]) = some (.set 12 5 3 256) := by decide +kernel

/-- An ANNOUNCE body with one mover and one claim, written out from Tables 8-6 and 8-7. -/
def announceBody : List Byte :=
  bytes ([0x93, 0x51, 0x2C, 0, 1, 0, 2, 0, 3, 0, 4, 0, 5, 0, 6, 0, 7, 0x0F, 0xFF, 0x40, 0xC8] ++ List.replicate 22 0 ++
    [0, 0x0C, 0x87, 7, 1, 2, 0xCF, 1, 0x97, 19, 0, 6, 0x93])

/-- Each field of that body is read at its place. -/
theorem test_announce_body_is_read :
    parseAnnounce announceBody = some
      { period := .ms200, profile := false, starting := true, standby := false, drained := false, island := true
        listenOnly := true, islandCap := 300, demand := #v[1, 2, 3, 4, 5, 6, 7, 4095]
        channels := (Vector.replicate 12 {}).set 0 { level := 200, status := .shed }
        occupied := 0x0C#16, severity := .degraded, leadKind := 7, firstKind := 7, firstTick := 258
        movers := [{ index := 1, kind := .windlass, phase := .running, summary := .unknown, detail := 407, refusal := 19 }]
        claims := [{ zones := 6#16, held := true, key := 19 }] } := by decide +kernel

/-- The image written out from Tables 8-9 to 8-17 is accepted and gives the configuration it was written from. -/
theorem test_image_is_accepted : judgeImage testImage = some testCfg := by decide +kernel

/-! ### Start-up and the tick (the example of Section 10.1) -/

theorem test_power_on_returns_to_strap : (ran .powerOn station).suc = {} ∧ (ran .powerOn station).now = 0 := by
  decide +kernel
theorem test_pin_reset_retains_a_windlass_count :
    (ran .pinReset station).mvu.retained = #v[none, some (97, true)] := by decide +kernel
theorem test_strap_of_14_is_the_number :
    (ran (.strapSample 14) { State.reset with now := 2 }).suc.ownNumber = some 14 ∧
      (ran (.strapSample 14) { State.reset with now := 2 }).suc.phase = .load := by decide +kernel
theorem test_strap_of_49_is_refused :
    (ran (.strapSample 49) { State.reset with now := 2 }).fcl.firstFault = some (.badNumber, 0) := by decide +kernel
theorem test_a_blank_memory_is_refused :
    (ran (.loadEnd (List.replicate 64 255#8) 0#32) (early .load 2 9)).suc.image = .invalid ∧
      (ran (.loadEnd (List.replicate 64 255#8) 0#32) (early .load 2 9)).pinDrive 31 = .level true := by decide +kernel
theorem test_load_end_enters_calibrate :
    (ran (.loadEnd testImage 0x80#32) (early .load 2 9)).suc.phase = .calibrate ∧
      ((ran (.loadEnd testImage 0x80#32) (early .load 2 9)).fpr.pins[(7 : PinId)]).delivered = true := by decide +kernel
theorem test_calibrate_end_is_the_first_tick :
    (ran .calibrateEnd { early .calibrate 9 73 with cfg := testCfg }).suc.phase = .quiet ∧
      (ran .calibrateEnd { early .calibrate 9 73 with cfg := testCfg }).fcl.tickCount = 1 ∧
      (ran .calibrateEnd { early .calibrate 9 73 with cfg := testCfg }).liu.slot = none := by decide +kernel
theorem test_calibrate_end_raises_count_unknown :
    (ran .calibrateEnd { early .calibrate 9 73 with cfg := testCfg }).active .countUnknown = true := by decide +kernel
theorem test_quiet_end_announces_starting :
    (ran .quietEnd { station with suc := { station.suc with phase := .quiet, since := 19700 } }).suc.phase = .run ∧
      ((ran .quietEnd { station with suc := { station.suc with phase := .quiet, since := 19700 } }).liu.slot.map
        fun q => match q.frame with | .announce _ a => a.starting | _ => false) = some true := by decide +kernel
theorem test_tick_clears_starting :
    ((ran (.ownPeriodTick false) station).liu.slot.map
      fun q => match q.frame with | .announce _ a => a.starting | _ => true) = some false ∧
      (ran (.ownPeriodTick false) station).suc.nextTick = some 20100 := by decide +kernel

/-! ### The supply budget (the examples of Chapter 2) -/

/-- Station 7's configuration in the evening. -/
def eveningCfg : Cfg :=
  { testCfg with channels :=
      #v[{ kind := .dimmed, rating := 150, cls := 2, rank := 1, lmin := 26 }, {}, { rating := 100, cls := 2 }, {}, {},
        { kind := .dimmed, rating := 120, cls := 4, rank := 2, lmin := 32 }, { rating := 80, cls := 4, rank := 5 }, {},
        { rating := 150, cls := 5 }, {}, {}, {}] }

/-- Its demand list, all settled. -/
def eveningList : List Demand :=
  [settledEntry (.mover 1) 1 0 350, settledEntry (.chan 2) 2 0 100, settledEntry (.chan 0) 2 1 150,
    settledEntry (.chan 5) 4 2 120, settledEntry (.chan 6) 4 5 80, settledEntry (.chan 8) 5 0 150]

/-- A LIVE peer with these demands. -/
def peerWants (profile : Bool) (demand : Vector Nat 8) : Option PeerRec :=
  some { status := .live, heard := 19990, ann := { profile := profile, demand := demand } }

/-- Station 7's view, with station 12 on a profile. -/
def evening (profile : Bool) : State :=
  let third := peerWants false #v[120, 0, 400, 0, 300, 0, 0, 0]
  let twelfth := peerWants profile #v[0, 0, 300, 0, 400, 0, 0, 0]
  { station with
    cfg := eveningCfg
    ptu := { peers := ((Vector.replicate 48 none).set 2 third).set 11 twelfth }
    sbu := { demands := eveningList } }

theorem test_evening_grants : (evening false).computeGrants = #v[0, 350, 250, 0, 17, 0, 0, 0] := by decide +kernel
theorem test_evening_drawings :
    (allocate eveningCfg #v[0, 350, 250, 0, 17, 0, 0, 0] eveningList).map (fun d => d.drawing) =
      [350, 100, 150, 17, 0, 0] := by decide +kernel
theorem test_generator_grants_and_drawings :
    (evening true).computeGrants = #v[0, 350, 139, 0, 0, 0, 0, 0] ∧
      (allocate eveningCfg (evening true).computeGrants eveningList).map (fun d => d.drawing) =
        [350, 100, 39, 0, 0, 0] := by decide +kernel

/-- The evening's entries at their drawings, without the windlass. -/
def cutOff : State :=
  { evening false with
    now := 9000
    sbu :=
      { demands := (allocate eveningCfg #v[0, 350, 250, 0, 17, 0, 0, 0] eveningList).tail
        grants := #v[0, 350, 250, 0, 17, 0, 0, 0]
        islandTimer := some 9000 } }

theorem test_island_entry_takes_the_drawings_as_ceilings :
    (ran .islandDelayExpiry cutOff).sbu.demands.map (fun d => (d.ceiling, d.settled)) =
      [(some 100, 100), (some 150, 150), (some 17, 17), (some 0, 0), (some 0, 0)] := by decide +kernel
theorem test_island_tick_draws_within_the_cap :
    ((ran .islandDelayExpiry cutOff).budgetTick).sbu.grants = #v[0, 0, 250, 0, 50, 0, 0, 0] ∧
      ((ran .islandDelayExpiry cutOff).budgetTick).sbu.demands.map (fun d => d.drawing) = [100, 150, 17, 0, 0] := by
  decide +kernel

/-- The cabin light of Section 2.5: W lowered to 94 with 120 pending since 1102. -/
def cabin (want pa now : Nat) : State :=
  { station with
    now := now
    sbu := { demands := [{ settledEntry (.chan 0) 3 1 60 with want := want, pending := some (pa, 1102) }] } }

theorem test_settle_at_1502 :
    (ran (.settle (.chan 0)) (cabin 94 94 1502)).demandOf (.chan 0) =
      some { settledEntry (.chan 0) 3 1 60 with want := 94, settled := 94 } := by decide +kernel
theorem test_settle_not_before :
    ran (.settle (.chan 0)) (cabin 94 94 1501) = cabin 94 94 1501 := by decide +kernel
theorem test_a_decrease_lowers_the_pending_amount :
    changeWant false 94 { settledEntry (.chan 0) 4 2 60 with want := 120, pending := some (120, 1102) } =
      { settledEntry (.chan 0) 4 2 60 with want := 94, pending := some (94, 1102) } := by decide

/-! ### Load channels (the examples of Chapter 3) -/

theorem test_set_64_lowers_the_level :
    ((ran (.set 0 (encodeFrame (.set 12 5 0 64))) (lit 256)).lcu.channels[(0 : ChannelId)]).leff = 64 ∧
      ((ran (.set 0 (encodeFrame (.set 12 5 0 64))) (lit 256)).lcu.channels[(0 : ChannelId)]).position = 256 ∧
      (ran (.set 0 (encodeFrame (.set 12 5 0 64))) (lit 256)).chanDrawing 0 = some 25 := by decide +kernel
theorem test_set_below_the_minimum_gives_the_minimum :
    ((ran (.set 0 (encodeFrame (.set 12 5 0 5))) station).lcu.channels[(0 : ChannelId)]).lreq = 20 := by decide +kernel
theorem test_scene_4_sets_its_channels :
    ((ran (.scene 0 (encodeFrame (.scene 12 4))) (lit 256)).lcu.channels[(0 : ChannelId)]).lreq = 180 ∧
      ((ran (.scene 0 (encodeFrame (.scene 12 4))) (lit 256)).lcu.channels[(1 : ChannelId)]).lreq = 0 := by
  decide +kernel
theorem test_fade_beat_steps_8_levels :
    let s := (lit 64).onChannel 0 fun c => { c with position := 256 }
    ((ran .fadeBeat s).lcu.channels[(0 : ChannelId)]).position = 248 := by decide +kernel
theorem test_tick_cuts_an_unpaid_position :
    let s := (lit 64).onChannel 0 fun c => { c with position := 208 }
    ((ran (.ownPeriodTick false) s).lcu.channels[(0 : ChannelId)]).position = 64 := by decide +kernel
theorem test_fade_from_0_starts_at_the_minimum : fadeStep testCfg.channels[(0 : ChannelId)] 0 256 = 20 := by
  decide +kernel

/-- The blower of Section 3.5 at a time: on, reading 70 against a threshold of 60. -/
def blower (now : Nat) (inrush overTime memory : Option Nat) : State :=
  let on : Channel :=
    { lreq := 256, leff := 256, position := 256, inrush := inrush, overTime := overTime, tripMemory := memory
      lastReading := 70 }
  { station with
    now := now
    lcu := { channels := (Vector.replicate 12 {}).set 1 on }
    sbu := { demands := [settledEntry (.chan 1) 2 0 40], grants := #v[0, 0, 40, 0, 0, 0, 0, 0] } }

theorem test_inrush_end_starts_the_over_time :
    ((ran (.inrushWindowExpiry 1) (blower 10500 (some 10500) none none)).lcu.channels[(1 : ChannelId)]).overTime =
      some 10500 := by decide +kernel
theorem test_trip_sets_the_memory :
    ((ran (.channelTrip 1) (blower 10600 none (some 10500) none)).lcu.channels[(1 : ChannelId)]).tripMemory =
        some 70600 ∧
      (ran (.channelTrip 1) (blower 10600 none (some 10500) none)).fcl.flags[FaultKind.channelTrip.idx] =
        { active := true, hold := some 15600 } := by decide +kernel
theorem test_second_trip_locks_out :
    ((ran (.channelTrip 1) (blower 26200 none (some 26100) (some 70600))).lcu.channels[(1 : ChannelId)]).mark =
      .lockedOut := by decide +kernel
theorem test_a_trip_overrules_a_set_taken_first :
    let s := blower 10600 none (some 10500) none
    let t := ran (.set 0 (encodeFrame (.set 12 5 1 0))) s;
    (t.lcu.channels[(1 : ChannelId)]).position = 0 ∧
      ((ran (.channelTrip 1) t).lcu.channels[(1 : ChannelId)]).mark = .tripped ∧
      ran (.channelTrip 1) { t with now := 10601 } = { t with now := 10601 } := by decide +kernel
theorem test_a_second_trip_overrules_a_scene_taken_first :
    let s := blower 26200 none (some 26100) (some 70600)
    let t := ran (.channelTrip 1) (ran (.scene 0 (encodeFrame (.scene 12 4))) s);
    (t.lcu.channels[(1 : ChannelId)]).mark = .lockedOut ∧ t.active .channelTrip = true := by decide +kernel
theorem test_trip_memory_runs_out :
    ((ran (.tripMemoryExpiry 1) (blower 70600 none none (some 70600))).lcu.channels[(1 : ChannelId)]).tripMemory =
      none := by decide +kernel

/-- What CS0 delivers for a raw value under an offset. -/
def delivered (raw offset : Int) : Nat :=
  ((ran (.senseReading 0 raw) (station.onSense 0 fun x => { x with offset := some offset })).lcu.channels[
    (0 : ChannelId)]).lastReading

theorem test_sense_readings_of_table_7_7 :
    [delivered 23 23, delivered 14 23, delivered 700 23, delivered 700 (-31), delivered 2175 (-31), delivered 2090 40] =
      [0, 0, 677, 731, 2047, 2047] := by decide +kernel

/-! ### Stations and peers (the example of Section 1.5) -/

theorem test_peer_is_stale_at_1601 :
    ((ran (.peerStale 11) { withPeer .live 1001 with now := 1601 }).ptu.peers[(11 : SlotId)]).map (fun r => r.status) =
        some .stale ∧
      ran (.peerStale 11) { withPeer .live 1001 with now := 1600 } = { withPeer .live 1001 with now := 1600 } := by
  decide +kernel
theorem test_peer_is_orphan_at_3001 :
    (ran (.peerOrphan 11) { withPeer .stale 1001 with now := 3001 }).active .peerOrphaned = true ∧
      (ran (.peerOrphan 11) { withPeer .stale 1001 with now := 3001 }).classTotal 0 = 40 := by decide +kernel
theorem test_announce_returns_a_peer_to_live :
    (ran (.announceReceived 0 (encodeFrame (.announce 12 (peerSays [])))) (withPeer .orphan 1001)).ptu.peers[
      (11 : SlotId)] = some { status := .live, heard := 20000, ann := peerSays [] } := by decide +kernel
theorem test_own_number_heard_is_a_twin :
    (ran (.announceReceived 0 (encodeFrame (.announce 5 (peerSays [])))) station).active .twin = true := by
  decide +kernel
theorem test_forget_from_the_officer :
    (ran (.forget 0 (encodeFrame (.forget 2 12))) (withPeer .orphan 1001)).ptu.peers[(11 : SlotId)] = none := by
  decide +kernel
theorem test_forget_from_another_station :
    ((ran (.forget 0 (encodeFrame (.forget 3 12))) (withPeer .orphan 1001)).ptu.peers[(11 : SlotId)]).isSome = true := by
  decide +kernel

/-! ### Claims and movers (the examples of Chapters 4 and 5) -/

/-- The hatch asking for motion, its intent listening since a time. -/
def asking (start now : Nat) : State :=
  { moving { runningHatch with phase := .requesting, timer := some (start + 10000) } with
    now := now, zcu := { claims := #v[.listening start, .unclaimed] } }

theorem test_dir_a_asks_for_motion :
    (ran (.driveDirA 0 (encodeFrame (.drive 2 5 0 .dirA))) station).claim 0 = .listening 20000 ∧
      ((ran (.driveDirA 0 (encodeFrame (.drive 2 5 0 .dirA))) station).mover 0).map (fun r => (r.phase, r.timer)) =
        some (.requesting, some 30000) ∧
      (ran (.driveDirA 0 (encodeFrame (.drive 2 5 0 .dirA))) station).sbu.offers = [(.mover 0, 180)] := by
  decide +kernel
theorem test_dir_b_at_the_closed_end_is_refused :
    ((ran (.driveDirB 0 (encodeFrame (.drive 2 5 0 .dirB))) (withPin station 1)).mover 0).map
      (fun r => (r.phase, r.lastRefusal)) = some (.idle, .atLimit) := by decide +kernel
theorem test_listen_window_ends_in_held : (ran (.listenWindowExpiry 0) (asking 1040 1340)).claim 0 = .held := by
  decide +kernel
theorem test_listen_window_yields_to_a_lower_key :
    let s := ran (.announceReceived 0 (encodeFrame (.announce 1 (peerSays [{ zones := 2#16, held := false, key := 3 }]))))
      (asking 1040 1200)
    s.claim 0 = .waiting := by decide +kernel
theorem test_request_limit_names_blocked :
    ((ran (.requestTimeLimit 0) { asking 1000 11000 with zcu := { claims := #v[.waiting, .unclaimed] } }).mover 0).map
      (fun r => r.lastRefusal) = some .blocked := by decide +kernel
theorem test_occupancy_stops_a_running_hatch :
    ((ran (.occupancyChange 7 true) (moving runningHatch)).mover 0).map (fun r => r.stopReason) =
      some (some .occupied) := by decide +kernel
theorem test_lock_open_starts_the_travel_timer :
    ((ran (.lockOpenChange 2 true) { moving { runningHatch with phase := .unlocking } with now := 1820 }).mover 0).map
      (fun r => (r.phase, r.timer)) = some (.running, some 41820) := by decide +kernel
theorem test_lock_closed_ends_locking :
    ((ran (.lockClosedChange 3 true) (moving { runningHatch with phase := .locking, stopReason := some .atEnd })).mover
      0).map (fun r => (r.phase, r.lastRefusal)) = some (.idle, .clear) := by decide +kernel
theorem test_lock_timer_jams :
    ((ran (.lockTimerExpiry 0) { moving { runningHatch with phase := .unlocking, timer := some 4500 } with
      now := 4500 }).mover 0).map (fun r => r.faultReason) = some (some .lockJam) := by decide +kernel
theorem test_end_a_starts_the_stop_dwell :
    ((ran (.endSwitchChange 0 true) { moving runningHatch with now := 19650 }).mover 0).map
      (fun r => (r.stopReason, r.timer)) = some (some .atEnd, some 19950) := by decide +kernel
theorem test_stop_dwell_ends_in_idle :
    ((ran (.stopDwellEnd 0) { moving dwelling with now := 19950 }).mover 0).map (fun r => (r.phase, r.lastRefusal)) =
      some (.idle, .clear) := by decide +kernel
theorem test_stop_dwell_locks_at_the_b_end :
    ((ran (.stopDwellEnd 0) (withPin (moving dwelling) 1)).mover 0).map (fun r => (r.phase, r.timer)) =
      some (.locking, some 23000) := by decide +kernel
theorem test_stop_sets_the_release_guard :
    ((ran (.driveStop 0 (encodeFrame (.drive 2 5 0 .stop))) (moving runningHatch)).mover 0).map
      (fun r => (r.phase, r.releaseGuard)) = some (.stopping, some (2, 20350)) := by decide +kernel
theorem test_dir_b_in_running_marks_the_reversal :
    ((ran (.driveDirB 0 (encodeFrame (.drive 2 5 0 .dirB))) (moving runningHatch)).mover 0).map
      (fun r => (r.phase, r.reversal, r.lastDrive)) = some (.stopping, some .dirB, some 20000) := by decide +kernel
theorem test_dir_from_another_driver_is_busy :
    ((ran (.driveDirA 0 (encodeFrame (.drive 5 5 0 .dirA))) (moving runningHatch)).mover 0).map
      (fun r => (r.phase, r.lastRefusal)) = some (.running, .busy) := by decide +kernel
theorem test_hold_to_run_ends_350_ms_after_the_last_drive :
    ((ran (.holdToRunTimeout 0) { moving runningHatch with now := 20250 }).mover 0).map (fun r => r.stopReason) =
        some (some .released) ∧
      ran (.holdToRunTimeout 0) { moving runningHatch with now := 20249 } =
        { moving runningHatch with now := 20249 } := by decide +kernel
theorem test_travel_timeout_faults :
    ((ran (.travelTimeout 0) { moving runningHatch with now := 50000 }).mover 0).map (fun r => r.lastRefusal) =
      some .travelTimeout := by decide +kernel
theorem test_overload_faults_after_200_ms :
    ((ran (.overload 0) (moving { runningHatch with overTime := some 19800 })).mover 0).map (fun r => r.lastRefusal) =
        some .overload ∧
      ran (.overload 0) (moving { runningHatch with overTime := some 19801 }) =
        moving { runningHatch with overTime := some 19801 } := by decide +kernel
theorem test_power_fault_faults_its_mover :
    ((ran (.powerFaultChange 6 true) (moving runningHatch)).mover 0).map (fun r => r.faultReason) =
      some (some .pumpFault) := by decide +kernel
theorem test_clear_waits_for_the_power_fault_to_end :
    let f : Mover := { phase := .faulted, faultReason := some .pumpFault, lastRefusal := .pumpFault }
    let s := station.onMover 0 fun _ => f
    ((ran (.driveClear 0 (encodeFrame (.drive 2 5 0 .clear))) (withPin s 6)).mover 0).map (fun r => r.lastRefusal) =
        some .notCleared ∧
      ((ran (.driveClear 0 (encodeFrame (.drive 2 5 0 .clear))) s).mover 0).map (fun r => r.phase) = some .idle := by
  decide +kernel
theorem test_release_guard_runs_out :
    ((ran (.releaseGuardExpiry 0) { moving { runningHatch with releaseGuard := some (2, 20000) } with
      now := 20000 }).mover 0).map (fun r => r.releaseGuard) = some none := by decide +kernel
theorem test_beacon_blinks_by_half_seconds :
    (ran .beaconBlink { station with now := 20500 }).blink = false ∧
      (ran .beaconBlink { station with now := 21000 }).blink = true := by decide +kernel

/-! ### The windlass (the examples of Chapter 6) -/

theorem test_rode_lengths_of_table_6_4 :
    [0, 12, 60, 97, 250, 253].map (rodeLength testWindlass) = [0, 50, 252, 407, 1050, 1062] := by decide
theorem test_haul_in_pulse_counts_down_and_clamps :
    ((ran (.gypsyPulse 4 true) (hauling (chain .dirB 97 true))).mover 1).map (fun r => r.count) = some 96 ∧
      ((ran (.gypsyPulse 4 true) (hauling (chain .dirB 0 false))).mover 1).map (fun r => (r.count, r.known)) =
        some (0, false) := by decide +kernel
theorem test_free_fall_pulse_counts_up :
    ((ran (.gypsyPulse 4 true) station).mover 1).map (fun r => r.count) = some 98 := by decide +kernel
theorem test_slow_begins_at_12 :
    ((hauling (chain .dirB 12 true)).moverOutputs 1).slow = true ∧
      ((hauling (chain .dirB 13 true)).moverOutputs 1).slow = false := by decide +kernel
theorem test_home_stops_the_haul_in :
    ((ran (.homeChange 5 true) (hauling (chain .dirB 3 false))).mover 1).map
      (fun r => (r.phase, r.stopReason, r.count, r.known)) = some (.stopping, some .atEnd, 0, true) := by decide +kernel
theorem test_stall_after_1500_ms :
    ((ran (.stall 1) { hauling { chain .dirB 0 false with stallSpan := some 12500 } with now := 14000 }).mover 1).map
        (fun r => r.faultReason) = some (some .stall) ∧
      ((ran (.stall 1) { hauling { chain .dirB 0 false with stallSpan := some 12500 } with now := 13999 }).mover 1).map
        (fun r => r.phase) = some .running := by decide +kernel

/-! ### Keys (the example of Section 7.4) and the pins -/

theorem test_set_level_key_sets_its_own_channel :
    ((ran (.keySetLevel 0) station).lcu.channels[(0 : ChannelId)]).lreq = 128 ∧
      (ran (.keySetLevel 0) station).liu.fifo.map (fun q => q.frame) = [.set 5 5 0 128] := by decide +kernel
theorem test_toggle_key_turns_a_lit_channel_off :
    (ran (.keyToggle 1) (blower 20000 none none none)).liu.fifo.map (fun q => q.frame) = [.set 5 5 1 0] := by
  decide +kernel
theorem test_scene_key_is_acknowledged :
    ((ran (.keyScene 2) station).ktu.keys[(2 : KeyId)]).ackUntil = some 21000 ∧
      ((ran (.acknowledgeExpiry 2) { ran (.keyScene 2) station with now := 21000 }).ktu.keys[(2 : KeyId)]).ackUntil =
        none := by decide +kernel

/-- The press of entry 3 (open) at 20000 ms, and of entry 4 (close) 240 ms later. -/
def bothHeld : State := ran (.keyHoldDrive 4) { ran (.keyHoldDrive 3) station with now := 20240 }

theorem test_the_later_press_suppresses_the_earlier :
    (bothHeld.ktu.keys[(3 : KeyId)]).standing = .suppressed ∧
      bothHeld.ktu.keys[(4 : KeyId)] = { held := true, standing := .driving, nextRepeat := some 20340 } := by
  decide +kernel
theorem test_key_repeat_drives_again :
    ((ran (.keyRepeat 4) { bothHeld with now := 20340 }).liu.fifo.map fun q => q.frame) =
      [.drive 5 5 0 .dirA, .drive 5 5 0 .dirB, .drive 5 5 0 .dirB] := by decide +kernel
theorem test_release_of_a_suppressed_key_sends_nothing :
    (ran (.keyRelease 3) bothHeld).liu.fifo = bothHeld.liu.fifo ∧
      ((ran (.keyRelease 4) bothHeld).liu.fifo.map fun q => q.frame) =
        [.drive 5 5 0 .dirA, .drive 5 5 0 .dirB, .drive 5 5 0 .stop] := by decide +kernel
theorem test_clear_key_composes_a_clear :
    (ran (.keyClear 5) station).liu.fifo.map (fun q => q.frame) = [.drive 5 5 0 .clear] := by decide +kernel
theorem test_forget_key_composes_a_forget :
    (ran (.keyForget 6) station).liu.fifo.map (fun q => q.frame) = [.forget 5 12] := by decide +kernel
theorem test_a_filtered_pin_is_delivered_after_20_ms :
    let s := station.onPin 7 fun x => { x with level := true, candidate := some 19981 }
    (match step s with | .next t => t.pending.contains (.occupancyChange 7 true) | _ => false) = true := by
  decide +kernel

theorem test_a_tick_keeps_the_supply_candidate :
    let s := station.onPin 8 fun x => { x with level := true, candidate := some 19990 };
    (ran (.ownPeriodTick false) s).fpr = s.fpr ∧ (ran (.ownPeriodTick false) s).sbu.profile = false := by decide +kernel

/-! ### Symbols (Table 8-1) -/

theorem test_a_drive_is_heard_as_it_is_sent :
    hearPair 2 (((frameSymbols (encodeFrame (.drive 2 5 0 .stop))).drop 1).map Symbol.halves) =
      .whole (encodeFrame (.drive 2 5 0 .stop)) ∧
    heardCommand 0 (.whole (encodeFrame (.drive 2 5 0 .stop))) = .driveStop 0 (encodeFrame (.drive 2 5 0 .stop)) := by
  decide +kernel
theorem test_the_lower_source_wins_the_pair :
    let two := (frameSymbols (encodeFrame (.scene 2 4))).map Symbol.halves
    let six := (frameSymbols (encodeFrame (.scene 6 4))).map Symbol.halves
    let pair := List.zipWith overlay two six;
    attemptCommand 0 (endOfAttempt arbitrationSpan two (pair.take 17)) = .frameCompletion 0 ∧
      attemptCommand 0 (endOfAttempt arbitrationSpan six (pair.take 17)) = .arbitrationLoss 0 := by decide +kernel
theorem test_a_disagreement_after_the_source_is_a_mismatch :
    let two := (frameSymbols (encodeFrame (.scene 2 4))).map Symbol.halves
    let twin := (frameSymbols (encodeFrame (.scene 2 5))).map Symbol.halves;
    attemptCommand 0 (endOfAttempt arbitrationSpan two (List.zipWith overlay two twin)) = .echoMismatch 0 := by
  decide +kernel
theorem test_a_link_pulse_opens_no_frame :
    hearPair 1 ((linkPulseSymbols.drop 1).map Symbol.halves) = .linkPulse ∧
      hearPair 3 ((linkPulseSymbols.drop 1).map Symbol.halves) = .noise := by decide +kernel

/-! ### The ports (the examples of Sections 8.2 and 8.5) -/

/-- Port B as it searches. -/
def seekingB (eq start : Nat) (restarted decoded : Bool) (late : Nat) (now : Nat) : State :=
  { station.onPort 1 fun x =>
      { x with
        state := .seeking
        eq := eq
        restartDone := restarted
        dwell := some { start := start, decoded := decoded, lateErrors := late }
        carrier := some now } with now := now }

/-- Port B as it locks or is FIT. -/
def lockedB (state : PortState) (good errors : Nat) : State :=
  (station.onPort 1 fun x =>
    { x with state := state, eq := 4, good := good, errors := errors, windowEnd := some 20900, carrier := some 19999
             wasFit := decide (state = .fit) }).clearFlag .portDarkB

theorem test_a_transition_wakes_port_b :
    ((ran (.darkPortTransition 1) { station with now := 5000 }).liu.ports[(1 : PortId)]).state = .seeking ∧
      ((ran (.darkPortTransition 1) { station with now := 5000 }).liu.ports[(1 : PortId)]).eq = 3 ∧
      (ran (.darkPortTransition 1) { station with now := 5000 }).active .portDarkB = false := by decide +kernel
theorem test_loss_of_lock_steps_the_setting :
    ((ran (.lossOfLock 1) (seekingB 3 5000 false false 0 5002)).liu.ports[(1 : PortId)]).eq = 4 ∧
      ((ran (.lossOfLock 1) (seekingB 6 5000 false false 0 5002)).liu.ports[(1 : PortId)]).eq = 3 := by decide +kernel
theorem test_first_success_restarts_the_settling :
    ((ran (.dwellEnd 1) (seekingB 4 5002 false true 1 5006)).liu.ports[(1 : PortId)]).restartDone = true ∧
      ((ran (.dwellEnd 1) (seekingB 4 5002 false true 1 5006)).liu.ports[(1 : PortId)]).eq = 3 := by decide +kernel
theorem test_second_success_locks :
    ((ran (.dwellEnd 1) (seekingB 4 5007 true true 4 5011)).liu.ports[(1 : PortId)]).state = .locked ∧
      ((ran (.dwellEnd 1) (seekingB 4 5007 true true 5 5011)).liu.ports[(1 : PortId)]).state = .seeking := by
  decide +kernel
theorem test_eighth_good_frame_is_fit :
    ((ran (.scene 1 (encodeFrame (.scene 12 0))) (lockedB .locked 7 0)).liu.ports[(1 : PortId)]).state = .fit ∧
      ((ran (.scene 1 (encodeFrame (.scene 12 0))) (lockedB .locked 6 0)).liu.ports[(1 : PortId)]).good = 7 := by
  decide +kernel
theorem test_fifth_crc_error_of_the_window :
    ((ran (.crcError 1) (lockedB .fit 8 4)).liu.ports[(1 : PortId)]).state = .locked ∧
      (ran (.crcError 1) (lockedB .fit 8 4)).active .portUnfitB = true ∧
      ((ran (.crcError 1) (lockedB .fit 8 3)).liu.ports[(1 : PortId)]).state = .fit := by decide +kernel
theorem test_error_window_ends :
    ((ran (.errorWindowEnd 1) { lockedB .fit 8 4 with now := 20900 }).liu.ports[(1 : PortId)]).windowEnd =
      some 21900 := by decide +kernel
theorem test_carrier_is_lost_after_20_ms :
    ((ran (.carrierLoss 0) { station with now := 20015 }).liu.ports[(0 : PortId)]).state = .dark ∧
      (ran (.carrierLoss 0) { station with now := 20015 }).active .lineUnfit = true ∧
      ran (.carrierLoss 0) { station with now := 20014 } = { station with now := 20014 } := by decide +kernel
theorem test_an_attempt_dropped_at_dark_holds_the_next_pulse_back :
    let dark := ran (.carrierLoss 0) { sending (driveAt 19990) with now := 20015 }
    (dark.liu.ports[(0 : PortId)]).attempt = none ∧ (dark.liu.ports[(0 : PortId)]).lastTransition = 20015 ∧
      ran (.linkPulse 0) dark = dark ∧
      ((ran (.linkPulse 0) { dark with now := 20016 }).liu.ports[(0 : PortId)]).pulseAt = some 20016 := by
  decide +kernel
theorem test_link_pulse_a_millisecond_after_the_last_transition :
    ((ran (.linkPulse 0) { station with now := 19996 }).liu.ports[(0 : PortId)]).pulseAt = some 19996 ∧
      ran (.linkPulse 0) { station with now := 19995 } = { station with now := 19995 } := by decide +kernel
theorem test_an_aborted_frame_is_carrier :
    ((ran (.frameAborted 0) station).liu.ports[(0 : PortId)]).carrier = some 20000 ∧
      (ran (.frameAborted 0) station).fcl = station.fcl := by decide +kernel
theorem test_a_start_symbol_is_seen_in_the_dwell :
    (((ran (.transitionFromAnotherStation 1 true) (seekingB 3 5000 false false 0 5001)).liu.ports[
      (1 : PortId)]).dwell.map fun d => d.decoded) = some true := by decide +kernel
theorem test_transmit_start_takes_the_announce_before_a_set :
    let set : Queued := { serial := 3, frame := .set 5 9 0 1, queuedAt := 19999 }
    let s := { ran (.ownPeriodTick false) station with liu :=
      { (ran (.ownPeriodTick false) station).liu with fifo := [set], serial := 9 } }
    (((ran (.transmitStart 0) s).liu.ports[(0 : PortId)]).attempt.map fun a => a.frame.kindCode) = some 2 := by
  decide +kernel
theorem test_arbitration_loss_leaves_the_frame_unsent :
    (ran (.arbitrationLoss 0) (sending (driveAt 19990))).liu.fifo = [driveAt 19990] ∧
      ((ran (.arbitrationLoss 0) (sending (driveAt 19990))).liu.ports[(0 : PortId)]).attempt = none := by decide +kernel
theorem test_completion_with_the_other_port_dark_leaves_the_queue :
    (ran (.frameCompletion 0) (sending (driveAt 19990))).liu.fifo = [] := by decide +kernel
theorem test_one_mismatch_is_noise_and_two_are_a_twin :
    (ran (.echoMismatch 0) (sending (driveAt 19990))).active .twin = false ∧
      (ran (.echoMismatch 0) (sending { driveAt 19990 with mismatch := #v[true, false] })).active .twin = true := by
  decide +kernel
theorem test_a_drive_is_stale_at_200_ms :
    (ran .driveStale (sending (driveAt 19800))).active .driveStale = true ∧
      ran .driveStale (sending (driveAt 19801)) = sending (driveAt 19801) := by decide +kernel

/-! ### Faults (the example of Section 9.3) and stand-down -/

theorem test_port_dark_b_leads_channel_trip :
    leadingKind ((station.raiseEvent .channelTrip).raiseEvent .crcError) = some .portDarkB ∧
      worstSeverity ((station.raiseEvent .channelTrip).raiseEvent .crcError) = .degraded := by decide +kernel
theorem test_a_hold_timer_clears_its_kind :
    (ran (.holdTimerExpiry .channelTrip) { station.raiseEvent .channelTrip with now := 25000 }).active .channelTrip =
        false ∧
      (ran (.holdTimerExpiry .channelTrip) { station.raiseEvent .channelTrip with now := 24999 }).active .channelTrip =
        true := by decide +kernel
theorem test_standby_stops_and_holds :
    (ran .standbyAssert (moving runningHatch)).standDownState = .standingDown ∧
      (ran .standbyAssert station).standDownState = .drained := by decide +kernel
theorem test_standby_deassert_returns_to_normal :
    (ran .standbyDeassert (ran .standbyAssert station)).standDownState = .normal := by decide +kernel

/-! ### Witnesses: states and operands that meet the statements' hypotheses, clause by clause -/

/-- All there is in an option, as the statements say it. -/
theorem of_option {α : Type} {o : Option α} {P : α → Prop} (h : ∀ x ∈ o, P x) : ∀ x, o = some x → P x := h

theorem station_fit : FitnessOk station := fun _ => by decide +kernel
theorem moving_fit (r : Mover) : FitnessOk (moving r) := fun _ => rfl
theorem station_calm : Calm station 0 := ⟨heardNow_lineFit (by decide), by decide +kernel, by decide +kernel, station_fit⟩
theorem moving_calm (r : Mover) : Calm (moving r) 0 :=
  ⟨heardNow_lineFit (show PortState.fit ≠ .locked by decide), rfl, rfl, moving_fit r⟩
/-- A LOCKED port is calm where its frame does not move line fitness, the eighth among them. -/
theorem locked_calm : Calm (lockedB .locked 7 0) 1 ∧ Calm (lockedB .locked 6 0) 1 :=
  ⟨⟨by decide +kernel, by decide +kernel, by decide +kernel, fun _ => by decide +kernel⟩,
    ⟨by decide +kernel, by decide +kernel, by decide +kernel, fun _ => by decide +kernel⟩⟩

theorem witness_StepTakesTheFrontCommand :
    ({ station with pending := [.fadeBeat, .driveStale] } : State).pending = .fadeBeat :: [.driveStale] := rfl

theorem witness_IdleStepSamplesThePins :
    (station.pending = [] ∧ ({ station with now := 2 ^ 48 - 2 } : State).now + 1 < 2 ^ 48 ∧
      2 ^ 48 ≤ ({ station with now := 2 ^ 48 - 1 } : State).now + 1) ∧
    station.sampling = true ∧ PinFn.isInput (station.cfg.pins[(7 : PinId)]).fn = true ∧
    ((station.fpr.pins[(7 : PinId)]).level != (station.cfg.pins[(7 : PinId)]).inverted) =
      (station.fpr.pins[(7 : PinId)]).delivered ∧
    (let s := station.onPin 7 fun x => { x with level := true, candidate := some 19982 };
      ((s.fpr.pins[(7 : PinId)]).level != (s.cfg.pins[(7 : PinId)]).inverted) ≠ (s.fpr.pins[(7 : PinId)]).delivered ∧
      (s.cfg.pins[(7 : PinId)]).filtered = true ∧ ∀ k ∈ (s.fpr.pins[(7 : PinId)]).candidate, s.now + 1 < k + 20) ∧
    (let s := station.onPin 7 fun x => { x with level := true, candidate := some 19981 };
      (s.fpr.pins[(7 : PinId)]).candidate = some 19981 ∧ 19981 + 20 ≤ s.now + 1) ∧
    (let s := station.onPin 8 fun x => { x with level := true };
      (s.cfg.pins[(8 : PinId)]).filtered = false ∧ (s.cfg.pins[(8 : PinId)]).fn ≠ .key ∧
      changeCommands s 8 true = []) := by decide +kernel

theorem witness_EveryCommandCompletes :
    Instr.fadeBeat ≠ .powerOn ∧ Instr.fadeBeat ≠ .pinReset ∧ station.suc.phase ≠ .strap ∧
      station.suc.phase ≠ .load := by decide

theorem witness_ResetsRestartTheStation :
    (∃ u, exec .powerOn station = .next u) ∧
    (∃ r, station.mover 1 = some r ∧ (station.moverCfg 1).kind = .windlass) ∧
    (∃ r, station.mover 0 = some r ∧ (station.moverCfg 0).kind ≠ .windlass) ∧ State.reset.mover 0 = none :=
  ⟨⟨_, rfl⟩, ⟨_, rfl, rfl⟩, ⟨_, rfl, by decide⟩, rfl⟩

theorem witness_StrapSampleGivesTheNumber :
    (({ State.reset with now := 2 } : State).suc.phase = .strap ∧ 0 + 2 ≤ ({ State.reset with now := 2 } : State).now ∧
      ({ State.reset with now := 2 } : State).suc.image = .unread ∧
      ({ State.reset with now := 2 } : State).fcl = {}) ∧
    (∀ v ∈ ([1, 48] : List (BitVec 6)), 1 ≤ v.toNat ∧ v.toNat ≤ 48) ∧
    (∀ v ∈ ([0, 49, 63] : List (BitVec 6)), ¬(1 ≤ v.toNat ∧ v.toNat ≤ 48)) := by decide +kernel

theorem witness_LoadEndJudgesTheImage :
    ((early .load 2 9).suc.phase = .load ∧ judgeImage testImage = some testCfg ∧
      PinFn.isInput (testCfg.pins[(0 : PinId)]).fn = true ∧ PinFn.isInput (testCfg.pins[(12 : PinId)]).fn = false ∧
      (∃ c, testCfg.movers[(1 : MoverId)] = some c ∧ c.kind = .windlass) ∧
      (∀ c ∈ testCfg.movers[(0 : MoverId)], c.kind ≠ .windlass)) ∧
    (early .load 2 9).fcl = {} ∧ (early .load 2 9).sbu = {} ∧ judgeImage [] = none :=
  ⟨⟨rfl, test_image_is_accepted, by decide, by decide, ⟨_, rfl, rfl⟩, by decide +kernel⟩, rfl, rfl, by decide +kernel⟩

/-- Byte i of the test image replaced. -/
def spoiled (i value : Nat) : List Byte := testImage.set i (byteOf value)

/-- The test image with its CRC made right again after a byte was replaced. -/
def rewritten (i value : Nat) : List Byte :=
  let body := (spoiled i value).take (testImage.length - 2)
  body ++ word (crc16 body)

theorem test_images_refused :
    judgeImage (spoiled 487 230) = none ∧
      (∀ x ∈ ([(2, 2), (3, 6), (4, 2), (6, 38), (8, 35), (43, 255)] : List (Nat × Nat)),
        judgeImage (rewritten x.1 x.2) = none) ∧
      (judgeImage (rewritten 50 0)).map (fun c => c.period) = some .ms50 := by decide +kernel

theorem witness_AcceptedImagesKeepTheRanges :
    judgeImage testImage = some testCfg ∧ judgeImage (rewritten 2 2) = none :=
  ⟨test_image_is_accepted, test_images_refused.2.1 (2, 2) (by decide)⟩

theorem witness_CalibrateEndAndQuietEnd :
    (let s : State := { early .calibrate 9 73 with cfg := testCfg };
      s.suc.phase = .calibrate ∧ s.suc.since + 64 ≤ s.now ∧ (∀ m, s.mover m = none) ∧
        senseInUse s.cfg 0 = true ∧ senseInUse s.cfg 2 = false ∧ (s.cfg.movers[(0 : MoverId)]).isSome = true ∧
        (early .calibrate 9 73).cfg.movers[(0 : MoverId)] = none) ∧
    (let s : State := { station with suc := { station.suc with phase := .quiet, since := 19700 } };
      s.suc.phase = .quiet ∧ s.suc.since + 3 * s.cfg.period.ms ≤ s.now ∧ s.active .lineUnfit = false ∧
        (∀ m, ∀ r ∈ s.mover m, r.phase.inMotion = false) ∧ s.active .twin = false) := by decide +kernel

/-- The running hatch's entry no longer settled whole, as after a fall of the line. -/
def unsettled (r : Mover) : State :=
  { moving r with sbu :=
    { demands := [{ settledEntry (.mover 0) 1 0 180 with settled := 100, drawing := 0 }] } }

theorem witness_TickComputesAndAllocates :
    (station.delivers = true ∧ station.suc.nextTick = some 20000 ∧ 20000 ≤ station.now ∧ station.working = true ∧
      station.mayTransmit = true) ∧
    (let s : State := { early .listenOnly 2 102 with suc :=
        { phase := .listenOnly, since := 2, nextTick := some 102 } };
      s.delivers = true ∧ s.suc.nextTick = some 102 ∧ 102 ≤ s.now ∧ s.suc.phase = .listenOnly ∧
        s.mayTransmit = false) ∧
    station.tickDue = true ∧ (∀ m, ∀ r ∈ (moving runningHatch).mover m, r.phase ≠ .unlocking) ∧
    ((station.cfg.channels[(0 : ChannelId)]).kind = .dimmed ∧ (station.cfg.channels[(0 : ChannelId)]).rating ≠ 0 ∧
      (station.cfg.channels[(0 : ChannelId)]).fade ≠ 0) ∧
    (unsettled runningHatch).mover 0 = some runningHatch ∧ (unsettled runningHatch).tickDue = true ∧
    (ran (.ownPeriodTick false) (unsettled runningHatch)).granted 0 = false ∧
    (ran (.ownPeriodTick false) (moving runningHatch)).granted 0 = true ∧
    (station.cfg.supply = some 8 ∧ (station.fpr.pins[(8 : PinId)]).delivered = false) ∧
    (let r := { runningHatch with phase := .requesting };
      (∀ s ∈ [moving r, unsettled r], s.mover 0 = some r ∧ s.tickDue = true ∧ s.claim 0 = .held ∧
          (s.fpr.pins[(8 : PinId)]).delivered = false ∧ s.zoneOccupied 0 = false ∧ s.lineFit = true) ∧
        (ran (.ownPeriodTick false) (moving r)).granted 0 = true ∧
        (ran (.ownPeriodTick false) (unsettled r)).granted 0 = false) ∧
    (let s := unsettled { runningHatch with phase := .unlocking };
      ((demandIn (allocate s.cfg (ran (.ownPeriodTick false) s).sbu.grants s.sbu.demands) (.mover 0)).map
        fun d => decide (d.drawing ≠ d.want)) = some true) := by decide +kernel

theorem witness_GrantsFillTheClassesInOrder :
    (evening true).inIsland = false ∧ (ran .islandDelayExpiry cutOff).inIsland = true ∧
      ((evening true).ptu.peers[(11 : SlotId)]).map (fun r => r.status) = some .live ∧
      ((withPeer .orphan 1001).ptu.peers[(11 : SlotId)]).map (fun r => (r.status, r.ann.islandCap)) =
        some (.orphan, 40) := by decide +kernel

theorem witness_SettleAndIslandDelayTakeEffect :
    ((cabin 94 94 1502).demandOf (.chan 0)).map (fun d => d.pending) = some (some (94, 1102)) ∧
    1102 + (cabin 94 94 1502).cfg.settle ≤ (cabin 94 94 1502).now ∧
    (cabin 94 94 1501).now < 1102 + (cabin 94 94 1501).cfg.settle ∧
    ((lit 256).demandOf (.chan 0)).map (fun d => d.pending) = some none ∧
    (cutOff.sbu.islandTimer = some 9000 ∧ 9000 ≤ cutOff.now ∧ cutOff.sbu.island = none) ∧
    ({ cutOff with sbu := { cutOff.sbu with island := some .twin } } : State).sbu.island = some .twin := by
  decide +kernel

theorem witness_PortEventsMoveOnlyTheirPort :
    (station.mayTransmit = true ∧ (station.liu.ports[(0 : PortId)]).attempt = none ∧
      (station.liu.ports[(0 : PortId)]).lastTransition + 1 ≤ ({ station with now := 19996 } : State).now) ∧
    (station.portsOperate = true ∧ (station.liu.ports[(0 : PortId)]).state = .fit ∧
      (station.liu.ports[(0 : PortId)]).windowEnd = some 20000 ∧ 20000 ≤ station.now) ∧
    ((sending (driveAt 19990)).liu.ports[(0 : PortId)]).attempt = some { serial := 7, frame := .drive 5 9 0 .dirA } ∧
    (station.liu.ports[(0 : PortId)]).state ≠ .dark := by decide +kernel

theorem witness_CarrierIsLostAndReturns :
    (({ station with now := 20015 } : State).portsOperate = true ∧
      (station.liu.ports[(0 : PortId)]).carrier = some 19995 ∧ 19995 + 20 ≤ ({ station with now := 20015 } : State).now ∧
      (station.liu.ports[(1 : PortId)]).state = .dark) ∧
    (let s := { moving { runningHatch with phase := .unlocking } with now := 20015 };
      (ran (.carrierLoss 0) { station with now := 20015 }).announcedClaims = station.announcedClaims ∧
        (ran (.carrierLoss 0) s).announcedClaims ≠ s.announcedClaims ∧ s.mayTransmit = true) ∧
    (let s := { sending (driveAt 19990) with now := 20015 };
      s.portsOperate = true ∧ (s.liu.ports[(0 : PortId)]).attempt ≠ none ∧
        (s.liu.ports[(0 : PortId)]).carrier = some 19995 ∧ FitnessOk s) ∧
    FitnessOk { station with now := 20015 } ∧ FitnessOk station :=
  ⟨by decide +kernel, by decide +kernel,
    ⟨by decide +kernel, by decide +kernel, by decide +kernel, fun _ => by decide +kernel⟩, fun _ => by decide +kernel,
    station_fit⟩

theorem witness_SearchRestartsLocksOrSteps :
    (let s := seekingB 4 5002 false true 1 5006;
      s.portsOperate = true ∧ (s.liu.ports[(1 : PortId)]).state = .seeking ∧
      (s.liu.ports[(1 : PortId)]).dwell = some { start := 5002, decoded := true, lateErrors := 1 } ∧
      5002 + s.cfg.ports.dwell ≤ s.now ∧ (s.liu.ports[(1 : PortId)]).attempt = none ∧
      (s.liu.ports[(1 : PortId)]).state ≠ .dark ∧ (s.liu.ports[(1 : PortId)]).state ≠ .fit) ∧
    FitnessOk (seekingB 4 5002 false true 1 5006) := ⟨by decide +kernel, fun _ => by decide +kernel⟩

theorem witness_LosingFitnessStopsTheMovers :
    (let s := moving runningHatch;
      s.portsOperate = true ∧ (s.liu.ports[(0 : PortId)]).state = .fit ∧ (s.liu.ports[(0 : PortId)]).attempt = none ∧
      s.running = true ∧ s.active .lineUnfit = false ∧ s.lineFit = true ∧
      (s.onPort 0 fun x => { x with state := .seeking }).lineFit = false ∧ s.mover 0 = some runningHatch) ∧
    ((moving { runningHatch with phase := .unlocking }).mover 0).map (fun r => r.phase) = some .unlocking ∧
    ((moving runningHatch).mover 1).map (fun r => r.phase) = some .idle ∧
    (let s := { moving runningHatch with now := 20015 };
      (s.liu.ports[(0 : PortId)]).carrier = some 19995 ∧ 19995 + 20 ≤ s.now ∧ s.running = true ∧
        s.active .lineUnfit = false ∧ s.lineFit = true) ∧
    (let s := (moving runningHatch).onPort 0 fun x => { x with errors := 4 };
      (s.liu.ports[(0 : PortId)]).state = .fit ∧ (s.liu.ports[(0 : PortId)]).attempt = none ∧ s.running = true ∧
        s.active .lineUnfit = false ∧ s.lineFit = true ∧
        (s.onPort 0 fun x => { x with state := .seeking }).lineFit = false ∧
        s.cfg.ports.errorThreshold < (s.liu.ports[(0 : PortId)]).errors + 1) := by decide +kernel

/-- A frame with a good CRC whose kind code, 9, is not assigned. -/
def malformedFrame : List Byte := bytes [9, 12, 0] ++ word (crc16 (bytes [9, 12, 0]))

/-- What a moving mover holds, decided mover by mover. -/
theorem moves_safely (s : State) (h : ∀ m, ∀ r ∈ s.mover m, r.phase = .unlocking ∨ r.phase = .running →
      s.claim m = .held ∧ s.zoneOccupied m = false ∧ s.granted m = true ∧ s.lineFit = true ∧
        ∃ d ∈ s.demandOf (.mover m), d.drawing = (s.moverCfg m).runRating) :
    ∀ m r, s.mover m = some r → r.phase = .unlocking ∨ r.phase = .running →
      s.claim m = .held ∧ s.zoneOccupied m = false ∧ s.granted m = true ∧ s.lineFit = true ∧
        ∃ d, s.demandOf (.mover m) = some d ∧ d.drawing = (s.moverCfg m).runRating := h

theorem test_bindings : BindingsOk testCfg :=
  { occupancy := fun z => of_option (by revert z; decide +kernel)
    supply := of_option (by decide +kernel)
    standby := of_option (by decide +kernel)
    keys := fun k => of_option (by revert k; decide +kernel)
    movers := by
      have h : ∀ m, ∀ c ∈ testCfg.movers[(m : MoverId)],
          (∀ p ∈ c.endA, (testCfg.pins[p]).fn = .endA) ∧ (∀ p ∈ c.endB, (testCfg.pins[p]).fn = .endB) ∧
          (∀ p ∈ c.lockOpen, (testCfg.pins[p]).fn = .lockOpen) ∧
          (∀ p ∈ c.lockClosed, (testCfg.pins[p]).fn = .lockClosed) ∧
          (∀ p ∈ c.gypsy, (testCfg.pins[p]).fn = .gypsy) ∧ (∀ p ∈ c.home, (testCfg.pins[p]).fn = .home) ∧
          (∀ p ∈ c.powerFault, (testCfg.pins[p]).fn = .powerFault) := by decide +kernel
      intro m c p e
      obtain ⟨h1, h2, h3, h4, h5, h6, h7⟩ := h m c e
      exact ⟨h1 p, h2 p, h3 p, h4 p, h5 p, h6 p, h7 p⟩ }

/-- Line fitness lost, port A LOCKED one good frame short of FIT, the hatch asking for motion with its zones HELD. -/
def returning (island : Option IslandCause) : State :=
  let s := moving { runningHatch with phase := .requesting }
  let t := { s with sbu := { s.sbu with island := island, islandTimer := some 20500 } }
  (t.onPort 0 fun x => { x with state := .locked, good := 7, windowEnd := none }).raiseCond .lineUnfit

/-- What the return of line fitness asks of a state, but for what the movers keep. -/
def Returns (s : State) : Prop :=
  (s.liu.ports[(0 : PortId)]).state = .locked ∧ 8 ≤ (s.liu.ports[(0 : PortId)]).good + 1 ∧ s.running = true ∧
    s.active .lineUnfit = true ∧ (s.onPort 0 fun x => { x with state := .fit }).lineFit = true

theorem witness_PortsCountGoodAndBadFrames :
    (station.hears 0 = true ∧ station.delivers = true ∧ (early .calibrate 0 5).delivers = false) ∧
    ((seekingB 4 5002 false true 1 5004).hears 1 = true ∧
      ((seekingB 4 5002 false true 1 5004).liu.ports[(1 : PortId)]).dwell =
        some { start := 5002, decoded := true, lateErrors := 1 }) ∧
    ((lockedB .locked 7 0).hears 1 = true ∧ ((lockedB .locked 7 0).liu.ports[(1 : PortId)]).state = .locked) ∧
    (((lockedB .fit 8 3).liu.ports[(1 : PortId)]).errors + 1 ≤ testCfg.ports.errorThreshold ∧
      testCfg.ports.errorThreshold < ((lockedB .fit 8 4).liu.ports[(1 : PortId)]).errors + 1) ∧
    (Instr.scene 1 malformedFrame ∈ frameCommands 1 malformedFrame ∧ frameWhole malformedFrame = true ∧
      crcGood malformedFrame = true ∧ parseFrame malformedFrame = none) ∧
    FitnessOk (lockedB .fit 8 4) ∧
    (let f := malformedFrame.dropLast ++ [0];
      Instr.forget 1 f ∈ frameCommands 1 f ∧ frameWhole f = true ∧ crcGood f = false) ∧
    (let f := encodeFrame (.scene 12 0);
      GoodFrameOf (.scene 1 f) (lockedB .locked 7 0) 1 f ∧ GoodFrameOf (.scene 1 f) (lockedB .locked 6 0) 1 f ∧
        8 ≤ ((lockedB .locked 7 0).liu.ports[(1 : PortId)]).good + 1 ∧
        ((lockedB .locked 6 0).liu.ports[(1 : PortId)]).good + 1 < 8) ∧
    (let f := encodeFrame (.scene 12 0);
      GoodFrameOf (.scene 0 f) (returning none) 0 f ∧ Returns (returning none) ∧ Returns (returning (some .timer)) ∧
        (returning none).standing 0 = .cleared ∧ (returning none).granted 0 = true) ∧
    MoversSafe (returning none) :=
  ⟨by decide +kernel, by decide +kernel, by decide +kernel, by decide +kernel, by decide +kernel,
    fun _ => by decide +kernel, by decide +kernel,
    ⟨⟨by decide +kernel, by decide +kernel, by decide +kernel, .inr ⟨.scene 12 0, by decide +kernel, rfl⟩⟩,
      ⟨by decide +kernel, by decide +kernel, by decide +kernel, .inr ⟨.scene 12 0, by decide +kernel, rfl⟩⟩,
      by decide +kernel, by decide +kernel⟩,
    ⟨⟨by decide +kernel, by decide +kernel, by decide +kernel, .inr ⟨.scene 12 0, by decide +kernel, rfl⟩⟩,
    by unfold Returns; decide +kernel, by unfold Returns; decide +kernel, by decide +kernel, by decide +kernel⟩,
    { moving := moves_safely _ (by decide +kernel)
      halted := fun h => absurd h (by decide +kernel)
      inRun := fun m => of_option (by revert m; decide +kernel)
      early := fun h => absurd h (by decide)
      fitness := fun _ => rfl
      pump := by decide +kernel
      bound := test_bindings }⟩

theorem witness_MalformedFramesAreDiscarded :
    (Instr.driveClear 0 malformedFrame ∈ frameCommands 0 malformedFrame ∧ station.hears 0 = true ∧
      station.delivers = true ∧ frameWhole malformedFrame = true ∧ crcGood malformedFrame = true ∧
      parseFrame malformedFrame = none) ∧ Calm station 0 ∧ Calm (lockedB .locked 7 0) 1 ∧
      (lockedB .locked 7 0).hears 1 = true := ⟨by decide +kernel, station_calm, locked_calm.1, by decide +kernel⟩

theorem witness_FrameBytesReadBack :
    (Frame.announce 12 (peerSays [{ zones := 6#16, held := true, key := 97 }])).wf = true ∧
      (Frame.set 1 48 255 65535).wf = true ∧ (Frame.drive 2 5 1 .clear).wf = true ∧ (Frame.scene 48 31).wf = true ∧
      (Frame.forget 1 48).wf = true ∧
    (let f := Frame.drive 12 5 1 .clear; let g := Frame.set 2 5 0 1; let h := Frame.set 12 5 0 1;
      f.wf = true ∧ g.wf = true ∧ h.wf = true ∧ f.kindCode * 256 + f.source < g.kindCode * 256 + g.source ∧
        g.kindCode * 256 + g.source < h.kindCode * 256 + h.source) := by decide +kernel

theorem witness_QueueStartsByKindAndAgesDrives :
    (station.mayTransmit = true ∧ (station.liu.ports[(0 : PortId)]).state ≠ .dark ∧
      (station.liu.ports[(0 : PortId)]).attempt = none ∧ station.liu.slot.toList ++ station.liu.fifo = []) ∧
    (let s : State := { station with liu := { station.liu with fifo := [driveAt 19800] } };
      ((s.liu.slot.toList ++ s.liu.fifo).filter fun q =>
        !q.sent[(0 : PortId)] && !(q.frame.kindCode = 1 && decide (q.queuedAt + 200 < s.now))) ≠ []) ∧
    (let s := sending (driveAt 19800);
      s.liu.fifo = [] ++ driveAt 19800 :: [] ∧ (s.liu.fifo.map fun x => x.serial).Nodup ∧
      (driveAt 19800).frame.kindCode = 1 ∧ (driveAt 19800).queuedAt + 200 ≤ s.now ∧
      (driveAt 19800).sent[(0 : PortId)] = false ∧ (driveAt 19800).sent[(1 : PortId)] = false) := by decide +kernel

theorem witness_TwinIsDetectedTwoWays :
    (let q := { driveAt 19990 with mismatch := #v[true, false] };
      (sending q).queuedOf 7 = some q ∧ q.mismatch[(0 : PortId)] = true ∧ (sending q).active .twin = false) ∧
    ((sending (driveAt 19990)).queuedOf 7 = some (driveAt 19990) ∧ (driveAt 19990).mismatch[(0 : PortId)] = false) ∧
    ({ sending (driveAt 19990) with liu := { (sending (driveAt 19990)).liu with fifo := [] } } : State).queuedOf 7 =
      none ∧
    (station.suc.ownNumber = some 5 ∧ station.haltActive = false) ∧
    GoodFrame station 0 (encodeFrame (.announce 5 (peerSays []))) (.announce 5 (peerSays [])) :=
  ⟨by decide +kernel, by decide +kernel, by decide +kernel, by decide +kernel, by unfold GoodFrame; decide +kernel⟩

/-- The slot's ANNOUNCE under way on port A with an offer of 180. -/
def announcing : State :=
  let q : Queued := { serial := 7, frame := .announce 5 {}, queuedAt := 19990 }
  { sending q with
    liu := { (sending q).liu with slot := some q, fifo := [] }
    sbu :=
      { demands := [{ settledEntry (.mover 0) 1 0 180 with settled := 0, drawing := 0 }]
        offers := [(.mover 0, 180)] } }

theorem witness_CompletionMarksSettlesAndDeparts :
    ((announcing.liu.ports[(0 : PortId)]).attempt.map fun a => a.serial) = some 7 ∧
      ((announcing.queuedOf 7).map fun q => (q.sent[(0 : PortId)], q.sent[(1 : PortId)])) = some (false, false) ∧
      (announcing.liu.slot.map fun q => q.serial) = some 7 ∧ (announcing.sbu.offers.map fun o => o.1).Nodup ∧
      (sending (driveAt 19990)).liu.slot = none ∧
      ((sending { driveAt 19990 with sent := #v[false, true] }).queuedOf 7).map (fun q => q.sent[(1 : PortId)]) =
        some true := by decide +kernel

theorem witness_AnnounceIsFiledAndMayClash :
    (GoodFrame station 0 (encodeFrame (.announce 12 (peerSays []))) (.announce 12 (peerSays [])) ∧
      station.suc.ownNumber ≠ some 12 ∧ slotOf 12 = some 11) ∧
    (let a := peerSays [{ zones := 2#16, held := true, key := 3 }];
      GoodFrame (moving runningHatch) 0 (encodeFrame (.announce 1 a)) (.announce 1 a) ∧
      Calm (moving runningHatch) 0 ∧ (moving runningHatch).mover 0 = some runningHatch ∧
      (moving runningHatch).claim 0 = .held ∧
      ∃ c ∈ a.claims, c.held = true ∧ zonesMeet ((moving runningHatch).zonesOf 0) c.zones = true) :=
  ⟨⟨by unfold GoodFrame; decide +kernel, by decide, by decide⟩,
    by unfold GoodFrame; decide +kernel, moving_calm _, rfl, rfl, by decide +kernel⟩

theorem witness_PeersAgeAndAreForgotten :
    (GoodFrame station 0 (encodeFrame (.forget 2 12)) (.forget 2 12) ∧ slotOf 12 = some 11 ∧ Calm station 0 ∧
      2 ∈ station.cfg.officers ∧ station.suc.ownNumber ≠ some 12 ∧ 3 ∉ station.cfg.officers) ∧
    (((withPeer .live 1001).ptu.peers[(11 : SlotId)]).map fun r => (r.status, r.heard + 3 * r.ann.period.ms)) =
        some (.live, 1601) ∧
    (((withPeer .stale 1001).ptu.peers[(11 : SlotId)]).map fun r => (r.status, r.heard + 10 * r.ann.period.ms)) =
        some (.stale, 3001) :=
  ⟨⟨by unfold GoodFrame; decide +kernel, by decide, station_calm, by decide, by decide, by decide⟩, by decide +kernel,
    by decide +kernel⟩

/-- The range of R45, decided channel by channel. -/
theorem requested_in_range (s : State) (h : ∀ c : ChannelId,
    (s.lcu.channels[c]).lreq = 0 ∨ ((s.cfg.channels[c]).kind = .switched ∧ (s.lcu.channels[c]).lreq = 256) ∨
      ((s.cfg.channels[c]).kind = .dimmed ∧ (s.cfg.channels[c]).lmin ≤ (s.lcu.channels[c]).lreq ∧
        (s.lcu.channels[c]).lreq ≤ 256)) :
    ∀ c : ChannelId, requestable s.cfg.channels[c] (s.lcu.channels[c]).lreq := by
  intro c
  unfold requestable
  rcases h c with h | ⟨k, h⟩ | ⟨k, h⟩
  · split <;> exact .inl h
  · rw [k]; exact .inr h
  · rw [k]; exact .inr h

theorem station_levels : LevelsOk station :=
  { entry := by decide +kernel
    want := fun c => of_option (by revert c; decide +kernel)
    request := requested_in_range _ (by decide +kernel)
    level := by decide +kernel
    follows := by decide +kernel
    position := by decide +kernel
    dark := by decide +kernel
    minimum := by decide +kernel
    early := fun h => absurd h (by decide) }

theorem witness_SetDerivesTheRequestedLevel :
    (testCfg.channels[(0 : ChannelId)]).lmin ≤ 256 ∧
    (GoodFrame (lit 256) 0 (encodeFrame (.set 12 5 0 256)) (.set 12 5 0 256) ∧ (lit 256).suc.ownNumber = some 5 ∧
      ((lit 256).lcu.channels[(0 : ChannelId)]).mark ≠ .tripped ∧
      deriveLevel (lit 256).cfg.channels[(0 : ChannelId)] 256 = ((lit 256).lcu.channels[(0 : ChannelId)]).lreq) ∧
    Calm (lit 256) 0 ∧ (∀ level ∈ [0, 1, 19, 20, 256], min level 256 = level) :=
  ⟨by decide, by unfold GoodFrame; decide +kernel,
    ⟨by decide, by decide +kernel, by decide +kernel, fun _ => by decide +kernel⟩, by decide⟩

theorem lit_levels : LevelsOk (lit 256) :=
  { entry := by decide +kernel
    want := fun c => of_option (by revert c; decide +kernel)
    request := requested_in_range _ (by decide +kernel)
    level := by decide +kernel
    follows := by decide +kernel
    position := by decide +kernel
    dark := by decide +kernel
    minimum := by decide +kernel
    early := fun h => absurd h (by decide) }

theorem witness_SetGivesTheLevelAndTheEntry :
    (GoodFrame (lit 256) 0 (encodeFrame (.set 12 5 0 64)) (.set 12 5 0 64) ∧ (lit 256).suc.ownNumber = some 5 ∧
      (lit 256).working = true ∧ (lit 256).suc.standDown = false ∧ (lit 256).active .twin = false ∧
      ((lit 256).lcu.channels[(0 : ChannelId)]).mark = .inService ∧ (testCfg.channels[(0 : ChannelId)]).cls ≠ 0 ∧
      deriveLevel testCfg.channels[(0 : ChannelId)] 64 ≠ ((lit 256).lcu.channels[(0 : ChannelId)]).lreq ∧
      ((lit 256).demandOf (.chan 0)).isSome = true) ∧
    ((station.lcu.channels[(0 : ChannelId)]).lreq = 0 ∧ (testCfg.channels[(0 : ChannelId)]).rating ≠ 0) ∧
    LevelsOk (lit 256) ∧ LevelsOk station :=
  ⟨by unfold GoodFrame; decide +kernel, by decide +kernel, lit_levels, station_levels⟩

/-- Channel 1, which scene 4 names, out of service. -/
def outOfService (mark : ChannelMark) : State := (lit 256).onChannel 1 fun x => { x with mark := mark }

theorem out_of_service_levels (mark : ChannelMark) (h : mark ∈ [ChannelMark.lockedOut, .unfitted]) :
    LevelsOk (outOfService mark) := by
  simp only [List.mem_cons, List.not_mem_nil, or_false] at h
  rcases h with rfl | rfl <;>
  exact
    { entry := by decide +kernel
      want := fun c => of_option (by revert c; decide +kernel)
      request := requested_in_range _ (by decide +kernel)
      level := by decide +kernel
      follows := by decide +kernel
      position := by decide +kernel
      dark := by decide +kernel
      minimum := by decide +kernel
      early := fun h => absurd h (by decide) }

theorem witness_SceneSetsEachPairWhereTaken :
    (GoodFrame (lit 256) 0 (encodeFrame (.scene 12 4)) (.scene 12 4) ∧ (lit 256).working = true ∧
      (lit 256).suc.standDown = false ∧ (lit 256).active .twin = false ∧
      ((testCfg.scenes[(4 : Fin 32)]).map fun q => q.channel).Nodup ∧
      (∀ q ∈ testCfg.scenes[(4 : Fin 32)], ((lit 256).lcu.channels[q.channel]).mark = .inService)) ∧
    (GoodFrame station 0 (encodeFrame (.set 12 9 0 1)) (.set 12 9 0 1) ∧ station.suc.ownNumber ≠ some 9) ∧
    (GoodFrame station 0 (encodeFrame (.set 12 5 12 1)) (.set 12 5 12 1) ∧ 12 ≤ 12) ∧
    (GoodFrame { station with suc := { station.suc with standDown := true } } 0 (encodeFrame (.scene 12 4))
      (.scene 12 4)) ∧ LevelsOk (lit 256) ∧ Calm station 0 ∧ Calm (lit 256) 0 ∧
    (LevelsOk (outOfService .lockedOut) ∧ LevelsOk (outOfService .unfitted) ∧
      ({ channel := 1, level := 0 } : ScenePair) ∈ (outOfService .lockedOut).cfg.scenes[(4 : Fin 32)] ∧
      ((outOfService .lockedOut).lcu.channels[(1 : ChannelId)]).mark = .lockedOut) :=
  ⟨by unfold GoodFrame; decide +kernel, by unfold GoodFrame; decide +kernel, by unfold GoodFrame; decide +kernel,
    by unfold GoodFrame; decide +kernel, lit_levels, station_calm,
    ⟨by decide +kernel, by decide +kernel, by decide +kernel, fun _ => by decide +kernel⟩,
    out_of_service_levels _ (by decide), out_of_service_levels _ (by decide), by decide +kernel, by decide +kernel⟩

theorem witness_FadeBeatMovesOneStep :
    station.now % 10 = 0 ∧
      (let k := testCfg.channels[(0 : ChannelId)];
        k.kind = .dimmed ∧ k.fade ≠ 0) ∧
      (testCfg.channels[(1 : ChannelId)]).kind = .switched ∧ (testCfg.channels[(2 : ChannelId)]).fade = 0 ∧
      (28 - 8 < 20 ∨ 28 ≤ 8 ↔ False) ∧ (27 - 8 < 20) ∧
      (∀ x ∈ ([(100, 256), (0, 256), (256, 64), (27, 0), (28, 0)] : List (Nat × Nat)),
        (0 < x.1 ∧ x.1 < x.2) ∨ (x.1 = 0 ∧ 0 < x.2) ∨ (x.2 < x.1 ∧ 0 < x.2) ∨ (x.2 = 0 ∧ 0 < x.1)) := by
  decide +kernel

theorem witness_InrushEndsAndTripsCutTheOutput :
    (((blower 10500 (some 10500) none none).lcu.channels[(1 : ChannelId)]).inrush = some 10500 ∧
      10500 ≤ (blower 10500 (some 10500) none none).now) ∧
    (0 < ((blower 10600 none (some 10500) none).lcu.channels[(1 : ChannelId)]).position ∧
      ((blower 10600 none (some 10500) none).lcu.channels[(1 : ChannelId)]).overTime = some 10500 ∧
      10500 + 100 ≤ (blower 10600 none (some 10500) none).now ∧
      ((blower 10600 none (some 10500) none).lcu.channels[(1 : ChannelId)]).tripMemory = none ∧
      ((blower 26200 none (some 26100) (some 70600)).lcu.channels[(1 : ChannelId)]).tripMemory ≠ none) ∧
    ((blower 10600 none (some 10500) none).lcu.channels[(1 : ChannelId)]).mark = .inService ∧
    (∃ t, exec (.set 0 (encodeFrame (.set 12 5 1 0))) (blower 10600 none (some 10500) none) = .next t) ∧
    (∃ t, exec (.ownPeriodTick false) (blower 10600 none (some 10500) none) = .next t) ∧
    (∃ t, exec .fadeBeat (blower 10600 none (some 10500) none) = .next t) :=
  ⟨by decide +kernel, by decide +kernel, by decide +kernel, ⟨_, rfl⟩, ⟨_, rfl⟩, ⟨_, rfl⟩⟩

theorem witness_SenseReadingIsOffsetAndSaturated :
    (senseInUse station.cfg 0 = true ∧ senseInUse station.cfg 12 = true ∧ station.working = true ∧
      station.senseFaulty 0 = false ∧ (station.csa.inputs[(0 : SenseId)]).offset = some 23 ∧
      (station.csa.inputs[(12 : SenseId)]).offset = some 23) ∧
    ({ early .calibrate 9 73 with cfg := testCfg } : State).suc.phase = .calibrate := by decide +kernel

/-- A step that answers a next state. -/
def goes (s : State) : Bool :=
  match step s with
  | .next _ => true
  | .fault _ => false
  | .refused _ => false

theorem next_of_goes {s : State} (h : goes s = true) : ∃ t, step s = .next t := by
  unfold goes at h
  split at h
  · exact ⟨_, ‹_›⟩
  · cases h
  · cases h

/-- The hatch RUNNING, and its zone about to become occupied. -/
def busy : State := { moving runningHatch with pending := [.occupancyChange 7 true] }

/-- A busy station in island mode, its entries at their ceilings. -/
def islanded : State := { ran .islandDelayExpiry cutOff with pending := [.ownPeriodTick false] }

theorem witness_StepKeepsTheBudget :
    (BudgetOk busy ∧ ∃ t, step busy = .next t) ∧ (BudgetOk islanded ∧ islanded.inIsland = true ∧
      ∃ t, step islanded = .next t) :=
  ⟨⟨{ ordered := by decide +kernel
      once := by decide +kernel
      entries := by unfold EntryOk; decide +kernel
      offers := by decide +kernel
      granted := by decide +kernel
      island := fun h => absurd h (by decide +kernel)
      line := by decide +kernel }, next_of_goes (by decide +kernel)⟩,
    { ordered := by decide +kernel
      once := by decide +kernel
      entries := by
        have h : ∀ d ∈ islanded.sbu.demands, d.cls ≠ 0 ∧ d.drawing ≤ d.settled ∧ d.settled ≤ d.want ∧
          d.pending = none ∧ (∀ c ∈ d.ceiling, d.drawing ≤ c) := by decide +kernel
        intro d m
        obtain ⟨h0, h1, h2, h3, h4⟩ := h d m
        unfold EntryOk
        rw [if_neg h0]
        exact ⟨h1, h2, by simp [h3], h4⟩
      offers := by decide +kernel
      granted := by decide +kernel
      island := fun _ => ⟨by decide +kernel, by decide +kernel, by
        have h : ∀ d ∈ islanded.sbu.demands, ∃ c ∈ d.ceiling, d.settled = min d.want c := by decide +kernel
        intro d m _
        exact h d m⟩
      line := fun h => absurd h (by decide +kernel) }, by decide +kernel, next_of_goes (by decide +kernel)⟩

theorem witness_StepKeepsQueueTableAndFitness :
    let s : State := { announcing with pending := [.frameCompletion 0] }
    QueueOk s ∧ TableOk s ∧ FitnessOk s ∧ ∃ t, step s = .next t :=
  ⟨{ slot := fun q h => ⟨5, {}, by cases h; rfl⟩
     depth := by decide +kernel
     commands := by intro q h; cases h
     silent := fun h => absurd h (by decide +kernel) },
    { own := fun n i _ _ => by show (Vector.replicate 48 none)[i] = none; simp
      strap := fun h => absurd h (by decide) },
    fun _ => rfl, next_of_goes (by decide +kernel)⟩

theorem witness_StepKeepsPeerOrphaned :
    let s : State := { ran (.peerOrphan 11) { withPeer .stale 1001 with now := 3001 } with
      pending := [.forget 0 (encodeFrame (.forget 2 12))] }
    OrphansShown s ∧ s.active .peerOrphaned = true ∧ ∃ t, step s = .next t :=
  ⟨⟨fun _ => ⟨11, _, rfl, rfl⟩, fun _ => by decide +kernel⟩, by decide +kernel, next_of_goes (by decide +kernel)⟩

theorem witness_StepKeepsTheChannels :
    let s : State := { lit 256 with pending := [.set 0 (encodeFrame (.set 12 5 0 64))] }
    LevelsOk s ∧ ∃ t, step s = .next t :=
  ⟨{ entry := lit_levels.entry
     want := lit_levels.want
     request := lit_levels.request
     level := lit_levels.level
     follows := lit_levels.follows
     position := lit_levels.position
     dark := lit_levels.dark
     minimum := lit_levels.minimum
     early := fun h => absurd h (by decide) }, next_of_goes (by decide +kernel)⟩

theorem busy_motion : MotionOk busy :=
  { entry := fun m => of_option (by revert m; decide +kernel)
    claim := fun m => of_option (by revert m; decide +kernel)
    held := fun m => of_option (by revert m; decide +kernel)
    want := fun m => of_option (by revert m; decide +kernel)
    absent := by decide +kernel
    early := fun h => absurd h (by decide)
    apart := by decide +kernel
    count := fun m => of_option (by revert m; decide +kernel)
    retained := fun m => of_option (by revert m; decide +kernel) }

theorem witness_StepKeepsMotionAndClaims : MotionOk busy ∧ ∃ t, step busy = .next t :=
  ⟨busy_motion, next_of_goes (by decide +kernel)⟩

theorem witness_StepKeepsMoversSafe : MoversSafe busy ∧ MotionOk busy ∧ ∃ t, step busy = .next t :=
  ⟨{ moving := moves_safely _ (by decide +kernel)
     halted := fun h => absurd h (by decide +kernel)
     inRun := fun m => of_option (by revert m; decide +kernel)
     early := fun h => absurd h (by decide)
     fitness := fun _ => rfl
     pump := by decide +kernel
     bound := test_bindings }, busy_motion, next_of_goes (by decide +kernel)⟩

theorem busy_conditions : ConditionsOk busy :=
  { dark := by decide +kernel
    unfit := by decide +kernel
    island := by decide +kernel
    lockJam := by decide +kernel
    travel := by decide +kernel
    overload := by decide +kernel
    stall := by decide +kernel
    clash := by decide +kernel
    count := by decide +kernel
    lockout := by decide +kernel
    sense := by decide +kernel
    config := by decide +kernel
    number := by decide +kernel
    supply := fun h => absurd h (by decide)
    strap := fun h => absurd h (by decide)
    load := fun h => absurd h (by decide)
    early := fun h => absurd h (by decide) }

theorem witness_StepKeepsTheConditions : (ConditionsOk busy ∧ ∃ t, step busy = .next t) ∧
    ((∃ t, exec .fadeBeat station = .next t) ∧ (∀ supply, Instr.fadeBeat ≠ .ownPeriodTick supply) ∧
      Instr.fadeBeat ≠ .calibrateEnd ∧ Instr.fadeBeat ≠ .powerOn ∧ Instr.fadeBeat ≠ .pinReset) :=
  ⟨⟨busy_conditions, next_of_goes (by decide +kernel)⟩, ⟨_, rfl⟩, by decide⟩

/-- A DRIVE for a mover of station 5. -/
def driveFrame (src : Nat) (m : MoverId) (motion : Motion) : List Byte := encodeFrame (.drive src 5 m motion)

/-- A DRIVE from a permitted station ends on port A, which is calm. -/
def Reaches (s : State) (src : Nat) (m : MoverId) (motion : Motion) : Prop :=
  DriveFor s 0 (driveFrame src m motion) src m motion ∧ Calm s 0

theorem reaches {s : State} {src : Nat} {m : MoverId} {motion : Motion}
    (h : s.suc.ownNumber = some 5 ∧ s.hears 0 = true ∧ s.delivers = true ∧
      frameWhole (driveFrame src m motion) = true ∧ crcGood (driveFrame src m motion) = true ∧
      parseFrame (driveFrame src m motion) = some (.drive src 5 m motion) ∧ src ∈ (s.moverCfg m).commandList ∧
      (s.liu.ports[(0 : PortId)]).state ≠ .locked ∧ s.active (darkKind 0) = portDarkHolds s.liu.ports[(0 : PortId)] ∧
      s.active (unfitKind 0) = portUnfitHolds s.liu.ports[(0 : PortId)] ∧ s.active .lineUnfit = !s.lineFit) :
    Reaches s src m motion := by
  obtain ⟨a, b, c, d, e, f, g, h, i, j, k⟩ := h
  exact ⟨⟨5, a, ⟨b, c, d, e, f⟩, g⟩, heardNow_lineFit h, i, j, fun _ => k⟩

/-- The station with line fitness lost: both ports are wanted, and port B is DARK. -/
def unfitLine (s : State) : State :=
  { s.raiseCond .lineUnfit with cfg := { s.cfg with ports := { s.cfg.ports with selection := .both } } }

/-- The station with peer 12 LIVE, holding zone 1. -/
def behindPeer (s : State) : State :=
  let record : PeerRec :=
    { status := .live, heard := 19990, ann := peerSays [{ zones := 2#16, held := true, key := 96 }] }
  { s with ptu := { peers := (Vector.replicate 48 none).set 11 (some record) } }

theorem witness_DirStartsARequest :
    (Reaches station 2 0 .dirA ∧ Reaches station 2 1 .dirB ∧ Reaches (behindPeer station) 2 0 .dirA) ∧
    (station.mover 0 = some {} ∧ station.lineFit = true ∧ station.suc.phase = .run ∧ station.suc.standDown = false ∧
      station.haltActive = false ∧ station.endReached 0 .dirA = false ∧ 0 < station.cfg.listenWindow ∧
      station.claim 0 = .unclaimed ∧ station.nextClaim (otherMover 0) = station.claim (otherMover 0) ∧
      station.obstacle 0 = false) ∧
    ((station.mover 1).isSome = true ∧ station.endReached 1 .dirB = false ∧ station.claim 1 = .unclaimed ∧
      station.nextClaim (otherMover 1) = station.claim (otherMover 1)) ∧
    (behindPeer station).obstacle 0 = true :=
  ⟨⟨reaches (by decide +kernel), reaches (by decide +kernel), reaches (by decide +kernel)⟩, by decide +kernel⟩

/-- The station with the hatch, at rest, as given. -/
def resting (r : Mover) : State := station.onMover 0 fun _ => r

theorem witness_DriveIsRefusedWithItsCode :
    (Reaches (unfitLine station) 2 0 .dirA ∧ (unfitLine station).lineFit = false ∧
      (unfitLine station).mover 0 = some {}) ∧
    (let s := { station with suc := { station.suc with phase := .quiet } };
      Reaches s 2 0 .dirA ∧ s.lineFit = true ∧ s.suc.phase = .quiet) ∧
    (let s := { station with suc := { station.suc with standDown := true } };
      Reaches s 2 0 .dirA ∧ s.lineFit = true ∧ s.suc.phase = .run ∧ s.suc.standDown = true) ∧
    (let s := station.raiseCond .pumpFault;
      Reaches s 2 0 .dirA ∧ s.lineFit = true ∧ s.suc.standDown = false ∧ s.haltActive = true) ∧
    (let s := withPin station 0;
      Reaches s 2 0 .dirA ∧ s.lineFit = true ∧ s.haltActive = false ∧ s.endReached 0 .dirA = true) ∧
    (let s := resting { releaseGuard := some (2, 20001) };
      Reaches s 2 0 .dirA ∧ s.mover 0 = some { releaseGuard := some (2, 20001) }) ∧
    (Reaches (moving runningHatch) 5 0 .dirA ∧ runningHatch.phase.inMotion = true ∧
      runningHatch.driver ≠ some 5) ∧
    (Reaches (resting { phase := .faulted }) 2 0 .dirA ∧ Reaches (resting { phase := .unfitted }) 2 0 .dirB) ∧
    (let f := encodeFrame (.drive 2 9 0 .dirA);
      GoodFrame station 0 f (.drive 2 9 0 .dirA) ∧ station.suc.ownNumber ≠ some 9) ∧
    (let s := { station with cfg := { testCfg with movers := Vector.replicate 2 none }, mvu := {} };
      GoodFrame s 0 (driveFrame 2 0 .stop) (.drive 2 5 0 .stop) ∧ s.mover 0 = none) ∧
    (GoodFrame station 0 (driveFrame 3 0 .clear) (.drive 3 5 0 .clear) ∧ 3 ∉ (station.moverCfg 0).commandList ∧
      Calm station 0) :=
  ⟨⟨reaches (by decide +kernel), by decide +kernel⟩, ⟨reaches (by decide +kernel), by decide +kernel⟩,
    ⟨reaches (by decide +kernel), by decide +kernel⟩, ⟨reaches (by decide +kernel), by decide +kernel⟩,
    ⟨reaches (by decide +kernel), by decide +kernel⟩, ⟨reaches (by decide +kernel), by decide +kernel⟩,
    ⟨reaches (by decide +kernel), by decide +kernel⟩, ⟨reaches (by decide +kernel), reaches (by decide +kernel)⟩,
    by unfold GoodFrame; decide +kernel, by unfold GoodFrame; decide +kernel,
    by unfold GoodFrame; decide +kernel, by decide +kernel, station_calm⟩

/-- The hatch in a phase of motion, on its way toward A for station 2. -/
def inPhase (phase : MoverPhase) : Mover := { runningHatch with phase := phase }

theorem witness_DirInMotionFollowsTheTable :
    (Reaches (moving (inPhase .requesting)) 2 0 .dirA ∧ Reaches (moving (inPhase .unlocking)) 2 0 .dirB ∧
      Reaches (moving (inPhase .running)) 2 0 .dirB ∧ Reaches (moving (inPhase .stopping)) 2 0 .dirA ∧
      Reaches (moving (inPhase .locking)) 2 0 .dirB ∧ Reaches (withPin (moving (inPhase .requesting)) 1) 2 0 .dirB) ∧
    ((inPhase .locking).driver = some 2 ∧ (inPhase .stopping).direction = some (opposite .dirB) ∧
      (moving (inPhase .requesting)).mover 0 = some (inPhase .requesting) ∧
      (moving (inPhase .requesting)).endReached 0 .dirB = false ∧
      (withPin (moving (inPhase .requesting)) 1).endReached 0 .dirB = true) :=
  ⟨⟨reaches (by decide +kernel), reaches (by decide +kernel), reaches (by decide +kernel), reaches (by decide +kernel),
    reaches (by decide +kernel), reaches (by decide +kernel)⟩, by decide +kernel⟩

theorem witness_StopReleasesTheMover :
    (∀ phase ∈ [MoverPhase.requesting, .unlocking, .running, .stopping, .locking],
      Reaches (moving (inPhase phase)) 2 0 .stop ∧ (moving (inPhase phase)).mover 0 = some (inPhase phase) ∧
        (inPhase phase).driver = some 2) ∧
    (Reaches (resting { phase := .faulted }) 2 0 .stop ∧ MoverPhase.faulted.inMotion = false) ∧
    (Reaches (moving (inPhase .locking)) 5 0 .stop ∧ (inPhase .locking).driver ≠ some 5 ∧
      MoverPhase.locking.inMotion = true) := by
  refine ⟨?_, ⟨reaches (by decide +kernel), rfl⟩, reaches (by decide +kernel), by decide, rfl⟩
  simp only [List.forall_mem_cons, List.not_mem_nil, false_imp_iff, implies_true, and_true]
  exact ⟨⟨reaches (by decide +kernel), rfl, rfl⟩, ⟨reaches (by decide +kernel), rfl, rfl⟩,
    ⟨reaches (by decide +kernel), rfl, rfl⟩, ⟨reaches (by decide +kernel), rfl, rfl⟩,
    reaches (by decide +kernel), rfl, rfl⟩

/-- The hatch FAULTED for a reason, its last sense reading as given. -/
def faultedFor (reason : FaultReason) (reading : Nat) : Mover :=
  { phase := .faulted, faultReason := some reason, lastSense := reading }

theorem witness_ClearReturnsAFaultedMover :
    (Reaches (resting (faultedFor .overload 100)) 2 0 .clear ∧ Reaches (resting (faultedFor .overload 101)) 2 0 .clear ∧
      Reaches (withPin (resting (faultedFor .pumpFault 0)) 6) 2 0 .clear ∧ Reaches station 2 0 .clear ∧
      Reaches (moving runningHatch) 2 0 .clear ∧ Reaches (resting { phase := .unfitted }) 2 0 .clear ∧
      Reaches (station.onMover 1 fun _ => faultedFor .stall 300) 2 1 .clear) ∧
    (100 ≤ testHatch.overcurrent ∧ ¬101 ≤ testHatch.overcurrent ∧ 299 < testWindlass.chain.stallThreshold ∧
      ¬300 < testWindlass.chain.stallThreshold ∧
      (resting (faultedFor .pumpFault 0)).input testHatch.powerFault = false ∧
      (withPin (resting (faultedFor .pumpFault 0)) 6).input testHatch.powerFault = true) :=
  ⟨⟨reaches (by decide +kernel), reaches (by decide +kernel), reaches (by decide +kernel), reaches (by decide +kernel),
    reaches (by decide +kernel), reaches (by decide +kernel), reaches (by decide +kernel)⟩, by decide +kernel⟩

/-- The hatch asking for motion at 20000, its intent as given. -/
def intent (c : Claim) : State := { asking 19900 20000 with zcu := { claims := #v[c, .unclaimed] } }

theorem witness_ClaimsAreLookedAtAgain :
    (station.cfg.occupancy[(0 : Fin 16)] = some 7 ∧ (station.cfg.pins[(7 : PinId)]).fn = .occupancy ∧
      ((station.fpr.pins[(7 : PinId)]).delivered = false ∧ (station.zonesOf 0).getLsbD 0 = true) ∧
      (moving runningHatch).mover 0 = some runningHatch ∧ (moving runningHatch).claim 0 = .held ∧
      (moving (inPhase .unlocking)).mover 0 = some (inPhase .unlocking)) ∧
    (let s := asking 1040 1340;
      s.claim 0 = .listening 1040 ∧ 1040 + s.cfg.listenWindow ≤ s.now ∧ s.obstacle 0 = false ∧
        s.zoneOccupied 0 = false ∧ s.lineFit = true ∧ (s.mover 0).map (fun r => r.phase) = some .requesting ∧
        s.nextClaim (otherMover 0) = s.claim (otherMover 0) ∧ s.mayTransmit = true ∧ s.granted 0 = true) ∧
    (let s := { asking 1040 1340 with sbu := {} }; s.granted 0 = false) ∧
    (¬1040 + testCfg.listenWindow ≤ 1339) ∧
    (∀ s ∈ [withPin (asking 1040 1340) 7, withPin (moving (inPhase .requesting)) 7],
      s.working = true ∧ (s.fpr.pins[(7 : PinId)]).delivered = true ∧ s.lineFit = true ∧ s.mayTransmit = true ∧
        (s.mover 0).map (fun r => r.phase) = some .requesting ∧ s.obstacle 0 = false ∧ s.granted 0 = true ∧
        (let clear := s.onPin 7 fun x => { x with delivered := false };
          clear.zoneOccupied 0 = false ∧ clear.nextClaim (otherMover 0) = s.claim (otherMover 0))) ∧
    ((withPin (moving (inPhase .requesting)) 7).claim 0 = .held ∧ (moving (inPhase .requesting)).claim 1 = .unclaimed ∧
      (intent .waiting).claim 0 = .waiting ∧ (withPin (asking 1040 1340) 7).claim 0 = .listening 1040 ∧
      (withPin (asking 1040 1340) 7).zoneOccupied 0 = true ∧ (asking 1040 1339).now < 1040 + testCfg.listenWindow ∧
      (unfitLine (asking 1040 1340)).lineFit = false ∧ (unfitLine (asking 1040 1340)).zoneOccupied 0 = false) := by
  decide +kernel

theorem witness_HoldAndRequestTimersEndARequest :
    (∀ phase ∈ [MoverPhase.requesting, .unlocking, .running, .stopping, .locking],
      (moving (inPhase phase)).mover 0 = some (inPhase phase) ∧ (inPhase phase).lastDrive = some 19900 ∧
        19900 + testHatch.holdTimeout ≤ 20250 ∧ ¬19900 + testHatch.holdTimeout ≤ 20249) ∧
    (∀ s ∈ [asking 1000 11000, { asking 1000 11000 with zcu := { claims := #v[.waiting, .unclaimed] } },
        withPin (asking 1000 11000) 7, { asking 1000 11000 with sbu := {} },
        { asking 1000 11000 with zcu := { claims := #v[.held, .unclaimed] } }],
      (s.mover 0).map (fun r => (r.phase, r.timer)) = some (.requesting, some 11000) ∧ 11000 ≤ s.now) := by
  decide +kernel

theorem witness_TimersPutAMoverIntoFaulted :
    (∀ phase ∈ [MoverPhase.unlocking, .locking],
      let r := { inPhase phase with timer := some 20000 };
      (moving r).mover 0 = some r ∧ 20000 ≤ (moving r).now) ∧
    (let r := { runningHatch with timer := some 20000 };
      (moving r).mover 0 = some r ∧ r.phase = .running ∧ ((moving r).moverCfg 0).kind ≠ .windlass) ∧
    (let r := { runningHatch with overTime := some 19800 };
      (moving r).mover 0 = some r ∧ 19800 + 200 ≤ (moving r).now) ∧
    (let r := { chain .dirB 0 false with stallSpan := some 18500 };
      (hauling r).mover 1 = some r ∧ r.phase = .running ∧ ((hauling r).moverCfg 1).kind = .windlass ∧
        18500 + ((hauling r).moverCfg 1).chain.stallTime ≤ (hauling r).now) := by decide +kernel

theorem witness_LockAndEndInputsAct :
    ((moving (inPhase .unlocking)).working = true ∧ (testCfg.pins[(2 : PinId)]).fn = .lockOpen ∧
      testHatch.lockOpen = some 2 ∧ ((moving (inPhase .unlocking)).moverCfg 0).lockOpen = some 2 ∧
      ((moving (inPhase .unlocking)).fpr.pins[(2 : PinId)]).delivered = false ∧
      ((moving (inPhase .unlocking)).moverCfg (otherMover 0)).lockOpen ≠ some 2) ∧
    ((testCfg.pins[(3 : PinId)]).fn = .lockClosed ∧ testHatch.lockClosed = some 3 ∧
      (moving (inPhase .locking)).mover 0 = some (inPhase .locking)) ∧
    ((testCfg.pins[(0 : PinId)]).fn = .endA ∧ (testCfg.pins[(1 : PinId)]).fn = .endB ∧ testHatch.kind ≠ .windlass ∧
      runningHatch.direction = some .dirA ∧ testHatch.endA = some 0 ∧ testHatch.endB = some 1 ∧
      (moving (inPhase .requesting)).mover 0 = some (inPhase .requesting)) ∧
    (let both := some (inPhase .unlocking);
      let s := { moving (inPhase .unlocking) with
        cfg := { testCfg with movers := #v[some testHatch, some { testHatch with zones := 4#16 }] }
        mvu := { movers := #v[both, both] } };
      s.working = true ∧ s.mover 0 = both ∧ s.mover 1 = both ∧ (s.fpr.pins[(2 : PinId)]).delivered = false ∧
        (s.moverCfg 0).lockOpen = some 2 ∧ (s.moverCfg 1).lockOpen = some 2) := by decide +kernel

/-- The hatch at the end of its stop dwell, with a reversal marked. -/
def turning : Mover := { dwelling with reversal := some .dirB, timer := some 20000 }

theorem witness_StopDwellEndsInRestOrReversal :
    (∀ reason ∈ [StopReason.atEnd, .released, .reversal, .noSupply, .lineUnfit, .occupied, .standby, .atLimit],
      let r := { dwelling with stopReason := some reason, timer := some 20000 };
      (moving r).mover 0 = some r ∧ r.phase = .stopping ∧ r.reversal = none ∧ 20000 ≤ (moving r).now) ∧
    (((moving turning).moverCfg 0).lockFitted = true ∧ (withPin (moving turning) 1).input testHatch.endB = true ∧
      (moving turning).input testHatch.lockClosed = false ∧ (moving turning).input testHatch.endB = false) ∧
    (let s := { moving turning with suc := { station.suc with standDown := true } };
      s.mover 0 = some turning ∧ s.suc.standDown = true) ∧
    (let s := unfitLine (moving turning); s.mover 0 = some turning ∧ s.lineFit = false) ∧
    (let s := withPin (moving turning) 7;
      s.mover 0 = some turning ∧ s.lineFit = true ∧ s.standing 0 ≠ .cleared) ∧
    (let s := { moving turning with sbu := {} };
      s.mover 0 = some turning ∧ s.lineFit = true ∧ s.standing 0 = .cleared ∧ s.granted 0 = false) ∧
    (let s := withPin (moving turning) 1;
      s.mover 0 = some turning ∧ s.lineFit = true ∧ s.standing 0 = .cleared ∧ s.granted 0 = true ∧
        s.endReached 0 .dirB = true) ∧
    (let s := moving turning;
      s.mover 0 = some turning ∧ s.lineFit = true ∧ s.standing 0 = .cleared ∧ s.granted 0 = true ∧
        s.endReached 0 .dirB = false) := by decide +kernel

theorem witness_PowerFaultHaltsTheMovers :
    (moving runningHatch).working = true ∧ (testCfg.pins[(6 : PinId)]).fn = .powerFault ∧
    (((moving runningHatch).fpr.pins[(6 : PinId)]).delivered = false ∧ (moving runningHatch).haltActive = false ∧
      ∃ m, ((moving runningHatch).mover m).isSome = true ∧ ((moving runningHatch).moverCfg m).powerFault = some 6) ∧
    ((hauling (chain .dirA 5 true)).mover 1 = some (chain .dirA 5 true) ∧
      ((hauling (chain .dirA 5 true)).moverCfg 1).powerFault ≠ some 6) ∧
    ((withPin (moving runningHatch) 6).fpr.pins[(6 : PinId)]).delivered = true := by decide +kernel

theorem witness_PulsesCountAndClamp :
    (∀ r ∈ [chain .dirB 97 true, chain .dirB 0 true, chain .dirA 249 true, chain .dirA 248 true, chain .dirA 4094 false,
        { chain .dirA 4095 true with phase := .idle }],
      (hauling r).working = true ∧ (testCfg.pins[(4 : PinId)]).fn = .gypsy ∧ (hauling r).mover 1 = some r ∧
        ((hauling r).moverCfg 1).kind = .windlass ∧ ((hauling r).moverCfg 1).gypsy = some 4 ∧
        ((hauling r).fpr.pins[(4 : PinId)]).delivered = false ∧
        ((hauling r).moverCfg (otherMover 1)).gypsy ≠ some 4 ∧
        (hauling r).input ((hauling r).moverCfg 1).home = false ∧ ((hauling r).moverCfg 1).chain.maxCount ≤ 4095) ∧
    (249 + 1 = testWindlass.chain.maxCount ∧ 248 + 1 < testWindlass.chain.maxCount) ∧
    (withPin (hauling (chain .dirB 1 true)) 5).input testWindlass.home = true ∧
    ((withPin station 4).fpr.pins[(4 : PinId)]).delivered = true := by decide +kernel

theorem witness_HomeAndThePositionShown :
    (∀ r ∈ [chain .dirB 3 false, { chain .dirB 3 true with phase := .requesting }, chain .dirA 0 true],
      (hauling r).working = true ∧ (testCfg.pins[(5 : PinId)]).fn = .home ∧ (hauling r).mover 1 = some r ∧
        ((hauling r).moverCfg 1).kind = .windlass ∧ ((hauling r).moverCfg 1).home = some 5 ∧
        ((hauling r).fpr.pins[(5 : PinId)]).delivered = false ∧ ((hauling r).moverCfg (otherMover 1)).home ≠ some 5) ∧
    ((withPin station 5).fpr.pins[(5 : PinId)]).delivered = true ∧
    (station.mover 0 = some {} ∧ (station.moverCfg 0).kind ≠ .windlass ∧ (station.mover 1).isSome = true) ∧
    ((withPin (withPin station 0) 1).input testHatch.endA = true ∧
      (withPin (withPin station 0) 1).input testHatch.endB = true) := by decide +kernel

theorem witness_KeysComposeTheirFrame :
    (station.working = true ∧ (∀ k ∈ ([0, 1, 2, 5, 6] : List KeyId), ((testCfg.keys[k]).pin).isSome = true ∧
        (station.ktu.keys[k]).held = false) ∧
      (testCfg.keys[(0 : KeyId)]).action = .setLevel 5 0 128 ∧ (testCfg.keys[(1 : KeyId)]).action = .toggle 5 1 256 ∧
      (testCfg.keys[(2 : KeyId)]).action = .scene 4 ∧ (testCfg.keys[(5 : KeyId)]).action = .clear 5 0 ∧
      (testCfg.keys[(6 : KeyId)]).action = .forget 12) ∧
    (station.active .twin = false ∧ station.liu.fifo.length < 4) ∧
    (station.suc.ownNumber = some 5 ∧ slotOf 12 = some 11 ∧ station.suc.ownNumber ≠ some 12 ∧
      station.ptu.peers[(11 : SlotId)] = none ∧ ((withPeer .orphan 1001).ptu.peers[(11 : SlotId)]).isSome = true) ∧
    (let s : State := { station with liu := { station.liu with fifo := List.replicate 4 (driveAt 19990) } };
      s.active .twin = false ∧ 4 ≤ s.liu.fifo.length) := by decide +kernel

theorem witness_HoldKeysDriveRepeatAndStop :
    ((testCfg.keys[(3 : KeyId)]).action = .holdDrive 5 0 .dirA ∧ (testCfg.keys[(4 : KeyId)]).action = .holdDrive 5 0 .dirB ∧
      station.working = true ∧ (testCfg.keys[(3 : KeyId)]).pin = some 11 ∧
      (station.ktu.keys[(3 : KeyId)]).held = false) ∧
    (let s := { ran (.keyHoldDrive 3) station with now := 20240 };
      (s.ktu.keys[(4 : KeyId)]).held = false ∧ (s.ktu.keys[(3 : KeyId)]).standing = .driving ∧
        contend (s.cfg.keys[(4 : KeyId)]).action (s.cfg.keys[(3 : KeyId)]).action = true ∧
        contend (s.cfg.keys[(4 : KeyId)]).action (s.cfg.keys[(0 : KeyId)]).action = false) ∧
    (let s := { bothHeld with now := 20340 };
      (s.ktu.keys[(4 : KeyId)]).held = true ∧ (s.ktu.keys[(4 : KeyId)]).standing = .driving ∧
        (s.ktu.keys[(4 : KeyId)]).nextRepeat = some 20340 ∧ 20340 ≤ s.now ∧ s.active .twin = false ∧
        s.liu.fifo.length < 4) ∧
    ((bothHeld.ktu.keys[(3 : KeyId)]).held = true ∧ (bothHeld.ktu.keys[(3 : KeyId)]).standing ≠ .driving) ∧
    ((ran (.keySetLevel 0) station).working = true ∧
      ((ran (.keySetLevel 0) station).ktu.keys[(0 : KeyId)]).held = true ∧
      (testCfg.keys[(0 : KeyId)]).action = .setLevel 5 0 128) := by decide +kernel

theorem witness_StandbyStopsAndReleases :
    (testCfg.standby = some 9 ∧ (testCfg.pins[(9 : PinId)]).fn = .standby ∧ (moving runningHatch).running = true ∧
      ((moving runningHatch).fpr.pins[(9 : PinId)]).delivered = false ∧
      ((withPin station 9).fpr.pins[(9 : PinId)]).delivered = true) ∧
    (∀ phase ∈ [MoverPhase.running, .unlocking, .requesting, .stopping, .locking],
      (moving (inPhase phase)).mover 0 = some (inPhase phase)) := by decide +kernel

theorem witness_ExpiriesClearTheirOwnField :
    (((blower 70600 none none (some 70600)).lcu.channels[(1 : ChannelId)]).tripMemory = some 70600 ∧
      70600 ≤ (blower 70600 none none (some 70600)).now ∧ ¬70600 ≤ (blower 70599 none none (some 70600)).now) ∧
    (resting { releaseGuard := some (2, 20000) }).mover 0 = some { releaseGuard := some (2, 20000) } ∧
    ((ran (.keyScene 2) station).ktu.keys[(2 : KeyId)]).ackUntil = some 21000 ∧
    (isEvent .channelTrip = true ∧
      ((station.raiseEvent .channelTrip).fcl.flags[FaultKind.channelTrip.idx]).hold = some 25000) ∧
    (station.now % 1000 = 0 ∧ ({ station with now := 20500 } : State).now % 1000 = 500 ∧
      ({ station with now := 20499 } : State).now % 500 ≠ 0) := by decide +kernel

theorem witness_OutputsFollowThePhases :
    (station.mover 0 = some {} ∧ (moving runningHatch).mover 0 = some runningHatch) ∧
    ((early .load 2 9).suc.phase = .load ∧ (early .calibrate 9 73).suc.phase = .calibrate ∧
      (early .listenOnly 2 102).suc.phase = .listenOnly) ∧
    (isOutput PinFn.channelOut = true ∧ isOutput PinFn.endA = false) ∧
    ((testCfg.pins[(24 : PinId)]).fn = .alert ∧ (testCfg.pins[(14 : PinId)]).fn = .driveA ∧
      (testCfg.pins[(14 : PinId)]).arg = (0 : MoverId).val ∧ (testCfg.pins[(13 : PinId)]).fn = .channelOut ∧
      (testCfg.pins[(13 : PinId)]).arg = (1 : ChannelId).val ∧ (testCfg.channels[(1 : ChannelId)]).kind = .switched ∧
      (testCfg.pins[(12 : PinId)]).arg = (0 : ChannelId).val ∧ (testCfg.channels[(0 : ChannelId)]).kind = .dimmed) ∧
    (0 < ((lit 255).lcu.channels[(0 : ChannelId)]).position ∧
      ((lit 255).lcu.channels[(0 : ChannelId)]).position < 256) ∧
    (station.working = true ∧ (testCfg.pins[(26 : PinId)]).fn = .drained ∧
      (testCfg.pins[(23 : PinId)]).fn = .keyIndicator ∧ (testCfg.pins[(23 : PinId)]).arg = (0 : KeyId).val) ∧
    ((testCfg.keys[(0 : KeyId)]).action = .setLevel 5 0 128 ∧ (testCfg.keys[(1 : KeyId)]).action = .toggle 5 1 256 ∧
      (testCfg.keys[(2 : KeyId)]).action = .scene 4 ∧ (testCfg.keys[(3 : KeyId)]).action = .holdDrive 5 0 .dirA ∧
      (testCfg.keys[(5 : KeyId)]).action = .clear 5 0 ∧ (testCfg.keys[(6 : KeyId)]).action = .forget 12 ∧
      (testCfg.keys[(7 : KeyId)]).action = .nothing ∧ station.suc.ownNumber = some 5 ∧ slotOf 9 = some 8 ∧
      station.ptu.peers[(8 : SlotId)] = none ∧ ((withPeer .live 19990).ptu.peers[(11 : SlotId)]).isSome = true) ∧
    (∀ mark ∈ [ChannelMark.inService, .tripped, .lockedOut, .unfitted],
      ((station.onChannel 1 fun x => { x with mark := mark }).lcu.channels[(1 : ChannelId)]).mark = mark) ∧
    (station.suc.standDown = false ∧ (ran .standbyAssert station).suc.standDown = true) := by decide +kernel

/-- Peer 12 LIVE, its second mover at its B end. -/
def peerHatch : State :=
  let entry : MoverStatus := { index := 1, kind := .hatch, phase := .idle, summary := .atBEnd, detail := 0, refusal := 0 }
  let record : PeerRec := { status := .live, heard := 19990, ann := { peerSays [] with movers := [entry] } }
  { station with ptu := { peers := (Vector.replicate 48 none).set 11 (some record) } }

theorem witness_IndicatorsReadMovers :
    ReadsMover (moving runningHatch) 5 0 .running ((moving runningHatch).summary 0) ∧
    ReadsMover peerHatch 12 1 .idle .atBEnd ∧ ReadsNoMover peerHatch 12 0 ∧ ReadsNoMover peerHatch 9 0 :=
  ⟨.inl ⟨rfl, _, rfl, rfl, rfl⟩,
    .inr ⟨by decide, 11, _, _, by decide, rfl, List.mem_singleton.2 rfl, rfl,
      fun _ h _ => List.mem_singleton.1 h, rfl, rfl⟩,
    .inr ⟨by decide, fun i x at' held y h => by
      cases at'; cases held; rw [List.mem_singleton.1 h]; decide⟩,
    .inr ⟨by decide, fun i x at' held => by cases at'; cases held⟩⟩

theorem witness_SummaryShowsTheWorstFault :
    station.alert = true ∧ ({ station with fcl := {} } : State).alert = false ∧
      leadingKind station = some .portDarkB ∧ station.reportedActive .portDarkB = true ∧
      station.fcl.firstFault = some (.portDarkB, 3) ∧ leadingKind { station with fcl := {} } = none ∧
      ({ station with fcl := {} } : State).fcl.firstFault = none := by decide +kernel

theorem witness_SomeThingsStandUntilReset :
    (∃ t, exec .fadeBeat (station.raiseCond .twin) = .next t) ∧ Instr.fadeBeat ≠ .powerOn ∧
    Instr.fadeBeat ≠ .pinReset ∧ (station.raiseCond .twin).active .twin = true ∧
    station.fcl.firstFault = some (.portDarkB, 3) ∧ (early .listenOnly 2 102).suc.phase = .listenOnly ∧
    (let s := station.onChannel 1 fun x => { x with mark := .lockedOut };
      s.suc.phase ≠ .calibrate ∧ (s.lcu.channels[(1 : ChannelId)]).mark = .lockedOut ∧
        (s.lcu.channels[(1 : ChannelId)]).position = 0) ∧
    (let s := station.onChannel 1 fun x => { x with mark := .unfitted };
      (s.lcu.channels[(1 : ChannelId)]).mark = .unfitted ∧ (s.lcu.channels[(1 : ChannelId)]).position = 0) :=
  ⟨⟨_, rfl⟩, by decide +kernel⟩

theorem intent_calm (c : Claim) : Calm (intent c) 0 :=
  ⟨heardNow_lineFit (show PortState.fit ≠ .locked by decide), rfl, rfl, fun _ => rfl⟩

/-- Both movers asking for one zone, the windlass's claim HELD and its request time out. -/
def bothAsk : State :=
  let r := { runningHatch with phase := .requesting, timer := some 20000 }
  { intent .waiting with
    cfg := { testCfg with movers := #v[some testHatch, some { testWindlass with zones := 1#16 }] }
    mvu := { movers := #v[some r, some r] }
    zcu := { claims := #v[.waiting, .held] } }

theorem witness_IntentsGiveWayAndResume :
    (∀ c ∈ [Claim.listening 19900, .waiting], ((intent c).mover 0).map (fun r => r.phase) = some .requesting ∧
      0 < (intent c).cfg.listenWindow ∧ (intent c).claim 0 = c ∧ (intent c).claim (otherMover 0) = .unclaimed ∧
      (intent c).now < 19900 + (intent c).cfg.listenWindow ∧ (intent c).suc.ownNumber ≠ some 12 ∧
      (intent c).mayTransmit = true) ∧
    (slotOf 12 = some 11 ∧ ∀ j : SlotId, (intent .waiting).ptu.peers[j] = none) ∧
    (∀ claim ∈ ([{ zones := 2#16, held := true, key := 96 }, { zones := 1#16, held := false, key := 3 }] :
        List ClaimStatus),
      GoodFrame (intent .waiting) 0 (encodeFrame (.announce 12 (peerSays [claim]))) (.announce 12 (peerSays [claim])) ∧
        zonesMeet ((intent .waiting).zonesOf 0) claim.zones = true ∧
        (claim.held = true ∨ claim.key ≤ (intent .waiting).claimKey 0)) ∧
    GoodFrame (intent .waiting) 0 (encodeFrame (.announce 12 (peerSays []))) (.announce 12 (peerSays [])) ∧
    (∀ c, Calm (intent c) 0) ∧
    (let s := behindPeer station;
      GoodFrame s 0 (encodeFrame (.forget 2 12)) (.forget 2 12) ∧ 2 ∈ s.cfg.officers ∧
        (s.ptu.peers[(11 : SlotId)]).isSome = true) ∧
    (bothAsk.claim 0 = .waiting ∧ (bothAsk.mover 0).map (fun r => r.phase) = some .requesting ∧
      (bothAsk.mover (otherMover 0)).map (fun r => r.phase) = some .requesting ∧
      bothAsk.limitDue (otherMover 0) = true ∧ ∀ j : SlotId, bothAsk.ptu.peers[j] = none) := by
  refine ⟨by decide +kernel, by decide +kernel, ?_, by unfold GoodFrame; decide +kernel, intent_calm, ?_,
    by decide +kernel⟩
  · simp only [List.forall_mem_cons, List.not_mem_nil, false_imp_iff, implies_true, and_true]
    unfold GoodFrame
    exact ⟨by decide +kernel, by decide +kernel⟩
  · unfold GoodFrame; decide +kernel

theorem test_a_lower_intent_makes_the_hatch_wait :
    let a := peerSays [{ zones := 1#16, held := false, key := 3 }];
    (ran (.announceReceived 0 (encodeFrame (.announce 12 a))) (intent (.listening 19900))).claim 0 = .waiting := by
  decide +kernel
theorem test_the_hatch_resumes_when_the_other_gives_up :
    (ran (.requestTimeLimit 1) bothAsk).claim 0 = .listening 20000 := by decide +kernel

end Sys2Proof.Tests
end

section
/-! PROOFS. Settles the statement that every step keeps PEER_ORPHANED active exactly while some record is ORPHAN (R10). The
invariant reads the peer table and one flag. An operation either leaves both as they are, or it changes a record and
reports PEER_ORPHANED at once; every command is made of such operations. -/

namespace Sys2Proof.Safety

open Sys2Proof Sys2Proof.Machine

/-! ### What the invariant reads -/

/-- The active flag of PEER_ORPHANED, read from the Fault Collector. -/
def orphanFlag (f : Fcl) : Bool := (f.flags[FaultKind.peerOrphaned.idx]).active

theorem active_peerOrphaned (s : State) : s.active .peerOrphaned = orphanFlag s.fcl := rfl

/-- The peer table and the flag stand in t as in s. A simp lemma that states it gives simp both equations. -/
abbrev KeepsOrphans (s t : State) : Prop := t.ptu = s.ptu ∧ orphanFlag t.fcl = orphanFlag s.fcl

/-- A station with the same peer table and the same flag meets the invariant where the first one does. -/
theorem OrphansShown.keep {s t : State} (h : OrphansShown s)
    (same : t.ptu = s.ptu ∧ orphanFlag t.fcl = orphanFlag s.fcl) : OrphansShown t := by
  obtain ⟨ptu, flag⟩ := same
  simpa [OrphansShown, active_peerOrphaned, ptu, flag] using h

theorem OrphansShown.ite {c : Prop} [Decidable c] {s t : State} (h : OrphansShown s) (k : c → OrphansShown t) :
    OrphansShown (if c then t else s) := by
  split
  · exact k ‹c›
  · exact h

/-- A report of PEER_ORPHANED as it now stands establishes the invariant, whatever the flag was (R10). -/
theorem orphansShown_reportOrphans (s : State) : OrphansShown s.reportOrphans := by
  have flag : s.reportOrphans.active .peerOrphaned = s.records.any fun r => r.status = .orphan :=
    State.reportCond_active_same s .peerOrphaned _
  simp only [OrphansShown, flag, State.reportOrphans_ptu, List.any_eq_true, decide_eq_true_eq, State.mem_records]
  constructor
  · rintro ⟨r, ⟨i, record⟩, orphan⟩
    exact ⟨i, r, record, orphan⟩
  · rintro ⟨i, r, record, orphan⟩
    exact ⟨r, ⟨i, record⟩, orphan⟩

/-- An empty table with the flag down, as every reset leaves them. -/
theorem orphansShown_of_reset {s : State} (ptu : s.ptu = {}) (fcl : s.fcl = {}) : OrphansShown s := by
  have flag : s.active .peerOrphaned = false := by rw [active_peerOrphaned, fcl]; rfl
  have absent : ∀ i : SlotId, s.ptu.peers[i] = none := fun i => by simp [ptu]
  simp [OrphansShown, flag, absent]

/-! ### Reports of other kinds -/

@[simp] theorem raiseEvent_orphanFlag (s : State) {k : FaultKind} (h : k ≠ .peerOrphaned) :
    orphanFlag (s.raiseEvent k).fcl = orphanFlag s.fcl := by
  simpa [active_peerOrphaned, h.symm] using State.raiseEvent_active s k .peerOrphaned

@[simp] theorem raiseCond_orphanFlag (s : State) {k : FaultKind} (h : k ≠ .peerOrphaned) :
    orphanFlag (s.raiseCond k).fcl = orphanFlag s.fcl := by
  simpa [active_peerOrphaned, h.symm] using State.raiseCond_active s k .peerOrphaned

@[simp] theorem clearFlag_orphanFlag (s : State) {k : FaultKind} (h : k ≠ .peerOrphaned) :
    orphanFlag (s.clearFlag k).fcl = orphanFlag s.fcl := by
  simpa [active_peerOrphaned, h.symm] using State.clearFlag_active s k .peerOrphaned

@[simp] theorem reportCond_orphanFlag (s : State) {k : FaultKind} (holds : Bool) (h : k ≠ .peerOrphaned) :
    orphanFlag (s.reportCond k holds).fcl = orphanFlag s.fcl := by
  simpa [active_peerOrphaned, h.symm] using State.reportCond_active s k .peerOrphaned holds

@[simp] theorem countTick_orphanFlag (s : State) : orphanFlag s.countTick.fcl = orphanFlag s.fcl := rfl

@[simp] theorem darkKind_ne_peerOrphaned (p : PortId) : darkKind p ≠ .peerOrphaned := by revert p; decide
@[simp] theorem unfitKind_ne_peerOrphaned (p : PortId) : unfitKind p ≠ .peerOrphaned := by revert p; decide

/-- An event kind is not PEER_ORPHANED, which is a condition (Table 9-1). -/
theorem ne_of_isEvent {k : FaultKind} (h : isEvent k = true) : k ≠ .peerOrphaned := by
  rintro rfl; cases h

/-! ### Folds -/

/-- A fold whose steps leave the table and the flag as they are does so too. -/
theorem foldl_keepsOrphans {α : Type} {f : State → α → State}
    (h : ∀ s a, (f s a).ptu = s.ptu ∧ orphanFlag (f s a).fcl = orphanFlag s.fcl) (l : List α) (s : State) :
    KeepsOrphans s (l.foldl f s) :=
  ⟨foldl_keeps State.ptu f (fun s a => (h s a).1) l s,
    foldl_keeps (fun s => orphanFlag s.fcl) f (fun s a => (h s a).2) l s⟩

/-! ### The budget and the channels -/

@[simp] theorem budgetTick_orphanFlag (s : State) : orphanFlag s.budgetTick.fcl = orphanFlag s.fcl :=
  reportCond_orphanFlag s _ (by decide)

@[simp] theorem enterIsland_orphanFlag (s : State) (cause : IslandCause) :
    orphanFlag (s.enterIsland cause).fcl = orphanFlag s.fcl :=
  raiseCond_orphanFlag _ (by decide)

@[simp] theorem leaveIsland_orphanFlag (s : State) : orphanFlag s.leaveIsland.fcl = orphanFlag s.fcl := by
  unfold State.leaveIsland
  split
  · exact clearFlag_orphanFlag _ (by decide)
  · rfl

@[simp] theorem trip_orphanFlag (s : State) (c : ChannelId) : orphanFlag (s.trip c).fcl = orphanFlag s.fcl := by
  unfold State.trip
  dsimp only
  split <;> simp

/-! ### The movers -/

@[simp] theorem reportReason_orphanFlag (s : State) (r : FaultReason) :
    orphanFlag (s.reportReason r).fcl = orphanFlag s.fcl := by
  cases r with
  | halted => rfl
  | lockJam | travelTimeout | overload | pumpFault | clash | stall => exact reportCond_orphanFlag s _ (by decide)

@[simp] theorem reportCount_orphanFlag (s : State) : orphanFlag s.reportCount.fcl = orphanFlag s.fcl :=
  reportCond_orphanFlag s _ (by decide)

@[simp] theorem enterFaulted_orphanFlag (s : State) (m : MoverId) (reason : FaultReason) :
    orphanFlag (s.enterFaulted m reason).fcl = orphanFlag s.fcl := by
  simp [State.enterFaulted]

@[simp] theorem faultInMotion_orphanFlag (s : State) (m : MoverId) (reason : FaultReason) :
    orphanFlag (s.faultInMotion m reason).fcl = orphanFlag s.fcl := by
  unfold State.faultInMotion
  split
  · split <;> simp
  · rfl

@[simp] theorem haltMovers_orphanFlag (s : State) : orphanFlag s.haltMovers.fcl = orphanFlag s.fcl :=
  (foldl_keepsOrphans (fun s m => ⟨by simp, faultInMotion_orphanFlag s m .halted⟩) allMovers s).2

@[simp] theorem raiseHalt_orphanFlag (s : State) {k : FaultKind} (h : k ≠ .peerOrphaned) :
    orphanFlag (s.raiseHalt k).fcl = orphanFlag s.fcl := by
  unfold State.raiseHalt
  split
  · rfl
  · simp [h]

@[simp] theorem refuseDrive_orphanFlag (s : State) (m : MoverId) (code : RefusalCode) :
    orphanFlag (s.refuseDrive m code).fcl = orphanFlag s.fcl :=
  raiseEvent_orphanFlag _ (by decide)

@[simp] theorem driveDir_orphanFlag (s : State) (m : MoverId) (src : Nat) (d : Dir) :
    orphanFlag (s.driveDir m src d).fcl = orphanFlag s.fcl := by
  unfold State.driveDir
  (repeat' split) <;> simp

@[simp] theorem driveStop_orphanFlag (s : State) (m : MoverId) (src : Nat) :
    orphanFlag (s.driveStop m src).fcl = orphanFlag s.fcl := by
  unfold State.driveStop
  (repeat' split) <;> simp

@[simp] theorem clearFault_orphanFlag (s : State) (m : MoverId) (r : Mover) :
    orphanFlag (s.clearFault m r).fcl = orphanFlag s.fcl := by
  unfold State.clearFault
  dsimp only
  split <;> simp

@[simp] theorem driveClear_orphanFlag (s : State) (m : MoverId) :
    orphanFlag (s.driveClear m).fcl = orphanFlag s.fcl := by
  unfold State.driveClear
  (repeat' split) <;> simp

@[simp] theorem deliverDrive_orphanFlag (s : State) (src : Nat) (m : MoverId) (motion : Motion) :
    orphanFlag (s.deliverDrive src m motion).fcl = orphanFlag s.fcl := by
  unfold State.deliverDrive
  (repeat' split) <;> simp

/-! ### The line -/

@[simp] theorem raiseTwin_orphanFlag (s : State) : orphanFlag s.raiseTwin.fcl = orphanFlag s.fcl := by
  unfold State.raiseTwin
  split <;> simp

@[simp] theorem loseFitness_orphanFlag (s : State) : orphanFlag s.loseFitness.fcl = orphanFlag s.fcl :=
  (foldl_keepsOrphans (fun s m => by simp) allMovers (s.raiseCond .lineUnfit)).2.trans
    (raiseCond_orphanFlag s (by decide))

@[simp] theorem regainFitness_orphanFlag (s : State) : orphanFlag s.regainFitness.fcl = orphanFlag s.fcl := by
  have windows := (foldl_keepsOrphans (f := State.restartWindow) (fun s m => by simp) allMovers
    (s.clearFlag .lineUnfit).leaveIsland).2
  simp [State.regainFitness, windows]

@[simp] theorem judgeFitness_orphanFlag (s : State) : orphanFlag s.judgeFitness.fcl = orphanFlag s.fcl := by
  unfold State.judgeFitness
  (repeat' split) <;> simp

@[simp] theorem movePort_orphanFlag (s : State) (p : PortId) (f : Port → Port) :
    orphanFlag (s.movePort p f).fcl = orphanFlag s.fcl := by
  simp [State.movePort, State.reportPort]

@[simp] theorem mismatchFrame_orphanFlag (s : State) (p : PortId) (a : Attempt) :
    orphanFlag (s.mismatchFrame p a).fcl = orphanFlag s.fcl := by
  unfold State.mismatchFrame
  dsimp only
  split
  · simp
  · split <;> simp

@[simp] theorem offerFrame_orphanFlag (s : State) (f : Frame) :
    orphanFlag (s.offerFrame f).fcl = orphanFlag s.fcl := by
  obtain ⟨-, e⟩ | ⟨-, -, e⟩ | ⟨-, -, e⟩ := State.offerFrame_cases s f <;> simp [e]

@[simp] theorem ageDrive_orphanFlag (s : State) : orphanFlag s.ageDrive.fcl = orphanFlag s.fcl := by
  unfold State.ageDrive
  dsimp only
  split
  · rfl
  · split <;> simp

@[simp] theorem takeBadFrame_orphanFlag (s : State) (p : PortId) :
    orphanFlag (s.takeBadFrame p).fcl = orphanFlag s.fcl := by
  unfold State.takeBadFrame
  dsimp only
  split <;> simp

@[simp] theorem takeGoodFrame_orphanFlag (s : State) (p : PortId) :
    orphanFlag (s.takeGoodFrame p).fcl = orphanFlag s.fcl := movePort_orphanFlag s p _

@[simp] theorem judgeClash_orphanFlag (filed : List ClaimStatus) (s : State) (m : MoverId) :
    orphanFlag (s.judgeClash filed m).fcl = orphanFlag s.fcl := by
  unfold State.judgeClash
  split <;> simp

/-! ### Pins, keys and inputs -/

@[simp] theorem deliverPin_ptu_fcl (s : State) (p : PinId) (active : Bool) :
    (s.deliverPin p active).ptu = s.ptu ∧ (s.deliverPin p active).fcl = s.fcl := ⟨rfl, rfl⟩

@[simp] theorem hold_ptu_fcl (s : State) (k : KeyId) (active : Bool) :
    (s.hold k active).ptu = s.ptu ∧ (s.hold k active).fcl = s.fcl := by
  unfold State.hold
  dsimp only
  split <;> simp

theorem suppress_keepsOrphans (k : KeyId) (s : State) (j : KeyId) : KeepsOrphans s (s.suppress k j) := by
  unfold State.suppress
  split <;> simp [KeepsOrphans]

theorem lockOpened_keepsOrphans (p : PinId) (s : State) (m : MoverId) : KeepsOrphans s (s.lockOpened p m) := by
  unfold State.lockOpened
  (repeat' split) <;> simp [KeepsOrphans]

theorem lockShut_keepsOrphans (p : PinId) (s : State) (m : MoverId) : KeepsOrphans s (State.lockShut p s m) := by
  unfold State.lockShut
  (repeat' split) <;> simp [KeepsOrphans]

theorem endSwitch_keepsOrphans (p : PinId) (s : State) (m : MoverId) : KeepsOrphans s (State.endSwitch p s m) := by
  unfold State.endSwitch
  (repeat' split) <;> simp [KeepsOrphans]

theorem gypsy_keepsOrphans (p : PinId) (s : State) (m : MoverId) : KeepsOrphans s (State.gypsy p s m) := by
  unfold State.gypsy
  split <;> simp [KeepsOrphans]

theorem homed_keepsOrphans (p : PinId) (s : State) (m : MoverId) : KeepsOrphans s (State.homed p s m) := by
  unfold State.homed
  (repeat' split) <;> simp [KeepsOrphans]

theorem pumpFault_keepsOrphans (p : PinId) (s : State) (m : MoverId) : KeepsOrphans s (State.pumpFault p s m) := by
  unfold State.pumpFault
  split <;> simp [KeepsOrphans]

/-- A POWER_FAULT that becomes active faults movers and reports PUMP_FAULT, nothing of the peer table (R108, R109). -/
theorem powerFailed_keepsOrphans (p : PinId) (s : State) : KeepsOrphans s (s.powerFailed p) := by
  have faulted := foldl_keepsOrphans (pumpFault_keepsOrphans p) allMovers s
  unfold State.powerFailed
  dsimp only
  split <;> simp [KeepsOrphans, faulted]

@[simp] theorem beginStandDown_keepsOrphans (s : State) : KeepsOrphans s s.beginStandDown :=
  foldl_keepsOrphans (fun s m => by simp) allMovers _

/-- An input that acts on the movers bound to its pin when it becomes active (R100, R102, R106, R119). -/
theorem inputNow_keepsOrphans {f : State → MoverId → State} (same : ∀ s m, KeepsOrphans s (f s m)) (active : Bool)
    (s : State) : KeepsOrphans s (if active then allMovers.foldl f s else s) := by
  split
  · exact foldl_keepsOrphans same allMovers s
  · exact ⟨rfl, rfl⟩

theorem powerFaultNow_keepsOrphans (p : PinId) (active : Bool) (s : State) :
    KeepsOrphans s (State.powerFaultNow p active s) := by
  unfold State.powerFaultNow
  split
  · exact powerFailed_keepsOrphans p s
  · simp [KeepsOrphans]

theorem homeNow_keepsOrphans (p : PinId) (active : Bool) (s : State) :
    KeepsOrphans s (State.homeNow p active s) := by
  have homed := foldl_keepsOrphans (homed_keepsOrphans p) allMovers s
  unfold State.homeNow
  split
  · simp [KeepsOrphans, homed]
  · exact ⟨rfl, rfl⟩

theorem standbyAsserted_keepsOrphans (s : State) : KeepsOrphans s s.standbyAsserted := by
  unfold State.standbyAsserted
  split <;> simp [KeepsOrphans]

/-- An input that changes leaves the invariant where its consumers leave the table and the flag (R134, R135). -/
theorem OrphansShown.onChange {s : State} (h : OrphansShown s) {p : PinId} {active : Bool} {fns : List PinFn}
    {act : State → State} (same : ∀ t, (act t).ptu = t.ptu ∧ orphanFlag (act t).fcl = orphanFlag t.fcl) :
    OrphansShown (s.onChange p active fns act) :=
  h.ite fun _ => h.keep (by simp [same])

/-! ### Start-up and the tick -/

theorem tickBlocks_keepsOrphans (s : State) (supply : Bool) : KeepsOrphans s (s.tickBlocks supply) := by
  have sampled : (s.sampleSupply supply).ptu = s.ptu ∧ (s.sampleSupply supply).fcl = s.fcl := by
    unfold State.sampleSupply State.settleSupply
    dsimp only
    (repeat' split) <;> simp
  have moved := foldl_keepsOrphans (f := State.tickMover) (fun s m => by simp) allMovers
    ((s.sampleSupply supply).budgetTick).tickChannels
  unfold State.tickBlocks
  split
  · simp [KeepsOrphans, moved, sampled]
  · exact ⟨rfl, rfl⟩

@[simp] theorem ownTick_keepsOrphans (s : State) (supply : Bool) : KeepsOrphans s (s.ownTick supply) := by
  simp [KeepsOrphans, State.ownTick, State.advanceTick, tickBlocks_keepsOrphans]

/-- Entry into LISTEN_ONLY raises a HALT kind and has its first tick (R174). -/
@[simp] theorem enterListenOnly_keepsOrphans (s : State) {kind : FaultKind} (h : kind ≠ .peerOrphaned) :
    KeepsOrphans s (s.enterListenOnly kind) := by
  simp [KeepsOrphans, State.enterListenOnly, h]

theorem refuseImage_keepsOrphans (s : State) : KeepsOrphans s s.refuseImage := by
  simp [KeepsOrphans, State.refuseImage]

theorem takeStraps_keepsOrphans (s : State) (v : Nat) : KeepsOrphans s (s.takeStraps v) := by
  unfold State.takeStraps
  split
  · exact ⟨rfl, rfl⟩
  · exact enterListenOnly_keepsOrphans s (by decide)

theorem acceptImage_keepsOrphans (s : State) (cfg : Cfg) (levels : BitVec 32) :
    KeepsOrphans s (s.acceptImage cfg levels) := by
  have pins (t : State) := foldl_keepsOrphans (f := firstSample cfg levels) (fun _ _ => ⟨rfl, rfl⟩) allPins t
  simp [KeepsOrphans, State.acceptImage, pins]

theorem fitChannel_keepsOrphans (s : State) (c : ChannelId) : KeepsOrphans s (fitChannel s c) := by
  unfold fitChannel
  split <;> simp [KeepsOrphans]

theorem fitMover_keepsOrphans (s : State) (m : MoverId) : KeepsOrphans s (fitMover s m) := by
  unfold fitMover
  dsimp only
  (repeat' split) <;> simp [KeepsOrphans]

theorem fitAll_keepsOrphans (s : State) : KeepsOrphans s s.fitAll := by
  have senses := foldl_keepsOrphans (f := takeOffset s.cfg) (fun _ _ => ⟨rfl, rfl⟩) allSenses s
  have channels := foldl_keepsOrphans fitChannel_keepsOrphans allChannels (allSenses.foldl (takeOffset s.cfg) s)
  have movers := foldl_keepsOrphans fitMover_keepsOrphans allMovers
    (allChannels.foldl fitChannel (allSenses.foldl (takeOffset s.cfg) s))
  simp [KeepsOrphans, State.fitAll, senses, channels, movers]

theorem enterQuiet_keepsOrphans (s : State) : KeepsOrphans s s.enterQuiet := by
  have keys (t : State) := foldl_keepsOrphans (f := heldAtStart) (fun _ _ => ⟨rfl, rfl⟩) allKeys t
  simp [KeepsOrphans, State.enterQuiet, keys]

/-- CALIBRATE's end reports SENSE_FAULT, COUNT_UNKNOWN and PUMP_FAULT, and has the first tick (R173). -/
theorem calibrated_keepsOrphans (s : State) : KeepsOrphans s s.fitAll.reportFitted.enterQuiet := by
  simp [KeepsOrphans, State.reportFitted, enterQuiet_keepsOrphans, fitAll_keepsOrphans]

theorem enterRun_keepsOrphans (s : State) : KeepsOrphans s s.enterRun := by
  unfold State.enterRun
  dsimp only
  split <;> simp [KeepsOrphans]

theorem convert_keepsOrphans (s : State) (cs : SenseId) (raw : Int) : KeepsOrphans s (s.convert cs raw) := by
  have delivered (t : State) (reading : Nat) :
      (t.deliverReading cs reading).ptu = t.ptu ∧ (t.deliverReading cs reading).fcl = t.fcl := by
    unfold State.deliverReading
    (repeat' split) <;> simp
  unfold State.convert
  dsimp only
  (repeat' split) <;> simp [KeepsOrphans, delivered]

/-! ### Commands that change a record -/

/-- A record filed: PEER_ORPHANED is reported, and what follows on claims and movers leaves it there (R5, R10). -/
theorem orphansShown_fileAnnounce (s : State) (i : SlotId) (a : Announce) : OrphansShown (s.fileAnnounce i a) := by
  have reported := orphansShown_reportOrphans (s.setPeer i (some { status := .live, heard := s.now, ann := a }))
  have judged := foldl_keepsOrphans (f := State.judgeClash a.claims) (fun s m => by simp) allMovers
    (s.setPeer i (some { status := .live, heard := s.now, ann := a })).reportOrphans
  exact reported.keep (by simp [State.fileAnnounce, judged])

theorem OrphansShown.deliverAnnounce {s : State} (h : OrphansShown s) (src : Nat) (a : Announce) :
    OrphansShown (s.deliverAnnounce src a) := by
  unfold State.deliverAnnounce
  split
  · exact h.keep (by simp)
  · split
    · exact orphansShown_fileAnnounce s _ a
    · exact h

/-- A record forgotten: PEER_ORPHANED is reported before the view is looked at again (R10, R11). -/
theorem OrphansShown.deliverForget {s : State} (h : OrphansShown s) (src target : Nat) :
    OrphansShown (s.deliverForget src target) := by
  refine h.ite fun _ => ?_
  split
  · exact h
  · next i _ =>
    have reported : OrphansShown (s.setPeer i none).reportOrphans := orphansShown_reportOrphans _
    split
    · exact h
    · exact reported.keep (by simp)

/-- A record aged: PEER_ORPHANED is reported (R8, R10). -/
theorem orphansShown_ageTo (s : State) (i : SlotId) (status : PeerStatus) : OrphansShown (s.ageTo i status) :=
  orphansShown_reportOrphans _

theorem OrphansShown.deliver {s : State} (h : OrphansShown s) (f : Frame) : OrphansShown (s.deliver f) := by
  cases f with
  | drive src target m motion => exact h.ite fun _ => h.keep (by simp)
  | announce src a => exact h.deliverAnnounce src a
  | set src target channel level => exact h.ite fun _ => h.keep (by simp)
  | scene src number => exact h.keep (by simp [State.deliver])
  | forget src target => exact h.deliverForget src target

theorem OrphansShown.checkAndDeliver {s : State} (h : OrphansShown s) (frame : List Byte) :
    OrphansShown (s.checkAndDeliver frame) := by
  refine h.ite fun _ => ?_
  split
  · exact h.keep (by simp)
  · exact h.deliver _

theorem OrphansShown.announceChange {s t : State} (h : OrphansShown t) : OrphansShown (announceChange s t) :=
  h.keep (by simp)

/-- A frame that ends on a port, whatever its row (R160 to R162). -/
theorem OrphansShown.receive {s : State} (h : OrphansShown s) (p : PortId) (frame : List Byte) (mine : Frame → Bool) :
    OrphansShown (s.receive p frame mine) := by
  have good : OrphansShown (s.takeGoodFrame p) := h.keep (by simp)
  have bad : OrphansShown (s.takeBadFrame p) := h.keep (by simp)
  refine h.ite fun _ => ?_
  split
  · exact h.ite fun _ => (good.checkAndDeliver frame).announceChange
  · exact bad.announceChange

/-! ### Keys -/

/-- A key's frame reaches the own blocks as a received one does, then the queue (R140). -/
theorem OrphansShown.emit {s : State} (h : OrphansShown s) (f : Frame) : OrphansShown (s.emit f) :=
  (h.deliver f).keep (by simp [State.emit])

theorem OrphansShown.acknowledge {s : State} (h : OrphansShown s) (k : KeyId) : OrphansShown (s.acknowledge k) :=
  h.keep ⟨rfl, rfl⟩

theorem OrphansShown.press {s : State} (h : OrphansShown s) (k : KeyId) {act : State → State}
    (upholds : ∀ t, OrphansShown t → OrphansShown (act t)) : OrphansShown (s.press k act) :=
  h.ite fun _ => (upholds _ (h.keep (by simp))).announceChange

theorem OrphansShown.startHold {s : State} (h : OrphansShown s) (k : KeyId) (target : Nat) (m : MoverId) (d : Dir) :
    OrphansShown (s.startHold k target m d) := by
  have suppressed := foldl_keepsOrphans (suppress_keepsOrphans k) allKeys s
  unfold State.startHold
  exact OrphansShown.emit (h.keep (by simp [suppressed])) _

theorem OrphansShown.repeatHold {s : State} (h : OrphansShown s) (k : KeyId) : OrphansShown (s.repeatHold k) := by
  unfold State.repeatHold
  split
  · exact OrphansShown.emit (h.keep (by simp)) _
  · exact h

theorem OrphansShown.releaseHold {s : State} (h : OrphansShown s) (k : KeyId) : OrphansShown (s.releaseHold k) := by
  have released (f : Key → Key) : OrphansShown (s.onKey k f) := h.keep (by simp)
  unfold State.releaseHold
  dsimp only
  split
  · split
    · exact (released _).emit _
    · exact released _
  · exact released _

/-! ### Every command, every step -/

/-- Every command answers a next state and upholds the invariant. -/
theorem exec_upholds_orphansShown (i : Instr) {s : State} (h : OrphansShown s) :
    ∃ t, exec i s = .next t ∧ OrphansShown t := by
  cases i with
  | powerOn | pinReset => exact ⟨_, rfl, orphansShown_of_reset rfl rfl⟩
  | strapSample straps => exact ⟨_, rfl, h.ite fun _ => h.keep (takeStraps_keepsOrphans s _)⟩
  | loadEnd image levels =>
    refine ⟨_, rfl, h.ite fun _ => ?_⟩
    split
    · exact h.keep (acceptImage_keepsOrphans s _ levels)
    · exact h.keep (refuseImage_keepsOrphans s)
  | calibrateEnd => exact ⟨_, rfl, h.ite fun _ => h.keep (calibrated_keepsOrphans s)⟩
  | quietEnd => exact ⟨_, rfl, h.ite fun _ => h.keep (enterRun_keepsOrphans s)⟩
  | ownPeriodTick supply => exact ⟨_, rfl, h.ite fun _ => h.keep (ownTick_keepsOrphans s supply)⟩
  -- The rows of the line (Chapter 8).
  | carrierLoss p | darkPortTransition p | linkPulse p | lossOfLock p | errorWindowEnd p | crcError p | frameAborted p
  | arbitrationLoss p | transitionFromAnotherStation p startSymbol =>
    exact ⟨_, rfl, h.ite fun _ => h.keep (by simp)⟩
  | dwellEnd p | echoMismatch p | frameCompletion p =>
    refine ⟨_, rfl, ?_⟩
    split
    · exact h.keep (by simp)
    · exact h
  | transmitStart p =>
    refine ⟨_, rfl, h.ite fun _ => ?_⟩
    split
    · exact h.keep (by simp)
    · exact h
  | driveStale => exact ⟨_, rfl, h.keep (by simp)⟩
  | announceReceived p frame | set p frame | scene p frame | forget p frame
  | driveDirA p frame | driveDirB p frame | driveStop p frame | driveClear p frame =>
    exact ⟨_, rfl, h.receive p frame _⟩
  -- The rows of the budget and of the peer table's ageing (Chapters 1 and 2).
  | settle src => exact ⟨_, rfl, h.keep (by simp)⟩
  | islandDelayExpiry =>
    refine ⟨_, rfl, h.ite fun _ => ?_⟩
    split
    · exact h.keep ⟨rfl, rfl⟩
    · exact h.keep (by simp [State.stopIslandTimer])
  | peerStale n => exact ⟨_, rfl, h.ite fun _ => orphansShown_ageTo s n .stale⟩
  | peerOrphan n => exact ⟨_, rfl, h.ite fun _ => orphansShown_ageTo s n .orphan⟩
  -- The rows of the channels and the sense inputs (Chapters 3 and 7).
  | fadeBeat =>
    have beats := foldl_keepsOrphans (f := State.beatChannel) (fun s c => by simp) allChannels s
    exact ⟨_, rfl, h.ite fun _ => h.keep beats⟩
  | senseReading cs raw => exact ⟨_, rfl, h.keep (convert_keepsOrphans s cs raw)⟩
  | inrushWindowExpiry c | channelTrip c | tripMemoryExpiry c => exact ⟨_, rfl, h.ite fun _ => h.keep (by simp)⟩
  -- The rows of the movers, their claims and their inputs (Chapters 4 to 6).
  | listenWindowExpiry m | holdToRunTimeout m | requestTimeLimit m | releaseGuardExpiry m | lockTimerExpiry m
  | travelTimeout m | overload m | stall m => exact ⟨_, rfl, h.ite fun _ => h.keep (by simp)⟩
  | stopDwellEnd m =>
    refine ⟨_, rfl, ?_⟩
    split
    · exact h.ite fun _ => h.keep (by simp)
    · exact h
  | occupancyChange pin active => exact ⟨_, rfl, h.onChange fun t => by simp⟩
  | lockOpenChange pin active =>
    exact ⟨_, rfl, h.onChange (inputNow_keepsOrphans (lockOpened_keepsOrphans pin) active)⟩
  | lockClosedChange pin active =>
    exact ⟨_, rfl, h.onChange (inputNow_keepsOrphans (lockShut_keepsOrphans pin) active)⟩
  | endSwitchChange pin active =>
    exact ⟨_, rfl, h.onChange (inputNow_keepsOrphans (endSwitch_keepsOrphans pin) active)⟩
  | gypsyPulse pin active => exact ⟨_, rfl, h.onChange (inputNow_keepsOrphans (gypsy_keepsOrphans pin) active)⟩
  | homeChange pin active => exact ⟨_, rfl, h.onChange (homeNow_keepsOrphans pin active)⟩
  | powerFaultChange pin active => exact ⟨_, rfl, h.onChange (powerFaultNow_keepsOrphans pin active)⟩
  -- The rows of the keys (Chapter 7).
  | keySetLevel k | keyToggle k | keyClear k =>
    refine ⟨_, rfl, ?_⟩
    split
    · exact h.press k fun _ held => held.emit _
    · exact h
  | keyScene k | keyForget k =>
    refine ⟨_, rfl, ?_⟩
    split
    · exact h.press k fun _ held => (held.acknowledge k).emit _
    · exact h
  | keyHoldDrive k =>
    refine ⟨_, rfl, ?_⟩
    split
    · exact h.press k fun _ held => held.startHold k _ _ _
    · exact h
  | keyRelease k =>
    exact ⟨_, rfl, h.ite fun _ => (OrphansShown.releaseHold (h.keep (by simp)) k).announceChange⟩
  | keyRepeat k => exact ⟨_, rfl, h.ite fun _ => (h.repeatHold k).announceChange⟩
  | acknowledgeExpiry k => exact ⟨_, rfl, h.ite fun _ => h.keep (by simp)⟩
  -- The remaining rows of the system (Chapters 9 and 10).
  | standbyAssert =>
    refine ⟨_, rfl, ?_⟩
    split
    · exact h.onChange standbyAsserted_keepsOrphans
    · exact h
  | standbyDeassert =>
    refine ⟨_, rfl, ?_⟩
    split
    · exact h.onChange fun _ => ⟨rfl, rfl⟩
    · exact h
  | holdTimerExpiry kind =>
    refine ⟨_, rfl, h.ite fun out => h.keep ?_⟩
    have event : isEvent kind = true := (Bool.and_eq_true_iff.1 out).1
    simp [ne_of_isEvent event]
  | beaconBlink => exact ⟨_, rfl, h.ite fun _ => h.keep ⟨rfl, rfl⟩⟩

/-- A millisecond without a command samples pins and fills the queue. -/
theorem passTime_keepsOrphans (s : State) : KeepsOrphans s s.passTime := by
  have sampled (t : State) := foldl_keepsOrphans (f := State.samplePin) (fun _ _ => ⟨rfl, rfl⟩)
    (allPins.filter t.pinRead) t
  exact sampled { s with now := s.now + 1 }

theorem step_upholds_orphansShown {s t : State} (h : OrphansShown s) (e : step s = .next t) : OrphansShown t := by
  unfold step at e
  split at e
  · rename_i c rest _
    have waiting : OrphansShown { s with pending := rest } := h.keep ⟨rfl, rfl⟩
    obtain ⟨u, answer, shown⟩ := exec_upholds_orphansShown c waiting
    rw [answer] at e
    injection e with same
    exact same ▸ shown
  · unfold State.idle at e
    split at e
    · injection e with same
      exact same ▸ h.keep (passTime_keepsOrphans s)
    · cases e

/-- Settles O28: the kind and severity are those of Table 9-1, and every step upholds the invariant. -/
theorem stepKeepsPeerOrphaned : Obligations.StepKeepsPeerOrphaned :=
  ⟨rfl, rfl, fun _ _ => step_upholds_orphansShown⟩

end Sys2Proof.Safety
end

section
/-! PROOFS. Facts about one load channel (Chapter 3): the levels a SET and a drawing give, and what Chapter 3 asks of
one channel by itself. That reads its configuration, its record, and of its demand entry the class, the rank, W
and the drawing (R20, R42, R45 to R57). -/

namespace Sys2Proof.Safety

open Sys2Proof Sys2Proof.Machine

/-! ### What a channel reads of its demand entry -/

/-- The class, rank, W and drawing of a demand entry; its settled, pending and ceiling amounts are the SBU's own. -/
structure Load where
  cls : Fin 8
  rank : Nat
  want : Nat
  drawing : Nat

/-- What a channel reads of an entry. -/
def loadOf (d : Demand) : Load := { cls := d.cls, rank := d.rank, want := d.want, drawing := d.drawing }

/-- What each channel reads of its own entry in the demand list. -/
def chanLoads (b : Sbu) (c : ChannelId) : Option Load := (demandIn b.demands (.chan c)).map loadOf

theorem demandOf_load (s : State) (c : ChannelId) : (s.demandOf (.chan c)).map loadOf = chanLoads s.sbu c := rfl

theorem demandOf_isSome (s : State) (c : ChannelId) :
    (s.demandOf (.chan c)).isSome = (chanLoads s.sbu c).isSome := by
  rw [← demandOf_load, Option.isSome_map]

theorem chanDrawing_load (s : State) (c : ChannelId) :
    s.chanDrawing c = (chanLoads s.sbu c).map fun x => x.drawing := by
  rw [← demandOf_load, Option.map_map]
  rfl

/-! ### Levels -/

/-- A level a channel can run at: 0, or from Lmin to 256 (R49, R51). -/
def levelInRange (k : ChannelCfg) (level : Nat) : Prop := level = 0 ∨ (k.lmin ≤ level ∧ level ≤ 256)

theorem deriveLevel_zero (k : ChannelCfg) : deriveLevel k 0 = 0 := if_pos rfl

theorem deriveLevel_switched {k : ChannelCfg} (h : k.kind = .switched) {level : Nat} (on : level ≠ 0) :
    deriveLevel k level = 256 := by
  simp [deriveLevel, on, h]

theorem deriveLevel_dimmed {k : ChannelCfg} (h : k.kind = .dimmed) {level : Nat} (on : level ≠ 0) :
    deriveLevel k level = max k.lmin (min level 256) := by
  simp [deriveLevel, on, h]

/-- A level field above 256 counts as 256 (R45). -/
theorem deriveLevel_clamped (k : ChannelCfg) (level : Nat) : deriveLevel k level = deriveLevel k (min level 256) := by
  by_cases off : level = 0
  · subst off; rfl
  · have on : min level 256 ≠ 0 := by omega
    cases kind : k.kind with
    | switched => rw [deriveLevel_switched kind off, deriveLevel_switched kind on]
    | dimmed => rw [deriveLevel_dimmed kind off, deriveLevel_dimmed kind on, min_assoc, min_self]

/-- The level a SET gives is one the channel can hold (R45). -/
theorem deriveLevel_requestable {k : ChannelCfg} (minimum : k.lmin ≤ 128) (level : Nat) :
    requestable k (deriveLevel k level) := by
  unfold requestable
  by_cases off : level = 0
  · subst off
    cases k.kind <;> exact .inl (deriveLevel_zero k)
  · cases kind : k.kind with
    | switched => exact .inr (deriveLevel_switched kind off)
    | dimmed =>
      rw [deriveLevel_dimmed kind off]
      right
      omega

theorem requestable_zero (k : ChannelCfg) : requestable k 0 := by
  unfold requestable
  cases k.kind <;> exact .inl rfl

/-- The effective level is the level R48 and R49 give (R50). -/
theorem effectiveLevel_eq_levelOf (k : ChannelCfg) (lreq : Nat) (drawing : Option Nat) :
    effectiveLevel k lreq drawing = levelOf k lreq drawing := by
  have supported : supportedLevel k drawing = drawing.getD 0 * 256 / k.rating := by
    cases drawing <;> simp [supportedLevel]
  by_cases unrated : k.rating = 0
  · simp only [effectiveLevel, levelOf, if_pos unrated]
  · cases kind : k.kind <;> simp [effectiveLevel, levelOf, unrated, kind, supported]

/-- With nothing requested and no entry a channel is off. -/
theorem levelOf_off (k : ChannelCfg) : levelOf k 0 none = 0 := by
  unfold levelOf
  split
  · rfl
  · cases k.kind <;> simp

theorem requestable.inRange {k : ChannelCfg} {lreq : Nat} (h : requestable k lreq) (minimum : k.lmin ≤ 128) :
    levelInRange k lreq := by
  unfold requestable at h
  unfold levelInRange
  cases kind : k.kind <;> simp only [kind] at h <;> omega

theorem levelOf_inRange {k : ChannelCfg} {lreq : Nat} (h : requestable k lreq) (minimum : k.lmin ≤ 128)
    (drawing : Option Nat) : levelInRange k (levelOf k lreq drawing) := by
  have held : levelInRange k lreq := h.inRange minimum
  unfold levelOf
  split
  · exact held
  · unfold levelInRange at held ⊢
    cases k.kind <;> dsimp only <;> split <;> omega

/-- A step of the fade ends at 0 or from Lmin to 256 (R51). -/
theorem fadeStep_inRange {k : ChannelCfg} {pos leff : Nat} (hpos : levelInRange k pos) (hleff : levelInRange k leff) :
    levelInRange k (fadeStep k pos leff) := by
  unfold levelInRange at *
  unfold fadeStep
  split
  · split <;> omega
  · split
    · by_cases dark : leff = 0 ∧ pos - k.fade < k.lmin
      · rw [if_pos (by simpa using dark)]
        exact .inl rfl
      · rw [if_neg (by simpa using dark)]
        omega
    · exact hpos

/-! ### One channel -/

/-- A channel has an entry exactly while its Lreq and its rating are above 0, in its class and rank, wanting what R46
gives (R20, R46). -/
structure EntryFor (k : ChannelCfg) (lreq : Nat) (load : Option Load) : Prop where
  entry : load.isSome = true ↔ lreq ≠ 0 ∧ k.rating ≠ 0
  want : ∀ x, load = some x → x.cls = k.cls ∧ x.rank = k.rank ∧ x.want = wants k lreq

/-- Chapter 3 for one channel but for its Leff: its entry, Lreq and the position in their ranges, a channel out of
service dark. -/
structure RequestOk (k : ChannelCfg) (ch : Channel) (load : Option Load) : Prop extends EntryFor k ch.lreq load where
  request : requestable k ch.lreq
  position : levelInRange k ch.position
  dark : ch.mark ≠ .inService → ch.lreq = 0 ∧ ch.position = 0
  minimum : k.lmin ≤ 128

/-- Chapter 3 for one channel: its Leff as the drawing gives it, and an output that follows its Leff at once there. -/
structure ChannelOk (k : ChannelCfg) (ch : Channel) (load : Option Load) : Prop extends RequestOk k ch load where
  level : ch.leff = levelOf k ch.lreq (load.map fun x => x.drawing)
  follows : k.kind = .switched ∨ k.fade = 0 → ch.position = ch.leff

section Channel

variable {k : ChannelCfg} {ch x : Channel} {load : Option Load}

theorem EntryFor.eq_none {lreq : Nat} (h : EntryFor k lreq load) (off : lreq = 0 ∨ k.rating = 0) : load = none := by
  rw [← Option.not_isSome_iff_eq_none, h.entry]
  tauto

theorem EntryFor.exists_load {lreq : Nat} (h : EntryFor k lreq load) (on : lreq ≠ 0) (rated : k.rating ≠ 0) :
    ∃ x, load = some x :=
  Option.isSome_iff_exists.1 (h.entry.2 ⟨on, rated⟩)

theorem entryFor_none {lreq : Nat} (off : lreq = 0 ∨ k.rating = 0) : EntryFor k lreq none where
  entry := iff_of_false Bool.false_ne_true fun on => off.elim on.1 on.2
  want _ e := nomatch e

theorem entryFor_some {lreq : Nat} {x : Load} (on : lreq ≠ 0) (rated : k.rating ≠ 0)
    (want : x.cls = k.cls ∧ x.rank = k.rank ∧ x.want = wants k lreq) : EntryFor k lreq (some x) where
  entry := iff_of_true rfl ⟨on, rated⟩
  want := by rintro _ ⟨rfl⟩; exact want

/-- A channel out of service has no entry, and its Leff is 0. -/
theorem RequestOk.levelOf_dark (h : RequestOk k ch load) (out : ch.mark ≠ .inService) :
    levelOf k ch.lreq (load.map fun x => x.drawing) = 0 := by
  obtain ⟨off, -⟩ := h.dark out
  rw [h.eq_none (.inl off), off]
  exact levelOf_off k

theorem ChannelOk.leff_inRange (h : ChannelOk k ch load) : levelInRange k ch.leff :=
  h.level ▸ levelOf_inRange h.request h.minimum _

theorem ChannelOk.leff_dark (h : ChannelOk k ch load) (out : ch.mark ≠ .inService) : ch.leff = 0 :=
  h.level.trans (h.levelOf_dark out)

/-- Readings, windows and the trip memory are no part of what Chapter 3 asks of the levels. -/
theorem ChannelOk.congr (h : ChannelOk k ch load) (lreq : x.lreq = ch.lreq) (leff : x.leff = ch.leff)
    (position : x.position = ch.position) (mark : x.mark = ch.mark) : ChannelOk k x load where
  toEntryFor := lreq ▸ h.toEntryFor
  request := lreq ▸ h.request
  position := position ▸ h.position
  dark := by rw [mark, lreq, position]; exact h.dark
  minimum := h.minimum
  level := by rw [leff, lreq]; exact h.level
  follows := by rw [position, leff]; exact h.follows

/-- A channel with nothing requested, no entry and its output off, as after reset, at CALIBRATE's end and after a trip
(R42, R56, R57, R65). -/
theorem channelOk_of_off (minimum : k.lmin ≤ 128) (lreq : ch.lreq = 0) (leff : ch.leff = 0)
    (position : ch.position = 0) : ChannelOk k ch none where
  toEntryFor := entryFor_none (.inl lreq)
  request := lreq ▸ requestable_zero k
  position := .inl position
  dark _ := ⟨lreq, position⟩
  minimum := minimum
  level := by rw [leff, lreq]; exact (levelOf_off k).symm
  follows _ := position.trans leff.symm

/-- A new drawing changes nothing but the level it pays for (R28). -/
theorem RequestOk.redraw (h : RequestOk k ch load) (drawing : Nat) :
    RequestOk k ch (load.map fun x => { x with drawing := drawing }) where
  entry := by rw [Option.isSome_map]; exact h.entry
  want := by
    intro x e
    obtain ⟨y, same, rfl⟩ := Option.map_eq_some_iff.1 e
    exact h.want y same
  request := h.request
  position := h.position
  dark := h.dark
  minimum := h.minimum

/-- The record with its Leff from the entry's drawing, its output following where it does so at once (R50). -/
def refreshed (now : Nat) (k : ChannelCfg) (drawing : Option Nat) (ch : Channel) : Channel :=
  let leff := effectiveLevel k ch.lreq drawing
  if followsAtOnce k then moveTo now leff { ch with leff := leff } else { ch with leff := leff }

theorem RequestOk.refreshed (h : RequestOk k ch load) (now : Nat) :
    ChannelOk k (refreshed now k (load.map fun x => x.drawing) ch) load := by
  have range := levelOf_inRange h.request h.minimum (load.map fun x => x.drawing)
  unfold Safety.refreshed
  rw [effectiveLevel_eq_levelOf]
  dsimp only
  by_cases atOnce : followsAtOnce k = true
  · rw [if_pos atOnce]
    exact
      { toEntryFor := h.toEntryFor, request := h.request, minimum := h.minimum
        position := range
        dark := fun out => ⟨(h.dark out).1, h.levelOf_dark out⟩
        level := rfl
        follows := fun _ => rfl }
  · rw [if_neg atOnce]
    exact
      { toEntryFor := h.toEntryFor, request := h.request, minimum := h.minimum
        position := h.position
        dark := h.dark
        level := rfl
        follows := fun at_once => absurd (by simpa [followsAtOnce] using at_once) atOnce }

/-- The output moved to its Leff, as the cut does (R53). -/
theorem ChannelOk.moveToLeff (h : ChannelOk k ch load) (now : Nat) : ChannelOk k (moveTo now ch.leff ch) load where
  toEntryFor := h.toEntryFor
  request := h.request
  position := h.leff_inRange
  dark out := ⟨(h.dark out).1, h.leff_dark out⟩
  minimum := h.minimum
  level := h.level
  follows _ := rfl

/-- The output of a channel that fades moved by one step (R51). One out of service stands at its Leff, and does not
fade. -/
theorem ChannelOk.fade (h : ChannelOk k ch load) (dimmed : k.kind = .dimmed) (rate : k.fade ≠ 0)
    (apart : ch.position ≠ ch.leff) (now : Nat) :
    ChannelOk k (moveTo now (fadeStep k ch.position ch.leff) ch) load where
  toEntryFor := h.toEntryFor
  request := h.request
  position := fadeStep_inRange h.position h.leff_inRange
  dark out := absurd ((h.dark out).2.trans (h.leff_dark out).symm) apart
  minimum := h.minimum
  level := h.level
  follows atOnce := by simp [dimmed, rate] at atOnce

/-- A SET's level taken up by a channel that returns to, or is in, service: with the entry R46 asks for, all but the
Leff stands (R45 to R47). -/
theorem RequestOk.request_level (h : RequestOk k ch load) (level : Nat) {load' : Option Load}
    (entry : EntryFor k (deriveLevel k level) load')
    (service : x.mark = .inService) (lreq : x.lreq = deriveLevel k level) (position : x.position = ch.position) :
    RequestOk k x load' where
  toEntryFor := lreq ▸ entry
  request := lreq ▸ deriveLevel_requestable h.minimum level
  position := position ▸ h.position
  dark out := absurd service out
  minimum := h.minimum

end Channel

end Sys2Proof.Safety
end

section
/-! PROOFS. The invariant of the levels as that of each channel, and the operations that leave every channel and its
entry as they are: what the budget, the movers, the line, the peers, the pins and the keys do. -/

namespace Sys2Proof.Safety

open Sys2Proof Sys2Proof.Machine

/-! ### The station's channels -/

/-- Chapter 3 but for Leff, for channel c of the station. -/
def RequestAt (s : State) (c : ChannelId) : Prop := RequestOk s.cfg.channels[c] s.lcu.channels[c] (chanLoads s.sbu c)

/-- Chapter 3 for channel c of the station. -/
def ChannelAt (s : State) (c : ChannelId) : Prop := ChannelOk s.cfg.channels[c] s.lcu.channels[c] (chanLoads s.sbu c)

theorem ChannelAt.requestAt {s : State} {c : ChannelId} (h : ChannelAt s c) : RequestAt s c := h.toRequestOk

/-- The invariant is that of each channel, and before QUIET and in LISTEN_ONLY every record as after reset. -/
theorem levelsOk_iff (s : State) :
    LevelsOk s ↔ (∀ c, ChannelAt s c) ∧ (s.working = false → ∀ c : ChannelId, s.lcu.channels[c] = {}) := by
  constructor
  · intro h
    refine ⟨fun c => ?_, h.early⟩
    exact
      { entry := by rw [← demandOf_isSome]; exact h.entry c
        want := by
          intro x e
          obtain ⟨d, found, rfl⟩ := Option.map_eq_some_iff.1 e
          exact h.want c d found
        request := h.request c
        position := h.position c
        dark := h.dark c
        minimum := h.minimum c
        level := by rw [← chanDrawing_load]; exact h.level c
        follows := h.follows c }
  · rintro ⟨each, early⟩
    exact
      { entry := fun c => by rw [demandOf_isSome]; exact (each c).entry
        want := fun c d found => (each c).want (loadOf d) (by rw [← demandOf_load, found]; rfl)
        request := fun c => (each c).request
        level := fun c => (each c).level.trans (by rw [← chanDrawing_load]; rfl)
        follows := fun c => (each c).follows
        position := fun c => (each c).position
        dark := fun c => (each c).dark
        minimum := fun c => (each c).minimum
        early := early }

theorem LevelsOk.channelAt {s : State} (h : LevelsOk s) (c : ChannelId) : ChannelAt s c := ((levelsOk_iff s).1 h).1 c

/-- A record other than that after reset stands in QUIET and RUN alone (R65). -/
theorem LevelsOk.working_of_ne {s : State} (h : LevelsOk s) (c : ChannelId) (ne : s.lcu.channels[c] ≠ {}) :
    s.working = true := by
  by_contra out
  exact ne (h.early (Bool.eq_false_iff.2 out) c)

theorem levelsOk_of_working {s : State} (work : s.working = true) (h : ∀ c, ChannelAt s c) : LevelsOk s :=
  (levelsOk_iff s).2 ⟨h, fun out => absurd work (by simp [out])⟩

/-! ### Stations whose channels are off -/

/-- No channel has a level, an output or an entry, whatever its mark. -/
structure AllOff (s : State) : Prop where
  levels : ∀ c : ChannelId,
    (s.lcu.channels[c]).lreq = 0 ∧ (s.lcu.channels[c]).leff = 0 ∧ (s.lcu.channels[c]).position = 0
  loads : ∀ c, chanLoads s.sbu c = none

theorem AllOff.channelAt {s : State} (h : AllOff s) (minimum : ∀ c : ChannelId, (s.cfg.channels[c]).lmin ≤ 128)
    (c : ChannelId) : ChannelAt s c := by
  obtain ⟨lreq, leff, position⟩ := h.levels c
  unfold ChannelAt
  rw [h.loads c]
  exact channelOk_of_off (minimum c) lreq leff position

/-- Every channel record is as after reset, and no channel has an entry. -/
structure FreshLoads (s : State) : Prop where
  records : ∀ c : ChannelId, s.lcu.channels[c] = {}
  loads : ∀ c, chanLoads s.sbu c = none

theorem FreshLoads.allOff {s : State} (h : FreshLoads s) : AllOff s :=
  ⟨fun c => by rw [h.records c]; exact ⟨rfl, rfl, rfl⟩, h.loads⟩

theorem FreshLoads.levelsOk {s : State} (h : FreshLoads s) (minimum : ∀ c : ChannelId, (s.cfg.channels[c]).lmin ≤ 128) :
    LevelsOk s :=
  (levelsOk_iff s).2 ⟨h.allOff.channelAt minimum, fun _ => h.records⟩

theorem LevelsOk.fresh {s : State} (h : LevelsOk s) (out : s.working = false) : FreshLoads s :=
  ⟨h.early out, fun c => (h.channelAt c).toEntryFor.eq_none (.inl (by rw [h.early out c]))⟩

theorem unconfigured_minimum (c : ChannelId) : ((Cfg.unconfigured.channels)[c]).lmin ≤ 128 := by
  revert c; decide

/-! ### Operations that leave the channels alone -/

/-- What the invariant reads stands in t as in s. A simp lemma that states it gives simp the four equations. -/
abbrev KeepsLoads (s t : State) : Prop :=
  t.lcu = s.lcu ∧ t.cfg = s.cfg ∧ t.suc.phase = s.suc.phase ∧ chanLoads t.sbu = chanLoads s.sbu

theorem working_congr {s t : State} (h : t.suc.phase = s.suc.phase) : t.working = s.working := by
  unfold State.working; rw [h]

theorem LevelsOk.keep {s t : State} (h : LevelsOk s) (same : KeepsLoads s t) : LevelsOk t := by
  obtain ⟨lcu, cfg, phase, loads⟩ := same
  rw [levelsOk_iff] at h ⊢
  unfold ChannelAt at h ⊢
  rw [lcu, cfg, loads, working_congr phase]
  exact h

theorem AllOff.keep {s t : State} (h : AllOff s) (same : KeepsLoads s t) : AllOff t := by
  obtain ⟨lcu, -, -, loads⟩ := same
  exact ⟨lcu ▸ h.levels, loads ▸ h.loads⟩

theorem LevelsOk.ite {c : Prop} [Decidable c] {s t : State} (h : LevelsOk s) (k : c → LevelsOk t) :
    LevelsOk (if c then t else s) := by
  split
  · exact k ‹c›
  · exact h

/-- A fold whose steps leave the channels alone does so too. -/
theorem foldl_keepsLoads {α : Type} {f : State → α → State} (h : ∀ s a, KeepsLoads s (f s a)) (l : List α) (s : State) :
    KeepsLoads s (l.foldl f s) := by
  induction l generalizing s with
  | nil => exact ⟨rfl, rfl, rfl, rfl⟩
  | cons a l ih =>
    obtain ⟨lcu, cfg, phase, loads⟩ := h s a
    obtain ⟨lcu', cfg', phase', loads'⟩ := ih (f s a)
    exact ⟨lcu'.trans lcu, cfg'.trans cfg, phase'.trans phase, loads'.trans loads⟩

/-- One channel and its entry are changed, in QUIET or RUN; the others stand. -/
theorem LevelsOk.update {s t : State} (h : LevelsOk s) (work : s.working = true) (c : ChannelId) (cfg : t.cfg = s.cfg)
    (phase : t.suc.phase = s.suc.phase)
    (others : ∀ x, x ≠ c → t.lcu.channels[x] = s.lcu.channels[x] ∧ chanLoads t.sbu x = chanLoads s.sbu x)
    (changed : ChannelAt t c) : LevelsOk t := by
  refine levelsOk_of_working ((working_congr phase).trans work) fun x => ?_
  by_cases same : x = c
  · exact same ▸ changed
  · obtain ⟨record, load⟩ := others x same
    unfold ChannelAt
    rw [cfg, record, load]
    exact h.channelAt x

theorem onChannel_record (s : State) (c x : ChannelId) (f : Channel → Channel) :
    (s.onChannel c f).lcu.channels[x] = if x = c then f s.lcu.channels[c] else s.lcu.channels[x] :=
  modifyAt_get s.lcu.channels c x f

/-- A channel that is not as after reset is changed. -/
theorem LevelsOk.onChannel {s : State} (h : LevelsOk s) {c : ChannelId} {f : Channel → Channel}
    (ne : s.lcu.channels[c] ≠ {})
    (changed : ChannelOk s.cfg.channels[c] (f s.lcu.channels[c]) (chanLoads s.sbu c)) : LevelsOk (s.onChannel c f) := by
  refine h.update (h.working_of_ne c ne) c rfl rfl (fun x other => ⟨?_, rfl⟩) ?_
  · rw [onChannel_record, if_neg other]
  · unfold ChannelAt
    rw [onChannel_record, if_pos rfl]
    exact changed

/-! ### The demand list -/

theorem chanLoads_eq {s t : State} (h : ∀ c, t.demandOf (.chan c) = s.demandOf (.chan c)) :
    chanLoads t.sbu = chanLoads s.sbu :=
  funext fun c => congrArg (Option.map loadOf) (h c)

/-- A change of every entry that keeps its source and what the channels read of it. -/
theorem demandIn_map_load {f : Demand → Demand} (keeps : ∀ d, (f d).source = d.source ∧ loadOf (f d) = loadOf d)
    (l : List Demand) (src : Source) : (demandIn (l.map f) src).map loadOf = (demandIn l src).map loadOf := by
  have source : (fun d => decide (d.source = src)) ∘ f = fun d => decide (d.source = src) :=
    funext fun d => by simp [(keeps d).1]
  have load : loadOf ∘ f = loadOf := funext fun d => (keeps d).2
  unfold demandIn
  rw [List.find?_map, source, Option.map_map, load]

theorem demandIn_mapSource_load {f : Demand → Demand} (keeps : ∀ d, (f d).source = d.source ∧ loadOf (f d) = loadOf d)
    (src other : Source) (l : List Demand) :
    (demandIn (mapSource src f l) other).map loadOf = (demandIn l other).map loadOf := by
  refine demandIn_map_load (fun d => ?_) l other
  split
  · exact keeps d
  · exact ⟨rfl, rfl⟩

@[simp] theorem removeEntry_mover_loads (s : State) (m : MoverId) :
    chanLoads (s.removeEntry (.mover m)).sbu = chanLoads s.sbu :=
  chanLoads_eq fun c => by simp [State.removeEntry_demandOf]

@[simp] theorem createEntry_mover_loads (s : State) (m : MoverId) (cls : Fin 8) (rank want : Nat) :
    chanLoads (s.createEntry (.mover m) cls rank want).sbu = chanLoads s.sbu :=
  chanLoads_eq fun c => by simp [State.createEntry_demandOf]

/-- An offer that becomes pending changes no drawing (R31). -/
theorem pend_load (now : Nat) (l : List Demand) (o : Source × Nat) (src : Source) :
    (demandIn (pend now l o) src).map loadOf = (demandIn l src).map loadOf := by
  refine demandIn_mapSource_load (fun d => ?_) o.1 src l
  split <;> exact ⟨rfl, rfl⟩

@[simp] theorem takeOffers_loads (s : State) : chanLoads s.takeOffers.sbu = chanLoads s.sbu := by
  have pended : ∀ (offers : List (Source × Nat)) (l : List Demand) (src : Source),
      (demandIn (offers.foldl (pend s.now) l) src).map loadOf = (demandIn l src).map loadOf := by
    intro offers
    induction offers with
    | nil => exact fun l src => rfl
    | cons o offers ih => exact fun l src => (ih _ src).trans (pend_load s.now l o src)
  exact funext fun c => pended _ _ _

/-- SETTLE does not change a drawing (R32). -/
theorem settle_loads (s : State) (src : Source) :
    chanLoads (s.setDemands (mapSource src (settleEntry s.now s.cfg.settle) s.sbu.demands)).sbu = chanLoads s.sbu := by
  refine funext fun c => demandIn_mapSource_load (fun d => ?_) src (.chan c) s.sbu.demands
  unfold settleEntry
  split
  · split <;> exact ⟨rfl, rfl⟩
  · exact ⟨rfl, rfl⟩

/-- Entry into island mode and exit from it change no drawing (R35, R38). -/
theorem islandEntry_load (l : List Demand) (src : Source) :
    (demandIn (l.map islandEntry) src).map loadOf = (demandIn l src).map loadOf :=
  demandIn_map_load (f := islandEntry) (fun _ => ⟨rfl, rfl⟩) l src

theorem islandLeave_load (l : List Demand) (src : Source) :
    (demandIn (l.map islandLeave) src).map loadOf = (demandIn l src).map loadOf :=
  demandIn_map_load (f := islandLeave) (fun _ => ⟨rfl, rfl⟩) l src

@[simp] theorem enterIsland_loads (s : State) (cause : IslandCause) :
    chanLoads (s.enterIsland cause).sbu = chanLoads s.sbu := by
  unfold State.enterIsland
  rw [State.raiseCond_sbu]
  exact funext fun c => islandEntry_load s.sbu.demands (.chan c)

@[simp] theorem leaveIsland_loads (s : State) : chanLoads s.leaveIsland.sbu = chanLoads s.sbu := by
  unfold State.leaveIsland
  split
  · rw [State.clearFlag_sbu]
    exact funext fun c => islandLeave_load s.sbu.demands (.chan c)
  · rfl

@[simp] theorem emptyQueue_loads (s : State) : chanLoads s.emptyQueue.sbu = chanLoads s.sbu := rfl

@[simp] theorem compose_loads (s : State) : chanLoads s.compose.sbu = chanLoads s.sbu := by
  unfold State.compose
  split <;> rfl

@[simp] theorem announceChange_loads (s t : State) : chanLoads (announceChange s t).sbu = chanLoads t.sbu := by
  unfold announceChange
  split <;> simp

/-- The allocation gives an entry a new drawing and nothing else that a channel reads (R28). -/
theorem allocate_load (cfg : Cfg) (src : Source) (l : List Demand) (g : Vector Nat 8) :
    ∃ drawing, (demandIn (allocate cfg g l) src).map loadOf =
      ((demandIn l src).map loadOf).map fun x => { x with drawing := drawing } := by
  induction l generalizing g with
  | nil => exact ⟨0, rfl⟩
  | cons d rest ih =>
    unfold allocate demandIn
    by_cases found : d.source = src
    · by_cases essential : d.cls = 0
      · exact ⟨d.want, by simp [essential, found, loadOf]⟩
      · exact ⟨share cfg g[d.cls] d, by simp [essential, found, loadOf]⟩
    · by_cases essential : d.cls = 0
      · obtain ⟨drawing, e⟩ := ih g
        exact ⟨drawing, by simpa [essential, found, demandIn] using e⟩
      · obtain ⟨drawing, e⟩ := ih (g.set d.cls (g[d.cls] - share cfg g[d.cls] d))
        exact ⟨drawing, by simpa [essential, found, demandIn] using e⟩

theorem RequestAt.budgetTick {s : State} {c : ChannelId} (h : RequestAt s c) : RequestAt s.budgetTick c := by
  obtain ⟨drawing, load⟩ := allocate_load s.cfg (.chan c) s.sbu.demands s.computeGrants
  have drawn : chanLoads s.budgetTick.sbu c = (chanLoads s.sbu c).map fun x => { x with drawing := drawing } := by
    rw [chanLoads, chanLoads, ← load]
    simp [State.budgetTick]
  unfold RequestAt
  rw [drawn, State.budgetTick_cfg, State.budgetTick_lcu]
  exact RequestOk.redraw h drawing

/-! ### The movers -/

@[simp] theorem enterIdle_loads (s : State) (m : MoverId) (code : RefusalCode) :
    chanLoads (s.enterIdle m code).sbu = chanLoads s.sbu :=
  chanLoads_eq fun c => by simp [State.enterIdle_demandOf]

@[simp] theorem enterFaulted_loads (s : State) (m : MoverId) (reason : FaultReason) :
    chanLoads (s.enterFaulted m reason).sbu = chanLoads s.sbu :=
  chanLoads_eq fun c => by simp [State.enterFaulted_demandOf]

@[simp] theorem enterRequesting_loads (s : State) (m : MoverId) (src : Nat) (d : Dir) :
    chanLoads (s.enterRequesting m src d).sbu = chanLoads s.sbu := by
  simp [State.enterRequesting]

@[simp] theorem enterLocking_loads (s : State) (m : MoverId) (code : RefusalCode) :
    chanLoads (s.enterLocking m code).sbu = chanLoads s.sbu := by
  unfold State.enterLocking
  split <;> simp

@[simp] theorem faultInMotion_loads (s : State) (m : MoverId) (reason : FaultReason) :
    chanLoads (s.faultInMotion m reason).sbu = chanLoads s.sbu := by
  unfold State.faultInMotion
  split
  · split <;> simp
  · rfl

@[simp] theorem haltMovers_loads (s : State) : chanLoads s.haltMovers.sbu = chanLoads s.sbu :=
  foldl_keeps (fun s => chanLoads s.sbu) _ (fun s m => faultInMotion_loads s m .halted) allMovers s

@[simp] theorem raiseHalt_loads (s : State) (k : FaultKind) : chanLoads (s.raiseHalt k).sbu = chanLoads s.sbu := by
  unfold State.raiseHalt
  split <;> simp

@[simp] theorem react_loads (s : State) (m : MoverId) : chanLoads (s.react m).sbu = chanLoads s.sbu := by
  unfold State.react
  (repeat' split) <;> simp

@[simp] theorem reactAll_loads (s : State) : chanLoads s.reactAll.sbu = chanLoads s.sbu := by
  simp [State.reactAll]

@[simp] theorem reexamine_loads (s : State) : chanLoads s.reexamine.sbu = chanLoads s.sbu := by
  simp [State.reexamine]

@[simp] theorem tickMover_loads (s : State) (m : MoverId) : chanLoads (s.tickMover m).sbu = chanLoads s.sbu := by
  unfold State.tickMover
  (repeat' split) <;> simp

@[simp] theorem reachEnd_loads (s : State) (m : MoverId) : chanLoads (s.reachEnd m).sbu = chanLoads s.sbu := by
  unfold State.reachEnd
  (repeat' split) <;> simp

@[simp] theorem fitnessStop_loads (s : State) (m : MoverId) : chanLoads (s.fitnessStop m).sbu = chanLoads s.sbu := by
  unfold State.fitnessStop
  (repeat' split) <;> simp

@[simp] theorem standbyStop_loads (s : State) (m : MoverId) : chanLoads (s.standbyStop m).sbu = chanLoads s.sbu := by
  unfold State.standbyStop
  (repeat' split) <;> simp

@[simp] theorem holdExpired_loads (s : State) (m : MoverId) : chanLoads (s.holdExpired m).sbu = chanLoads s.sbu := by
  unfold State.holdExpired
  (repeat' split) <;> simp

@[simp] theorem comeToRest_loads (s : State) (m : MoverId) (reason : StopReason) :
    chanLoads (s.comeToRest m reason).sbu = chanLoads s.sbu := by
  unfold State.comeToRest
  split <;> simp

@[simp] theorem dwellOver_loads (s : State) (m : MoverId) (r : Mover) :
    chanLoads (s.dwellOver m r).sbu = chanLoads s.sbu := by
  unfold State.dwellOver
  (repeat' split) <;> simp

@[simp] theorem countEnd_loads (s : State) (m : MoverId) : chanLoads (s.countEnd m).sbu = chanLoads s.sbu := by
  unfold State.countEnd
  (repeat' split) <;> simp

@[simp] theorem turnRequest_loads (s : State) (m : MoverId) (d : Dir) :
    chanLoads (s.turnRequest m d).sbu = chanLoads s.sbu := by
  unfold State.turnRequest
  dsimp only
  split <;> simp

@[simp] theorem driveDir_loads (s : State) (m : MoverId) (src : Nat) (d : Dir) :
    chanLoads (s.driveDir m src d).sbu = chanLoads s.sbu := by
  unfold State.driveDir
  (repeat' split) <;> simp

@[simp] theorem driveStop_loads (s : State) (m : MoverId) (src : Nat) :
    chanLoads (s.driveStop m src).sbu = chanLoads s.sbu := by
  unfold State.driveStop
  (repeat' split) <;> simp

@[simp] theorem deliverDrive_loads (s : State) (src : Nat) (m : MoverId) (motion : Motion) :
    chanLoads (s.deliverDrive src m motion).sbu = chanLoads s.sbu := by
  unfold State.deliverDrive
  (repeat' split) <;> simp

/-! ### The line and the peers -/

@[simp] theorem raiseTwin_loads (s : State) : chanLoads s.raiseTwin.sbu = chanLoads s.sbu := by
  unfold State.raiseTwin
  split <;> simp

@[simp] theorem loseFitness_loads (s : State) : chanLoads s.loseFitness.sbu = chanLoads s.sbu := by
  have stopped := foldl_keeps (fun s => chanLoads s.sbu) _ fitnessStop_loads allMovers (s.raiseCond .lineUnfit)
  exact stopped.trans (by simp)

@[simp] theorem regainFitness_loads (s : State) : chanLoads s.regainFitness.sbu = chanLoads s.sbu := by
  have windows := foldl_keeps State.sbu _ State.restartWindow_sbu allMovers (s.clearFlag .lineUnfit).leaveIsland
  simp [State.regainFitness, windows]

@[simp] theorem judgeFitness_loads (s : State) : chanLoads s.judgeFitness.sbu = chanLoads s.sbu := by
  unfold State.judgeFitness
  (repeat' split) <;> simp

@[simp] theorem movePort_loads (s : State) (p : PortId) (f : Port → Port) :
    chanLoads (s.movePort p f).sbu = chanLoads s.sbu := by
  simp [State.movePort]

@[simp] theorem takeBadFrame_loads (s : State) (p : PortId) : chanLoads (s.takeBadFrame p).sbu = chanLoads s.sbu := by
  unfold State.takeBadFrame
  dsimp only
  split <;> simp

@[simp] theorem takeGoodFrame_loads (s : State) (p : PortId) : chanLoads (s.takeGoodFrame p).sbu = chanLoads s.sbu :=
  movePort_loads s p _

@[simp] theorem mismatchFrame_loads (s : State) (p : PortId) (a : Attempt) :
    chanLoads (s.mismatchFrame p a).sbu = chanLoads s.sbu := by
  unfold State.mismatchFrame
  dsimp only
  split
  · simp
  · split <;> simp

@[simp] theorem completeFrame_loads (s : State) (p : PortId) (a : Attempt) :
    chanLoads (s.completeFrame p a).sbu = chanLoads s.sbu := by
  unfold State.completeFrame
  dsimp only
  split
  · simp
  · split <;> simp

@[simp] theorem judgeClash_loads (filed : List ClaimStatus) (s : State) (m : MoverId) :
    chanLoads (s.judgeClash filed m).sbu = chanLoads s.sbu := by
  unfold State.judgeClash
  split <;> simp

@[simp] theorem fileAnnounce_loads (s : State) (i : SlotId) (a : Announce) :
    chanLoads (s.fileAnnounce i a).sbu = chanLoads s.sbu := by
  have judged := foldl_keeps (fun s => chanLoads s.sbu) _ (judgeClash_loads a.claims) allMovers
    (s.setPeer i (some { status := .live, heard := s.now, ann := a })).reportOrphans
  simp [State.fileAnnounce, judged]

@[simp] theorem deliverAnnounce_loads (s : State) (src : Nat) (a : Announce) :
    chanLoads (s.deliverAnnounce src a).sbu = chanLoads s.sbu := by
  unfold State.deliverAnnounce
  (repeat' split) <;> simp

@[simp] theorem deliverForget_loads (s : State) (src target : Nat) :
    chanLoads (s.deliverForget src target).sbu = chanLoads s.sbu := by
  unfold State.deliverForget
  (repeat' split) <;> simp

/-! ### Pins, keys and inputs -/

@[simp] theorem deliverPin_keepsLoads (s : State) (p : PinId) (active : Bool) :
    KeepsLoads s (s.deliverPin p active) := ⟨rfl, rfl, rfl, rfl⟩

@[simp] theorem hold_keepsLoads (s : State) (k : KeyId) (active : Bool) : KeepsLoads s (s.hold k active) := by
  unfold State.hold
  dsimp only
  split <;> simp [KeepsLoads]

theorem suppress_keepsLoads (k : KeyId) (s : State) (j : KeyId) : KeepsLoads s (s.suppress k j) := by
  unfold State.suppress
  split <;> simp [KeepsLoads]

theorem lockOpened_keepsLoads (p : PinId) (s : State) (m : MoverId) : KeepsLoads s (s.lockOpened p m) := by
  unfold State.lockOpened
  (repeat' split) <;> simp [KeepsLoads]

theorem lockShut_keepsLoads (p : PinId) (s : State) (m : MoverId) : KeepsLoads s (State.lockShut p s m) := by
  unfold State.lockShut
  (repeat' split) <;> simp [KeepsLoads]

theorem endSwitch_keepsLoads (p : PinId) (s : State) (m : MoverId) : KeepsLoads s (State.endSwitch p s m) := by
  unfold State.endSwitch
  (repeat' split) <;> simp [KeepsLoads]

theorem gypsy_keepsLoads (p : PinId) (s : State) (m : MoverId) : KeepsLoads s (State.gypsy p s m) := by
  unfold State.gypsy
  split <;> simp [KeepsLoads]

theorem homed_keepsLoads (p : PinId) (s : State) (m : MoverId) : KeepsLoads s (State.homed p s m) := by
  unfold State.homed
  (repeat' split) <;> simp [KeepsLoads]

theorem pumpFault_keepsLoads (p : PinId) (s : State) (m : MoverId) : KeepsLoads s (State.pumpFault p s m) := by
  unfold State.pumpFault
  split <;> simp [KeepsLoads]

/-- A POWER_FAULT that becomes active faults movers, whose entries go, and no channel's (R107 to R109). -/
theorem powerFailed_keepsLoads (p : PinId) (s : State) : KeepsLoads s (s.powerFailed p) := by
  have faulted := foldl_keepsLoads (pumpFault_keepsLoads p) allMovers s
  unfold State.powerFailed
  dsimp only
  split <;> simp [KeepsLoads, faulted]

@[simp] theorem beginStandDown_keepsLoads (s : State) : KeepsLoads s s.beginStandDown :=
  foldl_keepsLoads (fun s m => by simp [KeepsLoads]) allMovers { s with suc := { s.suc with standDown := true } }

/-- An input that acts on the movers bound to its pin when it becomes active (R100, R102, R106, R119). -/
theorem inputNow_keepsLoads {f : State → MoverId → State} (same : ∀ s m, KeepsLoads s (f s m)) (active : Bool)
    (s : State) : KeepsLoads s (if active then allMovers.foldl f s else s) := by
  split
  · exact foldl_keepsLoads same allMovers s
  · exact ⟨rfl, rfl, rfl, rfl⟩

theorem powerFaultNow_keepsLoads (p : PinId) (active : Bool) (s : State) :
    KeepsLoads s (State.powerFaultNow p active s) := by
  unfold State.powerFaultNow
  split
  · exact powerFailed_keepsLoads p s
  · simp [KeepsLoads]

theorem homeNow_keepsLoads (p : PinId) (active : Bool) (s : State) : KeepsLoads s (State.homeNow p active s) := by
  have homed := foldl_keepsLoads (homed_keepsLoads p) allMovers s
  unfold State.homeNow
  split
  · simp [KeepsLoads, homed]
  · exact ⟨rfl, rfl, rfl, rfl⟩

theorem standbyAsserted_keepsLoads (s : State) : KeepsLoads s s.standbyAsserted := by
  unfold State.standbyAsserted
  split <;> simp [KeepsLoads]

theorem LevelsOk.announceChange {s t : State} (h : LevelsOk t) : LevelsOk (announceChange s t) :=
  h.keep (by simp [KeepsLoads])

/-- An input that changes upholds the invariant where its consumers leave the channels alone (R134, R135). -/
theorem LevelsOk.onChange {s : State} (h : LevelsOk s) {p : PinId} {active : Bool} {fns : List PinFn}
    {act : State → State} (same : ∀ t, KeepsLoads t (act t)) : LevelsOk (s.onChange p active fns act) :=
  h.ite fun _ => ((h.keep (deliverPin_keepsLoads s p active)).keep (same _)).announceChange

end Sys2Proof.Safety
end

section
/-! PROOFS. Settles the statement that every step keeps the channels as Chapter 3 has them (R20, R42, R45 to R57, R64,
R65). An operation either leaves the channels and their entries as they are, or it changes one channel and brings its
entry and its Leff into line; the tick does so with every channel, after the allocation has given new drawings. -/

namespace Sys2Proof.Safety

open Sys2Proof Sys2Proof.Machine

/-! ### The channels' own operations (Chapter 3) -/

theorem refreshChannel_eq (s : State) (c : ChannelId) :
    s.refreshChannel c =
      s.onChannel c (refreshed s.now s.cfg.channels[c] ((chanLoads s.sbu c).map fun x => x.drawing)) := by
  rw [← chanDrawing_load]
  rfl

theorem refreshChannel_other {s : State} {c x : ChannelId} (other : x ≠ c) :
    (s.refreshChannel c).lcu.channels[x] = s.lcu.channels[x] := by
  rw [refreshChannel_eq, onChannel_record, if_neg other]

/-- A channel whose Leff is recomputed from its entry meets all of Chapter 3 (R50). -/
theorem RequestAt.refreshChannel {s : State} {c : ChannelId} (h : RequestAt s c) :
    ChannelAt (s.refreshChannel c) c := by
  rw [refreshChannel_eq]
  unfold ChannelAt
  rw [onChannel_record, if_pos rfl]
  exact RequestOk.refreshed h s.now

/-- The demand entries of the other channels stand when one is brought into line (R46). -/
theorem alignEntry_other (s : State) {c x : ChannelId} (other : x ≠ c) (old new : Nat) :
    chanLoads (s.alignEntry c old new).sbu x = chanLoads s.sbu x := by
  have sources : Source.chan x ≠ .chan c := by simpa using other
  rw [← demandOf_load, ← demandOf_load]
  congr 1
  unfold State.alignEntry
  dsimp only
  split
  · rfl
  · split
    · rw [State.removeEntry_demandOf, if_neg sources]
    · split
      · rw [State.createEntry_demandOf, if_neg sources]
      · rw [State.changeEntry_demandOf, if_neg sources]

theorem newDemand_load (island : Bool) (src : Source) (cls : Fin 8) (rank want : Nat) :
    (loadOf (newDemand island src cls rank want)).cls = cls ∧
      (loadOf (newDemand island src cls rank want)).rank = rank ∧
      (loadOf (newDemand island src cls rank want)).want = want := by
  unfold newDemand
  split <;> exact ⟨rfl, rfl, rfl⟩

theorem changeWant_load (island : Bool) (want : Nat) (d : Demand) :
    (loadOf (changeWant island want d)).cls = d.cls ∧ (loadOf (changeWant island want d)).rank = d.rank ∧
      (loadOf (changeWant island want d)).want = want := by
  unfold changeWant
  split
  · exact ⟨rfl, rfl, rfl⟩
  · split <;> exact ⟨rfl, rfl, rfl⟩

/-- Where an entry fitted the old Lreq, the entry brought into line fits the new one (R46). -/
theorem alignEntry_load (s : State) (c : ChannelId) (old new : Nat)
    (fits : EntryFor s.cfg.channels[c] old (chanLoads s.sbu c)) :
    EntryFor s.cfg.channels[c] new (chanLoads (s.alignEntry c old new).sbu c) := by
  rw [← demandOf_load] at *
  unfold State.alignEntry
  dsimp only
  by_cases unrated : (s.cfg.channels[c]).rating = 0
  · rw [if_pos unrated, fits.eq_none (.inr unrated)]
    exact entryFor_none (.inr unrated)
  · rw [if_neg unrated]
    by_cases off : new = 0
    · rw [if_pos off, State.removeEntry_demandOf, if_pos rfl]
      exact entryFor_none (.inl off)
    · rw [if_neg off]
      by_cases wasOff : old = 0
      · rw [if_pos wasOff, State.createEntry_demandOf, if_pos rfl]
        exact entryFor_some off unrated (newDemand_load s.inIsland (.chan c) _ _ _)
      · rw [if_neg wasOff, State.changeEntry_demandOf, if_pos rfl]
        obtain ⟨x, found⟩ := fits.exists_load wasOff unrated
        obtain ⟨cls, rank, -⟩ := fits.want x found
        obtain ⟨d, entry, rfl⟩ := Option.map_eq_some_iff.1 found
        obtain ⟨sameCls, sameRank, newWant⟩ := changeWant_load s.inIsland (channelWant s.cfg.channels[c] new) d
        rw [entry]
        exact entryFor_some off unrated ⟨sameCls.trans cls, sameRank.trans rank, newWant⟩

/-- A channel that takes a SET's level and is left in service: its entry is brought into line and its Leff follows, and
no other channel moves (R45 to R50). -/
theorem LevelsOk.takeLevel {s : State} (h : LevelsOk s) (work : s.working = true) (c : ChannelId) (level : Nat)
    (f : Channel → Channel) (lreq : (f s.lcu.channels[c]).lreq = deriveLevel s.cfg.channels[c] level)
    (position : (f s.lcu.channels[c]).position = (s.lcu.channels[c]).position)
    (service : (f s.lcu.channels[c]).mark = .inService) :
    LevelsOk (((s.onChannel c f).alignEntry c (s.lcu.channels[c]).lreq
      (deriveLevel s.cfg.channels[c] level)).refreshChannel c) := by
  have now : RequestAt s c := (h.channelAt c).requestAt
  have entry := alignEntry_load (s.onChannel c f) c (s.lcu.channels[c]).lreq (deriveLevel s.cfg.channels[c] level)
    now.toEntryFor
  refine h.update work c (by simp) (by simp) (fun x other => ⟨?_, ?_⟩) (RequestAt.refreshChannel ?_)
  · rw [refreshChannel_other other, State.alignEntry_lcu, onChannel_record, if_neg other]
  · rw [State.refreshChannel_sbu, alignEntry_other _ other]
    rfl
  · unfold RequestAt
    rw [State.alignEntry_cfg, State.alignEntry_lcu, onChannel_record, if_pos rfl]
    exact RequestOk.request_level now level entry service lreq position

theorem LevelsOk.applyLevel {s : State} (h : LevelsOk s) (work : s.working = true) (c : ChannelId) (level : Nat) :
    LevelsOk (s.applyLevel c level) := by
  unfold State.applyLevel
  dsimp only
  split
  · exact h
  · exact h
  · next service =>
    split
    · exact h
    · exact h.takeLevel work c level _ rfl rfl service
  · exact h.takeLevel work c level _ rfl rfl rfl

theorem working_of_takesLoads {s : State} (h : s.takesLoads = true) : s.working = true := by
  simp only [State.takesLoads, Bool.and_eq_true] at h
  obtain ⟨⟨work, -⟩, -⟩ := h
  exact work

theorem LevelsOk.deliverSet {s : State} (h : LevelsOk s) (channel level : Nat) :
    LevelsOk (s.deliverSet channel level) := by
  unfold State.deliverSet
  split
  · exact h.ite fun takes => h.applyLevel (working_of_takesLoads takes) _ level
  · exact h

/-- The pairs of a scene, one after the other (R61). -/
theorem LevelsOk.applyPairs {s : State} (h : LevelsOk s) (work : s.working = true) (pairs : List ScenePair) :
    LevelsOk (pairs.foldl (fun acc pair => acc.applyLevel pair.channel pair.level) s) := by
  induction pairs generalizing s with
  | nil => exact h
  | cons pair pairs ih =>
    exact ih (h.applyLevel work pair.channel pair.level) ((working_congr (by rw [State.applyLevel_suc])).trans work)

theorem LevelsOk.deliverScene {s : State} (h : LevelsOk s) (number : Nat) : LevelsOk (s.deliverScene number) := by
  unfold State.deliverScene
  split
  · exact h.ite fun takes => h.applyPairs (working_of_takesLoads takes) _
  · exact h

/-- The beat moves a fading channel by one step and no other (R51). -/
theorem LevelsOk.beatChannel {s : State} (h : LevelsOk s) (c : ChannelId) : LevelsOk (s.beatChannel c) := by
  refine h.ite fun fading => ?_
  simp only [Bool.and_eq_true, decide_eq_true_eq] at fading
  obtain ⟨⟨dimmed, rate⟩, apart⟩ := fading
  exact h.onChannel (fun fresh => apart (by rw [fresh])) ((h.channelAt c).fade dimmed rate apart s.now)

theorem LevelsOk.beats {s : State} (h : LevelsOk s) (channels : List ChannelId) :
    LevelsOk (channels.foldl State.beatChannel s) := by
  induction channels generalizing s with
  | nil => exact h
  | cons c channels ih => exact ih (h.beatChannel c)

/-- A timer of a channel that has run out is not that of a record as after reset. -/
theorem fresh_of_due {s : State} {c : ChannelId} {timer : Channel → Option Nat} (none : timer {} = none)
    (out : due (timer s.lcu.channels[c]) s.now = true) : s.lcu.channels[c] ≠ {} := by
  intro fresh
  rw [fresh, none] at out
  cases out

theorem compareReading_levels (now : Nat) (k : ChannelCfg) (ch : Channel) :
    (compareReading now k ch).lreq = ch.lreq ∧ (compareReading now k ch).leff = ch.leff ∧
      (compareReading now k ch).position = ch.position ∧ (compareReading now k ch).mark = ch.mark := by
  unfold compareReading
  (repeat' split) <;> exact ⟨rfl, rfl, rfl, rfl⟩

/-- A reading compared on a channel moves no level (R55). -/
theorem ChannelOk.compareReading {k : ChannelCfg} {ch x : Channel} {load : Option Load} (h : ChannelOk k ch load)
    (now : Nat) (lreq : x.lreq = ch.lreq) (leff : x.leff = ch.leff) (position : x.position = ch.position)
    (mark : x.mark = ch.mark) : ChannelOk k (compareReading now k x) load := by
  obtain ⟨sameLreq, sameLeff, samePosition, sameMark⟩ := compareReading_levels now k x
  exact h.congr (sameLreq.trans lreq) (sameLeff.trans leff) (samePosition.trans position) (sameMark.trans mark)

theorem LevelsOk.windowOut {s : State} (h : LevelsOk s) (c : ChannelId)
    (out : due (s.lcu.channels[c]).inrush s.now = true) :
    LevelsOk (s.onChannel c (windowOut s.now s.cfg.channels[c])) :=
  h.onChannel (fresh_of_due (timer := Channel.inrush) rfl out)
    (ChannelOk.compareReading (h.channelAt c) s.now rfl rfl rfl rfl)

theorem LevelsOk.forgetTrip {s : State} (h : LevelsOk s) (c : ChannelId)
    (out : due (s.lcu.channels[c]).tripMemory s.now = true) :
    LevelsOk (s.onChannel c fun ch => { ch with tripMemory := none }) :=
  h.onChannel (fresh_of_due (timer := Channel.tripMemory) rfl out)
    (ChannelOk.congr (h.channelAt c) rfl rfl rfl rfl)

theorem trip_record (s : State) (c : ChannelId) :
    ((s.trip c).lcu.channels[c]).lreq = 0 ∧ ((s.trip c).lcu.channels[c]).leff = 0 ∧
      ((s.trip c).lcu.channels[c]).position = 0 := by
  rw [State.trip_channel, if_pos rfl]
  split <;> exact ⟨rfl, rfl, rfl⟩

/-- A trip gives up its channel's entry and no other's (R56). -/
theorem trip_loads (s : State) (c x : ChannelId) :
    chanLoads (s.trip c).sbu x = if x = c then none else chanLoads s.sbu x := by
  have removed : (s.trip c).sbu = (s.removeEntry (.chan c)).sbu := by
    unfold State.trip
    dsimp only
    split <;> simp
  rw [removed, ← demandOf_load, State.removeEntry_demandOf]
  by_cases same : x = c
  · simp [same]
  · simp [same, demandOf_load]

/-- A trip leaves its channel dark and without an entry (R56, R57). -/
theorem LevelsOk.trip {s : State} (h : LevelsOk s) (c : ChannelId) (out : s.tripDue c = true) :
    LevelsOk (s.trip c) := by
  have ne : s.lcu.channels[c] ≠ {} := by
    intro fresh
    rw [State.tripDue, fresh] at out
    simp [overrun, tripOwed] at out
  refine h.update (h.working_of_ne c ne) c (by simp) (by simp) (fun x other => ⟨?_, ?_⟩) ?_
  · rw [State.trip_channel, if_neg other]
  · rw [trip_loads, if_neg other]
  · obtain ⟨lreq, leff, position⟩ := trip_record s c
    unfold ChannelAt
    rw [trip_loads, if_pos rfl, State.trip_cfg]
    exact channelOk_of_off (h.minimum c) lreq leff position

/-- A reading delivered in QUIET or RUN moves no level (R147). -/
theorem LevelsOk.deliverReading {s : State} (h : LevelsOk s) (work : s.working = true) (cs : SenseId) (reading : Nat) :
    LevelsOk (s.deliverReading cs reading) := by
  unfold State.deliverReading
  split
  · next channel =>
    refine h.update work ⟨cs.val, channel⟩ rfl rfl (fun x other => ⟨?_, rfl⟩) ?_
    · rw [onChannel_record, if_neg other]
    · unfold ChannelAt
      rw [onChannel_record, if_pos rfl]
      exact ChannelOk.compareReading (h.channelAt _) _ rfl rfl rfl rfl
  · split <;> exact h.keep (by simp [KeepsLoads])

/-- A conversion gives a reading in QUIET and RUN alone (R146, R147). -/
theorem LevelsOk.convert {s : State} (h : LevelsOk s) (cs : SenseId) (raw : Int) : LevelsOk (s.convert cs raw) := by
  have sampled : LevelsOk (s.onSense cs fun x => { x with raw := raw }) := h.keep (by simp [KeepsLoads])
  unfold State.convert
  dsimp only
  split
  · split
    · exact sampled.keep (by simp [KeepsLoads])
    · split
      · next working =>
        have work : s.working = true := (Bool.and_eq_true_iff.1 working).1
        split
        · exact sampled.deliverReading work cs _
        · exact sampled
      · exact sampled
  · exact sampled

/-! ### The tick (R50, R53) -/

theorem cutChannel_other {s : State} {c x : ChannelId} (other : x ≠ c) :
    (s.cutChannel c).lcu.channels[x] = s.lcu.channels[x] := by
  unfold State.cutChannel
  dsimp only
  split
  · rw [onChannel_record, if_neg other]
  · rfl

theorem tickChannel_other {s : State} {c x : ChannelId} (other : x ≠ c) :
    (s.tickChannel c).lcu.channels[x] = s.lcu.channels[x] :=
  (cutChannel_other other).trans (refreshChannel_other other)

/-- The cut moves an output to its Leff (R53). -/
theorem ChannelAt.cutChannel {s : State} {c : ChannelId} (h : ChannelAt s c) : ChannelAt (s.cutChannel c) c := by
  unfold State.cutChannel
  dsimp only
  split
  · unfold ChannelAt
    rw [onChannel_record, if_pos rfl]
    exact ChannelOk.moveToLeff h s.now
  · exact h

theorem RequestAt.tickChannel {s : State} {c : ChannelId} (h : RequestAt s c) : ChannelAt (s.tickChannel c) c :=
  h.refreshChannel.cutChannel

/-- The tick's part on channels one after the other: those it has passed, and those that stood already, meet all of
Chapter 3. -/
theorem channelAt_tickChannels (channels : List ChannelId) (s : State) (request : ∀ c, RequestAt s c)
    (stands : ∀ c, c ∈ channels ∨ ChannelAt s c) (c : ChannelId) :
    ChannelAt (channels.foldl State.tickChannel s) c := by
  induction channels generalizing s with
  | nil => exact (stands c).resolve_left List.not_mem_nil
  | cons first channels ih =>
    have ticked : ChannelAt (s.tickChannel first) first := (request first).tickChannel
    refine ih (s.tickChannel first) (fun x => ?_) fun x => ?_
    · by_cases same : x = first
      · exact same ▸ ticked.requestAt
      · unfold RequestAt
        rw [tickChannel_other same, State.tickChannel_cfg, State.tickChannel_sbu]
        exact request x
    · by_cases same : x = first
      · exact .inr (same ▸ ticked)
      · refine (stands x).imp (fun later => (List.mem_cons.1 later).resolve_left same) fun stood => ?_
        unfold ChannelAt
        rw [tickChannel_other same, State.tickChannel_cfg, State.tickChannel_sbu]
        exact stood

theorem mem_allChannels (c : ChannelId) : c ∈ allChannels := by revert c; decide

theorem sampleSupply_keepsLoads (s : State) (supply : Bool) : KeepsLoads s (s.sampleSupply supply) := by
  have settled (p : PinId) : KeepsLoads s (s.settleSupply p supply) := by
    unfold State.settleSupply
    split <;> simp [KeepsLoads]
  unfold State.sampleSupply
  split
  · exact settled _
  · exact ⟨rfl, rfl, rfl, rfl⟩

/-- In QUIET and RUN a tick gives new drawings, and every Leff follows them; elsewhere it computes nothing (R28, R39,
R50). -/
theorem LevelsOk.tickBlocks {s : State} (h : LevelsOk s) (supply : Bool) : LevelsOk (s.tickBlocks supply) := by
  refine h.ite fun work => ?_
  have sampled : LevelsOk (s.sampleSupply supply) := h.keep (sampleSupply_keepsLoads s supply)
  obtain ⟨-, -, phase, -⟩ := sampleSupply_keepsLoads s supply
  have allocated (c : ChannelId) : RequestAt (s.sampleSupply supply).budgetTick c :=
    RequestAt.budgetTick (sampled.channelAt c).requestAt
  have ticked : LevelsOk (s.sampleSupply supply).budgetTick.tickChannels :=
    levelsOk_of_working ((working_congr (by simpa using phase)).trans work)
      (channelAt_tickChannels allChannels _ allocated fun c => .inl (mem_allChannels c))
  exact ticked.keep (foldl_keepsLoads (fun t m => by simp [KeepsLoads]) allMovers _)

theorem LevelsOk.ownTick {s : State} (h : LevelsOk s) (supply : Bool) : LevelsOk (s.ownTick supply) :=
  (h.tickBlocks supply).keep (by simp [KeepsLoads, State.ownTick, State.advanceTick])

/-! ### Start-up (R42, R65, R172, R173, R174) -/

theorem out_of_phase {s : State} {phase : Phase} (h : s.suc.phase = phase) (quiet : phase ≠ .quiet)
    (run : phase ≠ .run) : s.working = false := by
  simp [State.working, h, quiet, run]

/-- Every reset leaves the channels as after reset, with no entry and nothing configured (R65, R130). -/
theorem levelsOk_of_reset {s : State} (lcu : s.lcu = {}) (sbu : s.sbu = {}) (cfg : s.cfg = {}) : LevelsOk s := by
  refine FreshLoads.levelsOk ⟨fun c => ?_, fun c => ?_⟩ fun c => ?_
  · rw [lcu]; revert c; decide
  · rw [sbu]; rfl
  · rw [cfg]; exact unconfigured_minimum c

/-- Entry into LISTEN_ONLY from a phase that has not worked yet: nothing is configured, and its first tick computes
nothing (R39, R174). -/
theorem FreshLoads.enterListenOnly {s : State} (h : FreshLoads s) (kind : FaultKind) :
    LevelsOk (s.enterListenOnly kind) := by
  have unconfigured : LevelsOk
      (State.startPorts
        { s with
          cfg := Cfg.unconfigured
          suc := { s.suc with phase := .listenOnly, since := s.now, nextTick := some s.now }
          mvu := {} }) := FreshLoads.levelsOk ⟨h.records, h.loads⟩ unconfigured_minimum
  exact (unconfigured.keep (by simp [KeepsLoads])).ownTick false

theorem LevelsOk.takeStraps {s : State} (h : LevelsOk s) (out : s.working = false) (v : Nat) :
    LevelsOk (s.takeStraps v) := by
  have fresh := h.fresh out
  unfold State.takeStraps
  split
  · exact FreshLoads.levelsOk ⟨fresh.records, fresh.loads⟩ h.minimum
  · exact fresh.enterListenOnly _

theorem refuseImage_levelsOk {s : State} (h : LevelsOk s) (out : s.working = false) : LevelsOk s.refuseImage :=
  have fresh := h.fresh out
  FreshLoads.enterListenOnly (s := { s with suc := { s.suc with image := .invalid } }) ⟨fresh.records, fresh.loads⟩
    .configInvalid

theorem readImage_channel (img : List Byte) (c : ChannelId) :
    (readImage img).channels[c] = readChannelCfg (sectionOf img 4) c.val := by
  fin_cases c <;> rfl

theorem channelOk_minimum {sec : List Byte} {n : Nat} (h : channelOk sec n = true) :
    (readChannelCfg sec n).lmin ≤ 128 := by
  simp only [channelOk, Bool.and_eq_true, decide_eq_true_eq] at h
  obtain ⟨⟨⟨-, lmin⟩, -⟩, -⟩ := h
  exact lmin

theorem fieldsOk_channel {img : List Byte} (h : fieldsOk img = true) (c : ChannelId) :
    channelOk (sectionOf img 4) c.val = true := by
  simp only [fieldsOk, Bool.and_eq_true, List.all_eq_true] at h
  obtain ⟨⟨⟨⟨⟨⟨-, channels⟩, -⟩, -⟩, -⟩, -⟩, -⟩ := h
  exact channels c.val (List.mem_range.2 c.isLt)

/-- An accepted image gives every channel an Lmin of at most 128 (Table 3-1, R172). -/
theorem judgeImage_minimum {memory : List Byte} {cfg : Cfg} (accepted : judgeImage memory = some cfg) (c : ChannelId) :
    (cfg.channels[c]).lmin ≤ 128 := by
  unfold judgeImage at accepted
  dsimp only at accepted
  split at accepted
  · next ok =>
    obtain ⟨-, fields⟩ := Bool.and_eq_true_iff.1 ok
    obtain rfl := Option.some.inj accepted
    rw [readImage_channel]
    exact channelOk_minimum (fieldsOk_channel fields c)
  · cases accepted

/-- The image is accepted: CALIBRATE begins with the channels as after reset (R65, R172). -/
theorem acceptImage_levelsOk {s : State} (h : LevelsOk s) (out : s.working = false) {cfg : Cfg}
    (minimum : ∀ c : ChannelId, (cfg.channels[c]).lmin ≤ 128) (levels : BitVec 32) :
    LevelsOk (s.acceptImage cfg levels) := by
  have fresh := h.fresh out
  have configured : LevelsOk
      (State.startPorts
        { s with
          cfg := cfg
          suc := { s.suc with phase := .calibrate, since := s.now, image := .valid }
          mvu := { s.mvu with
            retained := #v[keepRetained cfg s.mvu.retained 0, keepRetained cfg s.mvu.retained 1] } }) :=
    FreshLoads.levelsOk ⟨fresh.records, fresh.loads⟩ minimum
  exact configured.keep (foldl_keepsLoads (f := firstSample cfg levels) (fun _ _ => ⟨rfl, rfl, rfl, rfl⟩) allPins _)

/-- A channel found UNFITTED stays off (R42). -/
theorem AllOff.fitChannel {s : State} (h : AllOff s) (c : ChannelId) : AllOff (fitChannel s c) := by
  unfold Machine.fitChannel
  split
  · exact h
  · refine ⟨fun x => ?_, h.loads⟩
    rw [onChannel_record]
    split
    · exact h.levels c
    · exact h.levels x

theorem fitChannel_cfg (s : State) (c : ChannelId) : (fitChannel s c).cfg = s.cfg := by
  unfold fitChannel
  split <;> rfl

theorem AllOff.fitChannels {s : State} (h : AllOff s) (channels : List ChannelId) :
    AllOff (channels.foldl Machine.fitChannel s) := by
  induction channels generalizing s with
  | nil => exact h
  | cons c channels ih => exact ih (h.fitChannel c)

theorem fitMover_keepsLoads (s : State) (m : MoverId) : KeepsLoads s (fitMover s m) := by
  unfold fitMover
  dsimp only
  (repeat' split) <;> simp [KeepsLoads]

theorem reportFitted_keepsLoads (s : State) : KeepsLoads s s.reportFitted := by
  simp [KeepsLoads, State.reportFitted]

/-- At the end of CALIBRATE the channels are marked and stay off, with the configuration as it was (R42). -/
theorem AllOff.fitAll {s : State} (h : AllOff s) : AllOff s.fitAll ∧ s.fitAll.cfg = s.cfg := by
  have offsets := foldl_keepsLoads (f := takeOffset s.cfg) (fun _ _ => ⟨rfl, rfl, rfl, rfl⟩) allSenses s
  have movers := foldl_keepsLoads fitMover_keepsLoads allMovers
    (allChannels.foldl Machine.fitChannel (allSenses.foldl (takeOffset s.cfg) s))
  have fitted : KeepsLoads (allChannels.foldl Machine.fitChannel (allSenses.foldl (takeOffset s.cfg) s)) s.fitAll := by
    simp [KeepsLoads, State.fitAll, movers]
  refine ⟨((h.keep offsets).fitChannels allChannels).keep fitted, ?_⟩
  obtain ⟨-, configured, -⟩ := fitted
  obtain ⟨-, offset, -⟩ := offsets
  calc s.fitAll.cfg
    _ = (allChannels.foldl Machine.fitChannel (allSenses.foldl (takeOffset s.cfg) s)).cfg := configured
    _ = (allSenses.foldl (takeOffset s.cfg) s).cfg := foldl_keeps State.cfg _ fitChannel_cfg allChannels _
    _ = s.cfg := offset

/-- QUIET is entered with every channel off, and with the first tick (R173). -/
theorem AllOff.enterQuiet {s : State} (h : AllOff s) (minimum : ∀ c : ChannelId, (s.cfg.channels[c]).lmin ≤ 128) :
    LevelsOk s.enterQuiet := by
  have quiet : LevelsOk { s with suc := { s.suc with phase := .quiet, since := s.now, nextTick := some s.now } } :=
    levelsOk_of_working rfl (AllOff.channelAt ⟨h.levels, h.loads⟩ minimum)
  exact (quiet.keep (foldl_keepsLoads (f := heldAtStart) (fun _ _ => ⟨rfl, rfl, rfl, rfl⟩) allKeys _)).ownTick _

theorem LevelsOk.calibrated {s : State} (h : LevelsOk s) (out : s.working = false) :
    LevelsOk s.fitAll.reportFitted.enterQuiet := by
  obtain ⟨off, cfg⟩ := (h.fresh out).allOff.fitAll
  refine (off.keep (reportFitted_keepsLoads s.fitAll)).enterQuiet fun c => ?_
  obtain ⟨-, reported, -⟩ := reportFitted_keepsLoads s.fitAll
  rw [reported, cfg]
  exact h.minimum c

/-- RUN is entered from QUIET: the channels stand (R173). -/
theorem LevelsOk.enterRun {s : State} (h : LevelsOk s) : LevelsOk s.enterRun := by
  have run : LevelsOk { s with suc := { s.suc with phase := .run, since := s.now, runEntry := some s.now } } :=
    levelsOk_of_working rfl h.channelAt
  unfold State.enterRun
  dsimp only
  split <;> exact run.keep (by simp [KeepsLoads])

/-! ### Frames and keys -/

theorem LevelsOk.deliver {s : State} (h : LevelsOk s) (f : Frame) : LevelsOk (s.deliver f) := by
  cases f with
  | drive src target m motion => exact h.ite fun _ => h.keep (by simp [KeepsLoads])
  | announce src a => exact h.keep (by simp [KeepsLoads, State.deliver])
  | set src target channel level => exact h.ite fun _ => h.deliverSet channel level
  | scene src number => exact h.deliverScene number
  | forget src target => exact h.keep (by simp [KeepsLoads, State.deliver])

theorem LevelsOk.checkAndDeliver {s : State} (h : LevelsOk s) (frame : List Byte) :
    LevelsOk (s.checkAndDeliver frame) := by
  refine h.ite fun _ => ?_
  split
  · exact h.keep (by simp [KeepsLoads])
  · exact h.deliver _

/-- A frame that ends on a port, whatever its row (R160 to R162). -/
theorem LevelsOk.receive {s : State} (h : LevelsOk s) (p : PortId) (frame : List Byte) (mine : Frame → Bool) :
    LevelsOk (s.receive p frame mine) := by
  have good : LevelsOk (s.takeGoodFrame p) := h.keep (by simp [KeepsLoads])
  have bad : LevelsOk (s.takeBadFrame p) := h.keep (by simp [KeepsLoads])
  refine h.ite fun _ => ?_
  split
  · exact h.ite fun _ => (good.checkAndDeliver frame).announceChange
  · exact bad.announceChange

/-- A key's frame reaches the own channels as a received one does, then the queue (R140). -/
theorem LevelsOk.emit {s : State} (h : LevelsOk s) (f : Frame) : LevelsOk (s.emit f) :=
  (h.deliver f).keep (by simp [KeepsLoads, State.emit])

theorem LevelsOk.press {s : State} (h : LevelsOk s) (k : KeyId) {act : State → State}
    (upholds : ∀ t, LevelsOk t → LevelsOk (act t)) : LevelsOk (s.press k act) :=
  h.ite fun _ => (upholds _ (h.keep (hold_keepsLoads s k true))).announceChange

theorem LevelsOk.acknowledge {s : State} (h : LevelsOk s) (k : KeyId) : LevelsOk (s.acknowledge k) :=
  h.keep ⟨rfl, rfl, rfl, rfl⟩

theorem LevelsOk.startHold {s : State} (h : LevelsOk s) (k : KeyId) (target : Nat) (m : MoverId) (d : Dir) :
    LevelsOk (s.startHold k target m d) := by
  have suppressed := foldl_keepsLoads (suppress_keepsLoads k) allKeys s
  exact LevelsOk.emit (h.keep (by simp [KeepsLoads, suppressed])) _

theorem LevelsOk.repeatHold {s : State} (h : LevelsOk s) (k : KeyId) : LevelsOk (s.repeatHold k) := by
  unfold State.repeatHold
  split
  · exact LevelsOk.emit (h.keep (by simp [KeepsLoads])) _
  · exact h

theorem LevelsOk.releaseHold {s : State} (h : LevelsOk s) (k : KeyId) : LevelsOk (s.releaseHold k) := by
  have released (f : Key → Key) : LevelsOk (s.onKey k f) := h.keep (by simp [KeepsLoads])
  unfold State.releaseHold
  dsimp only
  split
  · split
    · exact (released _).emit _
    · exact released _
  · exact released _

/-! ### Every command, every step -/

/-- Every command answers a next state and upholds the invariant. -/
theorem exec_upholds_levels (i : Instr) {s : State} (h : LevelsOk s) : ∃ t, exec i s = .next t ∧ LevelsOk t := by
  cases i with
  | powerOn | pinReset => exact ⟨_, rfl, levelsOk_of_reset rfl rfl rfl⟩
  | strapSample straps =>
    refine ⟨_, rfl, h.ite fun isDue => h.takeStraps (out_of_phase (phase := .strap) ?_ (by decide) (by decide)) _⟩
    simp only [State.strapDue, Bool.and_eq_true, decide_eq_true_eq] at isDue
    exact isDue.1
  | loadEnd image levels =>
    refine ⟨_, rfl, h.ite fun loading => ?_⟩
    have out : s.working = false := out_of_phase loading (by decide) (by decide)
    split
    · next accepted => exact acceptImage_levelsOk h out (judgeImage_minimum accepted) levels
    · exact refuseImage_levelsOk h out
  | calibrateEnd =>
    refine ⟨_, rfl, h.ite fun isDue => h.calibrated (out_of_phase (phase := .calibrate) ?_ (by decide) (by decide))⟩
    simp only [State.calibrateDue, Bool.and_eq_true, decide_eq_true_eq] at isDue
    exact isDue.1
  | quietEnd => exact ⟨_, rfl, h.ite fun _ => h.enterRun⟩
  | ownPeriodTick supply => exact ⟨_, rfl, h.ite fun _ => h.ownTick supply⟩
  -- The rows of the line (Chapter 8).
  | carrierLoss p | darkPortTransition p | linkPulse p | lossOfLock p | errorWindowEnd p | crcError p | frameAborted p
  | arbitrationLoss p | transitionFromAnotherStation p startSymbol =>
    exact ⟨_, rfl, h.ite fun _ => h.keep (by simp [KeepsLoads])⟩
  | dwellEnd p | echoMismatch p | frameCompletion p =>
    refine ⟨_, rfl, ?_⟩
    split
    · exact h.keep (by simp [KeepsLoads])
    · exact h
  | transmitStart p =>
    refine ⟨_, rfl, h.ite fun _ => ?_⟩
    split
    · exact h.keep (by simp [KeepsLoads])
    · exact h
  | driveStale => exact ⟨_, rfl, h.keep (by simp [KeepsLoads])⟩
  | announceReceived p frame | set p frame | scene p frame | forget p frame
  | driveDirA p frame | driveDirB p frame | driveStop p frame | driveClear p frame =>
    exact ⟨_, rfl, h.receive p frame _⟩
  -- The rows of the budget and of the peer table's ageing (Chapters 1 and 2).
  | settle src => exact ⟨_, rfl, h.keep ⟨rfl, rfl, rfl, settle_loads s src⟩⟩
  | islandDelayExpiry =>
    refine ⟨_, rfl, h.ite fun _ => ?_⟩
    have stopped : KeepsLoads s s.stopIslandTimer := ⟨rfl, rfl, rfl, rfl⟩
    split
    · exact h.keep stopped
    · exact (h.keep stopped).keep (by simp [KeepsLoads])
  | peerStale n | peerOrphan n => exact ⟨_, rfl, h.ite fun _ => h.keep (by simp [KeepsLoads])⟩
  -- The rows of the channels and the sense inputs (Chapters 3 and 7).
  | fadeBeat => exact ⟨_, rfl, h.ite fun _ => h.beats allChannels⟩
  | senseReading cs raw => exact ⟨_, rfl, h.convert cs raw⟩
  | inrushWindowExpiry c => exact ⟨_, rfl, h.ite (h.windowOut c)⟩
  | channelTrip c => exact ⟨_, rfl, h.ite (h.trip c)⟩
  | tripMemoryExpiry c => exact ⟨_, rfl, h.ite (h.forgetTrip c)⟩
  -- The rows of the movers, their claims and their inputs (Chapters 4 to 6).
  | listenWindowExpiry m | holdToRunTimeout m | requestTimeLimit m | releaseGuardExpiry m | lockTimerExpiry m
  | travelTimeout m | overload m | stall m => exact ⟨_, rfl, h.ite fun _ => h.keep (by simp [KeepsLoads])⟩
  | stopDwellEnd m =>
    refine ⟨_, rfl, ?_⟩
    split
    · exact h.ite fun _ => h.keep (by simp [KeepsLoads])
    · exact h
  | occupancyChange pin active => exact ⟨_, rfl, h.onChange fun t => by simp [KeepsLoads]⟩
  | lockOpenChange pin active => exact ⟨_, rfl, h.onChange (inputNow_keepsLoads (lockOpened_keepsLoads pin) active)⟩
  | lockClosedChange pin active => exact ⟨_, rfl, h.onChange (inputNow_keepsLoads (lockShut_keepsLoads pin) active)⟩
  | endSwitchChange pin active => exact ⟨_, rfl, h.onChange (inputNow_keepsLoads (endSwitch_keepsLoads pin) active)⟩
  | gypsyPulse pin active => exact ⟨_, rfl, h.onChange (inputNow_keepsLoads (gypsy_keepsLoads pin) active)⟩
  | homeChange pin active => exact ⟨_, rfl, h.onChange (homeNow_keepsLoads pin active)⟩
  | powerFaultChange pin active => exact ⟨_, rfl, h.onChange (powerFaultNow_keepsLoads pin active)⟩
  -- The rows of the keys (Chapter 7).
  | keySetLevel k | keyToggle k | keyClear k =>
    refine ⟨_, rfl, ?_⟩
    split
    · exact h.press k fun _ held => held.emit _
    · exact h
  | keyScene k | keyForget k =>
    refine ⟨_, rfl, ?_⟩
    split
    · exact h.press k fun _ held => (held.acknowledge k).emit _
    · exact h
  | keyHoldDrive k =>
    refine ⟨_, rfl, ?_⟩
    split
    · exact h.press k fun _ held => held.startHold k _ _ _
    · exact h
  | keyRelease k =>
    exact ⟨_, rfl, h.ite fun _ => (LevelsOk.releaseHold (h.keep (hold_keepsLoads s k false)) k).announceChange⟩
  | keyRepeat k => exact ⟨_, rfl, h.ite fun _ => (h.repeatHold k).announceChange⟩
  | acknowledgeExpiry k => exact ⟨_, rfl, h.ite fun _ => h.keep (by simp [KeepsLoads])⟩
  -- The remaining rows of the system (Chapters 9 and 10).
  | standbyAssert =>
    refine ⟨_, rfl, ?_⟩
    split
    · exact h.onChange standbyAsserted_keepsLoads
    · exact h
  | standbyDeassert =>
    refine ⟨_, rfl, ?_⟩
    split
    · exact h.onChange fun _ => ⟨rfl, rfl, rfl, rfl⟩
    · exact h
  | holdTimerExpiry kind => exact ⟨_, rfl, h.ite fun _ => h.keep (by simp [KeepsLoads])⟩
  | beaconBlink => exact ⟨_, rfl, h.ite fun _ => h.keep ⟨rfl, rfl, rfl, rfl⟩⟩

/-- A millisecond without a command samples pins and fills the queue. -/
theorem passTime_keepsLoads (s : State) : KeepsLoads s s.passTime :=
  foldl_keepsLoads (f := State.samplePin) (fun _ _ => ⟨rfl, rfl, rfl, rfl⟩) _ { s with now := s.now + 1 }

theorem step_upholds_levels {s t : State} (h : LevelsOk s) (e : step s = .next t) : LevelsOk t := by
  unfold step at e
  split at e
  · next c rest _ =>
    have waiting : LevelsOk { s with pending := rest } := h.keep ⟨rfl, rfl, rfl, rfl⟩
    obtain ⟨u, answer, levels⟩ := exec_upholds_levels c waiting
    rw [answer] at e
    injection e with same
    exact same ▸ levels
  · unfold State.idle at e
    split at e
    · injection e with same
      exact same ▸ h.keep (passTime_keepsLoads s)
    · cases e

/-- Settles O34: whatever the step, Chapter 3 holds of each channel after it. -/
theorem stepKeepsTheChannels : Obligations.StepKeepsTheChannels := fun _ _ => step_upholds_levels

end Sys2Proof.Safety
end

section
/-! PROOFS. Settles the statement that a SET's derived level is R45's, kind by kind, and that a SET of the level a
channel holds already changes nothing but the port that heard it. -/

namespace Sys2Proof.Safety

open Sys2Proof Sys2Proof.Machine

/-! ### A SET of the level the channel holds (R45) -/

/-- Hearing a good frame leaves the channels, the claims and the configuration alone. -/
@[simp] theorem heardNow_lcu_zcu_cfg (s : State) (p : PortId) :
    (heardNow s p).lcu = s.lcu ∧ (heardNow s p).zcu = s.zcu ∧ (heardNow s p).cfg = s.cfg := by
  unfold heardNow
  split
  · simp
  · split
    · simp
    · dsimp only
      split <;> simp

/-- The announced claims follow from the claims, the zone sets and the own number (R82). -/
theorem announcedClaims_congr {s t : State} (zcu : t.zcu = s.zcu) (cfg : t.cfg = s.cfg) (suc : t.suc = s.suc) :
    t.announcedClaims = s.announcedClaims := by
  simp only [State.announcedClaims, State.claim, State.zonesOf, State.claimKey, State.number, zcu, cfg, suc]

theorem announceChange_of_same {s t : State} (h : t.announcedClaims = s.announcedClaims) : announceChange s t = t :=
  if_pos h

/-- A good frame of its own row, on a calm port, does what its delivery does after the port has heard it (R160 to
R162). -/
theorem receive_goodFrame {s : State} {p : PortId} {frame : List Byte} {f : Frame} {mine : Frame → Bool}
    (good : GoodFrame s p frame f) (calm : Calm s p) (row : mine f = true) :
    s.receive p frame mine = announceChange s ((heardNow s p).deliver f) := by
  obtain ⟨hears, delivers, whole, crc, parse⟩ := good
  have awake : (s.liu.ports[p]).state ≠ .dark := by
    simp only [State.hears, Bool.and_eq_true, decide_eq_true_eq] at hears
    obtain ⟨⟨-, awake⟩, -⟩ := hears
    exact awake
  have ours : ofRow mine frame = true := by simp [ofRow, parse, row]
  have stillDelivers : (heardNow s p).delivers = true := by
    simpa [State.delivers, State.working] using delivers
  simp [State.receive, hears, whole, crc, ours, State.takeGoodFrame_of_calm awake calm, State.checkAndDeliver,
    stillDelivers, parse]

/-- A channel that is not TRIPPED and holds the level a SET gives is left as it is, and so is the station (R45). -/
theorem applyLevel_of_held {s : State} {c : ChannelId} {level : Nat} (mark : (s.lcu.channels[c]).mark ≠ .tripped)
    (held : deriveLevel s.cfg.channels[c] level = (s.lcu.channels[c]).lreq) : s.applyLevel c level = s := by
  unfold State.applyLevel
  dsimp only
  split
  · rfl
  · rfl
  · rw [if_pos held]
  · next tripped => exact absurd tripped mark

theorem deliverSet_of_held {s : State} {c : ChannelId} {level : Nat} (mark : (s.lcu.channels[c]).mark ≠ .tripped)
    (held : deriveLevel s.cfg.channels[c] level = (s.lcu.channels[c]).lreq) : s.deliverSet c.val level = s := by
  unfold State.deliverSet
  rw [dif_pos c.isLt]
  split
  · exact applyLevel_of_held mark held
  · rfl

theorem set_of_held (p : PortId) (frame : List Byte) (src own level : Nat) (c : ChannelId) (s : State)
    (good : GoodFrame s p frame (.set src own c.val level)) (number : s.suc.ownNumber = some own) (calm : Calm s p)
    (mark : (s.lcu.channels[c]).mark ≠ .tripped)
    (held : deriveLevel s.cfg.channels[c] level = (s.lcu.channels[c]).lreq) :
    exec (.set p frame) s = .next (heardNow s p) := by
  obtain ⟨lcu, zcu, cfg⟩ := heardNow_lcu_zcu_cfg s p
  have delivered : (heardNow s p).deliver (.set src own c.val level) = heardNow s p := by
    unfold State.deliver
    dsimp only
    rw [heardNow_suc, if_pos number]
    exact deliverSet_of_held (by rw [lcu]; exact mark) (by rw [lcu, cfg]; exact held)
  show Host.Outcome.next (s.receive p frame isSet) = _
  rw [receive_goodFrame good calm rfl, delivered,
    announceChange_of_same (announcedClaims_congr zcu cfg (heardNow_suc s p))]

/-- Settles O29: the derived level kind by kind, with the level field clamped at 256, and a SET of the level held. -/
theorem setDerivesTheRequestedLevel : Obligations.SetDerivesTheRequestedLevel := by
  refine ⟨fun k level minimum => ⟨deriveLevel_clamped k level, fun kind => ?_, fun kind => ?_⟩, set_of_held⟩
  · exact ⟨deriveLevel_zero k, fun on => deriveLevel_switched kind (Nat.ne_of_gt on)⟩
  · refine ⟨deriveLevel_zero k, fun on low => ?_, fun on high top => ?_⟩ <;>
      rw [deriveLevel_dimmed kind (Nat.ne_of_gt on)] <;> omega

end Sys2Proof.Safety
end

section
/-! PROOFS. Refutes the statement about GYPSY_PULSE (R119 to R125). It reads HOME before the pulse, and leaves open the
case in which HOME and GYPSY are bound to one pin: there the pulse itself makes HOME active, and R121 holds the count at
0 where the statement has it one higher. An image that binds them so is refused (R133, `home_ne_of_moverOk`).
With HOME bound elsewhere every clause of the statement holds: they are the laws before the refutation. -/

namespace Sys2Proof.Safety

open Sys2Proof Sys2Proof.Machine

/-! ### The input that changes (R134, R135) -/

@[simp] theorem deliverPin_now (s : State) (p : PinId) (active : Bool) : (s.deliverPin p active).now = s.now := rfl
@[simp] theorem deliverPin_cfg (s : State) (p : PinId) (active : Bool) : (s.deliverPin p active).cfg = s.cfg := rfl

theorem moverCfg_congr {s t : State} (cfg : t.cfg = s.cfg) (m : MoverId) : t.moverCfg m = s.moverCfg m := by
  unfold State.moverCfg
  rw [cfg]

@[simp] theorem announceChange_mover (s t : State) (m : MoverId) : (announceChange s t).mover m = t.mover m := by
  unfold State.mover
  rw [announceChange_mvu]

/-- The consumers of the pin read its new value, all others what they read before. -/
theorem deliverPin_input (s : State) (p : PinId) (active : Bool) (binding : Option PinId) :
    (s.deliverPin p active).input binding = if binding = some p then active else s.input binding := by
  cases binding with
  | none => rfl
  | some q =>
    simp only [State.input, State.deliverPin, State.onPin_pins, Fin.getElem_fin, modifyAt_get, Option.some.injEq]
    split <;> rfl

/-- A GYPSY pin that takes a new value: its consumers act, and the claims are announced where they changed (R82). -/
theorem exec_gypsyPulse_of_change {s : State} {pin : PinId} {active : Bool} (work : s.working = true)
    (fn : (s.cfg.pins[pin]).fn = .gypsy) (change : (s.fpr.pins[pin]).delivered = !active) :
    exec (.gypsyPulse pin active) s =
      .next (announceChange s (State.gypsyNow pin active (s.deliverPin pin active))) := by
  have changes : s.changes pin active [.gypsy] = true := by
    rw [State.changes, fn, change]
    simp [State.sampling, work]
  show Host.Outcome.next (s.onChange pin active [.gypsy] (State.gypsyNow pin active)) = _
  rw [State.onChange, if_pos changes]

/-- A change to inactive is no pulse (R119). -/
theorem gypsyPulse_inactive {s : State} {pin : PinId} (work : s.working = true) (fn : (s.cfg.pins[pin]).fn = .gypsy)
    (active : (s.fpr.pins[pin]).delivered = true) :
    exec (.gypsyPulse pin false) s = .next (s.deliverPin pin false) :=
  (exec_gypsyPulse_of_change (active := false) work fn active).trans
    (congrArg _ (announceChange_of_same (announcedClaims_congr rfl rfl rfl)))

/-! ### A pulse at one windlass (R119 to R121, R125) -/

/-- A change of mover m is what it makes of the mover's record. -/
theorem onMover_congr {s : State} {m : MoverId} {r : Mover} {f g : Mover → Mover} (record : s.mover m = some r)
    (same : f r = g r) : s.onMover m f = s.onMover m g := by
  have entry : Option.map f s.mvu.movers[m] = Option.map g s.mvu.movers[m] := by
    rw [show s.mvu.movers[m] = some r from record, Option.map_some, Option.map_some, same]
  unfold State.onMover modifyAt
  rw [entry]

/-- The record of windlass m after a pulse: its count by Table 6-3, held at 0 while HOME is active, and a running stall
span begun again. -/
def pulsed (s : State) (m : MoverId) (r : Mover) : Mover :=
  { r with
    count := if s.input (s.moverCfg m).home then 0 else countPulse r
    stallSpan := r.stallSpan.map fun _ => s.now }

theorem pulse_eq_onMover (s : State) (m : MoverId) : s.pulse m = s.onMover m (pulsed s m) := by
  have record : ∀ r : Mover, pulsed s m r =
      { r with
        count := if s.input (s.moverCfg m).home then 0 else countPulse r
        stallSpan := if r.stallSpan.isSome then some s.now else none } := fun r => by
    unfold pulsed
    cases r.stallSpan <;> rfl
  exact congrArg (s.onMover m) (funext fun r => (record r).symm)

theorem pulse_mover {s : State} {m : MoverId} {r : Mover} (h : s.mover m = some r) :
    (s.pulse m).mover m = some (pulsed s m r) := by
  rw [pulse_eq_onMover, State.onMover_mover_same, h]
  rfl

/-- The count of Table 6-3, by phase and direction. -/
theorem countPulse_eq (r : Mover) : countPulse r =
    if (r.phase = .running ∨ r.phase = .stopping) ∧ r.direction = some .dirB then r.count - 1
    else min 4095 (r.count + 1) := by
  unfold countPulse
  split
  · next running haul => simp [running, haul]
  · next stopping haul => simp [stopping, haul]
  · next notRunning notStopping =>
    rw [if_neg]
    · rfl
    · rintro ⟨running | stopping, haul⟩
      · exact notRunning running haul
      · exact notStopping stopping haul

/-! ### The end of pay-out (R123) -/

/-- A mover that comes to its end keeps its count and its known flag, whatever its phase was. -/
theorem reachEnd_mover {s : State} {m : MoverId} {r : Mover} (h : s.mover m = some r) :
    ∃ u, (s.reachEnd m).mover m = some u ∧ u.count = r.count ∧ u.known = r.known := by
  have idle := State.enterIdle_mover s m .atLimit
  have stop := State.enterStopping_mover s m .atEnd none
  rw [h, Option.map_some] at idle stop
  unfold State.reachEnd
  rw [h]
  dsimp only
  split
  case h_1 | h_2 => exact ⟨_, idle, rfl, rfl⟩
  case h_3 => exact ⟨_, stop, rfl, rfl⟩
  all_goals exact ⟨r, h, rfl, rfl⟩

/-- The count comes to the end of pay-out alone: a mover not in DIR_A stays as it is. -/
theorem countEnd_mover {s : State} {m : MoverId} {r : Mover} (h : s.mover m = some r) :
    ∃ u, (s.countEnd m).mover m = some u ∧ u.count = r.count ∧ u.known = r.known ∧
      (r.direction ≠ some .dirA → u = r) := by
  unfold State.countEnd
  rw [h]
  dsimp only
  split
  · next paysOut =>
    obtain ⟨u, record, count, known⟩ := reachEnd_mover h
    have out : r.direction = some .dirA := of_decide_eq_true (Bool.and_eq_true_iff.1 paysOut).1
    exact ⟨u, record, count, known, fun other => absurd out other⟩
  · exact ⟨r, h, rfl, rfl, fun _ => rfl⟩

/-! ### The pin's one windlass (R135) -/

/-- A slot without a record gets none when the station's other mover enters IDLE. -/
theorem enterIdle_mover_other_none {s : State} {m : MoverId} (code : RefusalCode)
    (h : s.mover (otherMover m) = none) : (s.enterIdle m code).mover (otherMover m) = none := by
  unfold State.enterIdle State.lookAgain
  simp [State.onMover_mover_other, otherMover_ne, h]

theorem reachEnd_mover_other_none {s : State} {m : MoverId} (h : s.mover (otherMover m) = none) :
    (s.reachEnd m).mover (otherMover m) = none := by
  unfold State.reachEnd
  split
  · exact h
  · split
    case h_1 | h_2 => exact enterIdle_mover_other_none _ h
    case h_3 => exact (State.onMover_mover_other s m _ _ (otherMover_ne m)).trans h
    all_goals exact h

theorem countEnd_mover_other_none {s : State} {m : MoverId} (h : s.mover (otherMover m) = none) :
    (s.countEnd m).mover (otherMover m) = none := by
  unfold State.countEnd
  split
  · split
    · exact reachEnd_mover_other_none h
    · exact h
  · exact h

/-- The mover takes no pulse of the pin: it has no record in force, or counts another pin's. -/
def NotOn (pin : PinId) (s : State) (m : MoverId) : Prop := s.mover m = none ∨ (s.moverCfg m).gypsy ≠ some pin

theorem NotOn.gypsy {pin : PinId} {s : State} {m : MoverId} (h : NotOn pin s m) : State.gypsy pin s m = s := by
  refine if_neg fun counts => ?_
  obtain ⟨record, -, bound⟩ := counts
  rcases h with absent | unbound
  · simp [absent] at record
  · exact unbound bound

/-- The other mover takes no pulse of the pin after windlass m has taken it, where it took none before. -/
theorem NotOn.pulse {pin : PinId} {s : State} {m : MoverId} (h : NotOn pin s (otherMover m)) :
    NotOn pin ((s.pulse m).countEnd m) (otherMover m) :=
  h.imp
    (fun absent => countEnd_mover_other_none
      ((State.onMover_mover_other s m _ _ (otherMover_ne m)).trans absent))
    (fun unbound => by rwa [moverCfg_congr (s := s) (by simp)])

/-- A pin that serves windlass m alone, at rest: the next change is a pulse at that windlass. -/
structure ServesOne (s : State) (pin : PinId) (m : MoverId) (r : Mover) : Prop where
  working : s.working = true
  fn : (s.cfg.pins[pin]).fn = .gypsy
  record : s.mover m = some r
  windlass : (s.moverCfg m).kind = .windlass
  bound : (s.moverCfg m).gypsy = some pin
  rest : (s.fpr.pins[pin]).delivered = false
  alone : NotOn pin s (otherMover m)

section
variable {s : State} {pin : PinId} {m : MoverId} {r : Mover}

/-- The pulse reaches windlass m and no other mover. -/
theorem ServesOne.gypsyNow (one : ServesOne s pin m r) :
    State.gypsyNow pin true (s.deliverPin pin true) = ((s.deliverPin pin true).pulse m).countEnd m := by
  have counts : State.gypsy pin (s.deliverPin pin true) m = ((s.deliverPin pin true).pulse m).countEnd m :=
    if_pos ⟨Option.isSome_of_mem one.record, one.windlass, one.bound⟩
  have alone : NotOn pin (s.deliverPin pin true) (otherMover m) := one.alone
  show State.gypsy pin (State.gypsy pin (s.deliverPin pin true) 0) 1 = _
  obtain rfl | rfl : m = 0 ∨ m = 1 := Fin.exists_fin_two.1 ⟨m, rfl⟩
  · rw [counts]
    exact alone.pulse.gypsy
  · rw [show State.gypsy pin (s.deliverPin pin true) 0 = _ from alone.gypsy, counts]

/-- What GYPSY_PULSE leads to on such a pin. -/
theorem ServesOne.exec_eq (one : ServesOne s pin m r) :
    exec (.gypsyPulse pin true) s =
      .next (announceChange s (((s.deliverPin pin true).pulse m).countEnd m)) := by
  rw [exec_gypsyPulse_of_change (active := true) one.working one.fn one.rest, one.gypsyNow]

/-- The windlass counts by Table 6-3, held at 0 where HOME is active at the instant of the pulse; its known flag stays
(R120, R121). -/
theorem ServesOne.counts (one : ServesOne s pin m r) :
    ∃ t u, exec (.gypsyPulse pin true) s = .next t ∧ t.mover m = some u ∧ u.known = r.known ∧
      (r.direction ≠ some .dirA → u.phase = r.phase) ∧
      u.count = if (s.deliverPin pin true).input (s.moverCfg m).home then 0 else countPulse r := by
  have pulse := pulse_mover (s := s.deliverPin pin true) one.record
  obtain ⟨u, record, count, known, same⟩ := countEnd_mover pulse
  refine ⟨_, u, one.exec_eq, ?_, known, fun other => by rw [same other]; rfl, count⟩
  rw [announceChange_mover]
  exact record

end

/-! ### The bindings of an image (R133) -/

/-- A binding of an allowed slot is to a pin of the consumer's own function. -/
theorem moverBinding_fn {pins b : List Byte} {c : MoverCfg} {i : Nat} {p : PinId} (ok : moverOk pins b = true)
    (read : readMoverCfg b = some c) (slot : i < 7) (bound : moverBinding b i = some p) :
    (readPin pins p).fn = bindingFn i := by
  have configured : byteAt b 0 ≠ 0 := fun zero => by simp [readMoverCfg, zero] at read
  have bindings : ∀ i < 7, bindingUsed b i = true → bindingOk pins (bindingFn i) (byteAt b (27 + i)) = true := by
    simp only [moverOk, configured, decide_false, Bool.false_or, Bool.and_eq_true, List.all_eq_true, List.mem_range,
      Bool.or_eq_true, Bool.not_eq_true'] at ok
    obtain ⟨-, bindings⟩ := ok
    intro i slot used
    exact (bindings i slot).resolve_left (by simp [used])
  unfold moverBinding readBinding at bound
  split at bound
  · next used =>
    split at bound
    · next pin =>
      obtain rfl : ⟨_, pin⟩ = p := Option.some.inj bound
      have allowed := bindings i slot used
      simp only [bindingOk, Bool.or_eq_true, Bool.and_eq_true, decide_eq_true_eq] at allowed
      rcases allowed with unbound | ⟨-, fn⟩
      · omega
      · exact fn
    · cases bound
  · cases bound

/-- HOME and GYPSY of an allowed slot are bound to different pins. -/
theorem home_ne_of_moverOk {pins b : List Byte} {c : MoverCfg} {p : PinId} (ok : moverOk pins b = true)
    (read : readMoverCfg b = some c) (gypsy : c.gypsy = some p) : c.home ≠ some p := by
  intro home
  have reads := read
  unfold readMoverCfg at reads
  split at reads
  · cases reads
  · obtain rfl := Option.some.inj reads
    have counts : (readPin pins p).fn = .gypsy := moverBinding_fn ok read (i := 4) (by decide) gypsy
    have homes : (readPin pins p).fn = .home := moverBinding_fn ok read (i := 5) (by decide) home
    rw [counts] at homes
    cases homes

/-! ### The pulse with HOME on another pin (R120, R123, R125) -/

section
variable {s : State} {pin : PinId} {m : MoverId} {r : Mover}

/-- HOME reads as before the pulse. -/
theorem home_deliverPin (elsewhere : (s.moverCfg m).home ≠ some pin) :
    (s.deliverPin pin true).input (s.moverCfg m).home = s.input (s.moverCfg m).home := by
  rw [deliverPin_input, if_neg elsewhere]

/-- The count after a pulse, clamped to 0-4095; a haul-in that is RUNNING goes on (R120, R121). -/
theorem ServesOne.counts_and_clamps (one : ServesOne s pin m r) (elsewhere : (s.moverCfg m).home ≠ some pin) :
    ∃ t u, exec (.gypsyPulse pin true) s = .next t ∧ t.mover m = some u ∧ u.known = r.known ∧
      (r.direction ≠ some .dirA → u.phase = r.phase) ∧
      u.count =
        if s.input (s.moverCfg m).home = true then 0
        else if (r.phase = .running ∨ r.phase = .stopping) ∧ r.direction = some .dirB then r.count - 1
        else min 4095 (r.count + 1) := by
  have counts := one.counts
  rwa [home_deliverPin elsewhere, countPulse_eq] at counts

/-- The record after a pulse that pays out, HOME inactive. -/
theorem pulsed_payOut (elsewhere : (s.moverCfg m).home ≠ some pin) (home : s.input (s.moverCfg m).home = false)
    (out : r.direction = some .dirA) (room : r.count < 4095) :
    pulsed (s.deliverPin pin true) m r =
      { r with count := r.count + 1, stallSpan := r.stallSpan.map fun _ => s.now } := by
  have inactive : (s.deliverPin pin true).input ((s.deliverPin pin true).moverCfg m).home = false :=
    (home_deliverPin elsewhere).trans home
  have count : countPulse r = r.count + 1 := by simp [countPulse_eq, out]; omega
  simp [pulsed, inactive, count]

/-- The end of pay-out, at a windlass whose record is in force (R123). -/
theorem endReached_payOut {u : Mover} (windlass : (s.moverCfg m).kind = .windlass) (record : s.mover m = some u) :
    s.endReached m .dirA = (u.known && decide ((s.moverCfg m).chain.maxCount ≤ u.count)) := by
  simp [State.endReached, windlass, record]

/-- The pulse that brings a known count to the maximum in pay-out stops the windlass with AT_END (R102, R123). -/
theorem ServesOne.stops_at_maximum (one : ServesOne s pin m r) (elsewhere : (s.moverCfg m).home ≠ some pin)
    (running : r.phase = .running) (home : s.input (s.moverCfg m).home = false) (known : r.known = true)
    (top : (s.moverCfg m).chain.maxCount ≤ 4095) (out : r.direction = some .dirA)
    (last : r.count + 1 = (s.moverCfg m).chain.maxCount) :
    ∃ t, exec (.gypsyPulse pin true) s = .next t ∧ t.mover m = some { r with
      phase := .stopping
      stopReason := some .atEnd
      reversal := none
      timer := some (s.now + (s.moverCfg m).stopDwell)
      overTime := none
      stallSpan := none
      count := (s.moverCfg m).chain.maxCount } := by
  have record := pulse_mover (s := s.deliverPin pin true) one.record
  rw [pulsed_payOut elsewhere home out (by omega), last] at record
  have cfg : ((s.deliverPin pin true).pulse m).moverCfg m = s.moverCfg m := moverCfg_congr (by simp) m
  have reached : ((s.deliverPin pin true).pulse m).endReached m .dirA = true := by
    rw [endReached_payOut (by rw [cfg]; exact one.windlass) record, cfg]
    simp [known]
  have stops : ((s.deliverPin pin true).pulse m).countEnd m =
      ((s.deliverPin pin true).pulse m).enterStopping m .atEnd none := by
    simp [State.countEnd, State.reachEnd, record, out, reached, running]
  refine ⟨_, one.exec_eq, ?_⟩
  rw [announceChange_mover, stops, State.enterStopping_mover, record, cfg]
  simp

/-- A pulse in pay-out short of the maximum, or with the count not known, is counted and restarts a running stall span;
the windlass runs on (R123, R125). -/
theorem ServesOne.runs_on (one : ServesOne s pin m r) (elsewhere : (s.moverCfg m).home ≠ some pin)
    (home : s.input (s.moverCfg m).home = false) (out : r.direction = some .dirA)
    (short : r.known = false ∨ r.count + 1 < (s.moverCfg m).chain.maxCount) (room : r.count < 4095) :
    exec (.gypsyPulse pin true) s = .next ((s.deliverPin pin true).onMover m fun x =>
      { x with count := r.count + 1, stallSpan := r.stallSpan.map fun _ => s.now }) := by
  have counted := pulsed_payOut elsewhere home out room
  have record := pulse_mover (s := s.deliverPin pin true) one.record
  rw [counted] at record
  have cfg : ((s.deliverPin pin true).pulse m).moverCfg m = s.moverCfg m := moverCfg_congr (by simp) m
  have reached : ((s.deliverPin pin true).pulse m).endReached m .dirA = false := by
    rw [endReached_payOut (by rw [cfg]; exact one.windlass) record, cfg]
    rcases short with unknown | below
    · simp [unknown]
    · simp [below]
  have on : ((s.deliverPin pin true).pulse m).countEnd m = (s.deliverPin pin true).pulse m := by
    simp [State.countEnd, record, reached]
  have claims := announcedClaims_congr (s := s) (t := (s.deliverPin pin true).pulse m)
    (State.pulse_zcu _ m) (State.pulse_cfg _ m) (State.pulse_suc _ m)
  rw [one.exec_eq, on, announceChange_of_same claims, pulse_eq_onMover]
  congr 1
  exact onMover_congr one.record counted

end

/-! ### The refutation: HOME on the GYPSY pin -/

/-- A station in RUN whose one mover, an IDLE windlass at count 0, has GYPSY and HOME on pin 0. -/
def sharedPin : State where
  suc := { phase := .run }
  cfg :=
    { pins := (Vector.replicate 32 {}).set 0 { fn := .gypsy }
      movers := #v[some { kind := .windlass, gypsy := some 0, home := some 0 }, none] }
  mvu := { movers := #v[some {}, none] }

theorem sharedPin_servesOne : ServesOne sharedPin 0 0 {} where
  working := rfl
  fn := rfl
  record := rfl
  windlass := rfl
  bound := rfl
  rest := rfl
  alone := .inl rfl

/-- Refutes O51: HOME is inactive before the pulse, so the statement has the count 0 go to 1; the pulse makes HOME
active on their common pin, and the model holds the count at 0 (R121). -/
theorem not_pulsesCountAndClamp : ¬ Obligations.PulsesCountAndClamp := by
  unfold Obligations.PulsesCountAndClamp
  rintro ⟨counting, -⟩
  have one := sharedPin_servesOne
  obtain ⟨stated, -⟩ := counting 0 0 {} sharedPin one.working one.fn one.record one.windlass one.bound
  obtain ⟨t, u, run, record, -, -, one_more⟩ := stated one.rest one.alone
  obtain ⟨t', u', run', record', -, -, held⟩ := one.counts
  obtain rfl : t = t' := by rw [run] at run'; injection run'
  obtain rfl : u = u' := by rw [record] at record'; injection record'
  have before : sharedPin.input (sharedPin.moverCfg 0).home = false := rfl
  have after : (sharedPin.deliverPin 0 true).input (sharedPin.moverCfg 0).home = true := rfl
  have counted : u.count = 1 := by simpa [before] using one_more
  have kept : u.count = 0 := by simpa [after] using held
  omega

end Sys2Proof.Safety
end

section
/-! PROOFS. What a command can do, said once. Every command but the resets, the start-up, the tick and the trip is a chain
of moves, each a shared operation under the guard its caller gives it. An invariant that every move, the start-up and the
resets keep holds from step to step. -/

namespace Sys2Proof.Safety

open Sys2Proof Sys2Proof.Machine

/-! ### Moves -/

/-- What one operation of a command makes of a station, with what its caller has made sure of. -/
inductive Move : State → State → Prop
  -- Start-up, composing, the Fault Collector (Chapters 9 and 10).
  | run {s : State} (quiet : s.suc.phase = .quiet) : Move s s.enterRun
  | compose {s : State} : Move s s.compose
  | event {s : State} (k : FaultKind) (event : isEvent k = true) : Move s (s.raiseEvent k)
  | expire {s : State} (k : FaultKind) (event : isEvent k = true) : Move s (s.clearFlag k)
  | blink {s : State} (lit : Bool) : Move s { s with fpr := { s.fpr with blinkLit := lit } }
  -- The line and its queue (Chapter 8).
  | port {s : State} (p : PortId) (f : Port → Port) (operate : s.portsOperate = true) : Move s (s.movePort p f)
  | touch {s : State} (p : PortId) (f : Port → Port) (state : (f s.liu.ports[p]).state = (s.liu.ports[p]).state)
      (dark : portDarkHolds (f s.liu.ports[p]) = portDarkHolds s.liu.ports[p])
      (wasFit : (f s.liu.ports[p]).wasFit = (s.liu.ports[p]).wasFit) : Move s (s.onPort p f)
  | depart {s : State} : Move s s.judgeDepartures
  | queued {s : State} (serial : Nat) (f : Queued → Queued) (frame : ∀ q, (f q).frame = q.frame) :
      Move s (s.onQueued serial f)
  | offer {s : State} (f : Frame) (command : isAnnounce f = false) : Move s (s.offerFrame f)
  | ageDrive {s : State} : Move s s.ageDrive
  | twin {s : State} : Move s s.raiseTwin
  -- The budget and the peers (Chapters 1 and 2).
  | takeOffers {s : State} : Move s s.takeOffers
  | settle {s : State} (src : Source) :
      Move s (s.setDemands (mapSource src (settleEntry s.now s.cfg.settle) s.sbu.demands))
  | stopTimer {s : State} : Move s s.stopIslandTimer
  | island {s : State} : Move s (s.enterIsland .timer)
  | age {s : State} (n : SlotId) (status : PeerStatus) (r : PeerRec) (known : s.ptu.peers[n] = some r) :
      Move s (s.ageTo n status)
  | file {s : State} (src : Nat) (i : SlotId) (a : Announce) (other : s.suc.ownNumber ≠ some src)
      (slot : slotOf src = some i) (delivers : s.delivers = true) : Move s (s.fileAnnounce i a)
  | forget {s : State} (i : SlotId) : Move s ((s.setPeer i none).reportOrphans).reexamine
  -- The channels and the sense inputs (Chapters 3 and 7).
  | level {s : State} (c : ChannelId) (level : Nat) (takes : s.takesLoads = true) : Move s (s.applyLevel c level)
  | beat {s : State} (c : ChannelId) : Move s (s.beatChannel c)
  | channel {s : State} (c : ChannelId) (f : Channel → Channel)
      (mark : (f s.lcu.channels[c]).mark = (s.lcu.channels[c]).mark) (fresh : s.lcu.channels[c] ≠ {}) :
      Move s (s.onChannel c f)
  | convert {s : State} (cs : SenseId) (raw : Int) : Move s (s.convert cs raw)
  -- The movers and their inputs (Chapters 4 to 6).
  | drive {s : State} (src : Nat) (m : MoverId) (motion : Motion) : Move s (s.deliverDrive src m motion)
  | reexamine {s : State} : Move s s.reexamine
  | hold {s : State} (m : MoverId) : Move s (s.holdExpired m)
  | idle {s : State} (m : MoverId) (code : RefusalCode) (r : Mover) (here : s.mover m = some r)
      (motion : r.phase.inMotion = true) : Move s (s.enterIdle m code)
  | fault {s : State} (m : MoverId) (reason : FaultReason) (r : Mover) (here : s.mover m = some r)
      (motion : r.phase.inMotion = true) (own : reason ≠ .pumpFault) : Move s (s.enterFaulted m reason)
  | dwell {s : State} (m : MoverId) (r : Mover) (here : s.mover m = some r) (stopping : r.phase = .stopping) :
      Move s (s.dwellOver m r)
  | unguard {s : State} (m : MoverId) : Move s (s.onMover m fun r => { r with releaseGuard := none })
  | occupancy {s : State} (pin : PinId) (active : Bool) (sampling : s.sampling = true)
      (fn : (s.cfg.pins[pin]).fn = .occupancy) : Move s (s.deliverPin pin active).reexamine
  | lockOpen {s : State} (pin : PinId) (active : Bool) (sampling : s.sampling = true)
      (fn : (s.cfg.pins[pin]).fn = .lockOpen) : Move s (State.lockOpenNow pin active (s.deliverPin pin active))
  | lockClosed {s : State} (pin : PinId) (active : Bool) (sampling : s.sampling = true)
      (fn : (s.cfg.pins[pin]).fn = .lockClosed) : Move s (State.lockClosedNow pin active (s.deliverPin pin active))
  | endSwitch {s : State} (pin : PinId) (active : Bool) (sampling : s.sampling = true)
      (fn : (s.cfg.pins[pin]).fn = .endA ∨ (s.cfg.pins[pin]).fn = .endB) :
      Move s (State.endSwitchNow pin active (s.deliverPin pin active))
  | powerFault {s : State} (pin : PinId) (active : Bool) (sampling : s.sampling = true)
      (fn : (s.cfg.pins[pin]).fn = .powerFault) : Move s (State.powerFaultNow pin active (s.deliverPin pin active))
  | gypsy {s : State} (pin : PinId) (active : Bool) (sampling : s.sampling = true)
      (fn : (s.cfg.pins[pin]).fn = .gypsy) : Move s (State.gypsyNow pin active (s.deliverPin pin active))
  | home {s : State} (pin : PinId) (active : Bool) (sampling : s.sampling = true)
      (fn : (s.cfg.pins[pin]).fn = .home) : Move s (State.homeNow pin active (s.deliverPin pin active))
  | standby {s : State} (pin : PinId) (sampling : s.sampling = true) (fn : (s.cfg.pins[pin]).fn = .standby) :
      Move s (s.deliverPin pin true).standbyAsserted
  | resume {s : State} (pin : PinId) (sampling : s.sampling = true) (fn : (s.cfg.pins[pin]).fn = .standby) :
      Move s (s.deliverPin pin false).endStandDown
  -- The keys (Chapter 7).
  | key {s : State} (k : KeyId) (f : Key → Key) : Move s (s.onKey k f)
  | holdKey {s : State} (k : KeyId) (active : Bool) (working : s.working = true) : Move s (s.hold k active)

/-- A chain of moves. -/
abbrev Moves : State → State → Prop := Relation.ReflTransGen Move

theorem Moves.none (s : State) : Moves s s := .refl

theorem Moves.of {s t : State} (h : Move s t) : Moves s t := .single h

theorem Moves.and {s t u : State} (h : Moves s t) (k : Move t u) : Moves s u := .tail h k

theorem Moves.append {s t u : State} (h : Moves s t) (k : Moves t u) : Moves s u := .trans h k

theorem Moves.ite {c : Prop} [Decidable c] {s t : State} (k : c → Moves s t) : Moves s (if c then t else s) := by
  split
  · exact k ‹c›
  · exact .none s

/-- The one extra ANNOUNCE at the end of a command is a move of its own (R82). -/
theorem Moves.announceChange {s u t : State} (h : Moves s t) : Moves s (announceChange u t) := by
  unfold Machine.announceChange
  split
  · exact h
  · exact h.and .compose

/-- A fold of operations each of which is a chain of moves, while what they rely on stands. -/
theorem Moves.foldl {α : Type} {f : State → α → State} {ok : State → Prop} (move : ∀ s a, ok s → Moves s (f s a))
    (keeps : ∀ s a, ok s → ok (f s a)) (l : List α) {s t : State} (h : Moves s t) (start : ok t) :
    Moves s (l.foldl f t) := by
  induction l generalizing t with
  | nil => exact h
  | cons a l ih => exact ih (h.trans (move t a start)) (keeps t a start)

/-! ### Frames delivered -/

theorem applyLevel_takesLoads (s : State) (c : ChannelId) (level : Nat) :
    (s.applyLevel c level).takesLoads = s.takesLoads := by
  simp [State.takesLoads, State.working, State.active]

theorem moves_deliverSet (s : State) (channel level : Nat) : Moves s (s.deliverSet channel level) := by
  unfold State.deliverSet
  split
  · exact .ite fun takes => .of (.level _ level takes)
  · exact .none s

theorem moves_deliverScene (s : State) (number : Nat) : Moves s (s.deliverScene number) := by
  unfold State.deliverScene
  split
  · refine .ite fun takes => ?_
    exact Moves.foldl (ok := fun t => t.takesLoads = true) (fun t pair ok => .of (.level _ _ ok))
      (fun t pair ok => (applyLevel_takesLoads t _ _).trans ok) _ (.none s) takes
  · exact .none s

theorem moves_deliverAnnounce {s : State} (delivers : s.delivers = true) (src : Nat) (a : Announce) :
    Moves s (s.deliverAnnounce src a) := by
  unfold State.deliverAnnounce
  split
  · exact .of .twin
  · split
    · exact .of (.file src _ a ‹_› ‹_› delivers)
    · exact .none s

theorem moves_deliverForget (s : State) (src target : Nat) : Moves s (s.deliverForget src target) := by
  refine .ite fun _ => ?_
  split
  · exact .none s
  · split
    · exact .none s
    · exact .of (.forget _)

theorem moves_deliver {s : State} (delivers : s.delivers = true) (f : Frame) : Moves s (s.deliver f) := by
  cases f with
  | drive src target m motion => exact .ite fun _ => .of (.drive src m motion)
  | announce src a => exact moves_deliverAnnounce delivers src a
  | set src target channel level => exact .ite fun _ => moves_deliverSet s channel level
  | scene src number => exact moves_deliverScene s number
  | forget src target => exact moves_deliverForget s src target

theorem delivers_of_working {s : State} (h : s.working = true) : s.delivers = true := by simp [State.delivers, h]

theorem portsOperate_of_hears {s : State} {p : PortId} (h : s.hears p = true) : s.portsOperate = true := by
  simp only [State.hears, Bool.and_eq_true] at h
  exact h.1.1

theorem awake_of_hears {s : State} {p : PortId} (h : s.hears p = true) : (s.liu.ports[p]).state ≠ .dark := by
  simp only [State.hears, Bool.and_eq_true, decide_eq_true_eq] at h
  exact h.1.2

theorem moves_checkAndDeliver (s : State) (frame : List Byte) : Moves s (s.checkAndDeliver frame) := by
  refine .ite fun delivers => ?_
  split
  · exact .of (.event .malformed rfl)
  · exact moves_deliver delivers _

theorem moves_takeBadFrame {s : State} {p : PortId} (hears : s.hears p = true) : Moves s (s.takeBadFrame p) := by
  have counted : Moves s (s.movePort p fun x => countError s.cfg s.now (seeTransition s.now x)) :=
    .of (.port p _ (portsOperate_of_hears hears))
  unfold State.takeBadFrame
  dsimp only
  split
  · exact counted.and (.event .crcError rfl)
  · exact counted

/-- A frame that ends on a port, whatever its row (R160 to R162). -/
theorem moves_receive (s : State) (p : PortId) (frame : List Byte) (mine : Frame → Bool) :
    Moves s (s.receive p frame mine) := by
  refine .ite fun heard => ?_
  obtain ⟨hears, -⟩ := Bool.and_eq_true_iff.1 heard
  have counted : Moves s (s.takeGoodFrame p) := .of (.port p _ (portsOperate_of_hears hears))
  split
  · exact .ite fun _ => (counted.append (moves_checkAndDeliver _ frame)).announceChange
  · exact (moves_takeBadFrame hears).announceChange

/-! ### The line -/

theorem moves_endAttempt (s : State) (p : PortId) : Move s (s.onPort p (endAttempt s.now)) := .touch p _ rfl rfl rfl

theorem moves_completeFrame (s : State) (p : PortId) (a : Attempt) : Moves s (s.completeFrame p a) := by
  have ended := Moves.of (moves_endAttempt s p)
  unfold State.completeFrame
  dsimp only
  split
  · exact ended
  · have marked := ended.and (.queued a.serial (markSent p) fun _ => rfl)
    split
    · exact (marked.and .takeOffers).and .depart
    · exact marked.and .depart

theorem moves_mismatchFrame (s : State) (p : PortId) (a : Attempt) : Moves s (s.mismatchFrame p a) := by
  have ended := Moves.of (moves_endAttempt s p)
  unfold State.mismatchFrame
  dsimp only
  split
  · exact ended
  · split
    · exact ended.and .twin
    · exact ended.and (.queued a.serial (markMismatch p) fun _ => rfl)

/-- What is seen of another station at a port that is not DARK moves none of its conditions (R150). -/
theorem moves_seen {s : State} {p : PortId} (hears : s.hears p = true) (f : Port → Port)
    (state : ∀ x, (f x).state = x.state) (wasFit : ∀ x, (f x).wasFit = x.wasFit) : Move s (s.onPort p f) := by
  have awake := awake_of_hears hears
  refine .touch p f (state _) ?_ (wasFit _)
  rw [portDarkHolds_awake awake, portDarkHolds_awake (by rw [state]; exact awake)]

/-! ### Keys -/

theorem moves_emit {s : State} (working : s.working = true) (f : Frame) (command : isAnnounce f = false) :
    Moves s (s.emit f) :=
  (moves_deliver (delivers_of_working working) f).and (.offer f command)

theorem hold_working (s : State) (k : KeyId) (active : Bool) : (s.hold k active).working = s.working := by
  unfold State.hold
  dsimp only
  split <;> rfl

/-- A press, where what it does once the key is held is a chain of moves of a working station. -/
theorem moves_press (s : State) (k : KeyId) {act : State → State}
    (move : ∀ t, t.working = true → Moves t (act t)) : Moves s (s.press k act) := by
  refine .ite fun can => ?_
  have working : s.working = true := by
    simp only [State.canPress, Bool.and_eq_true] at can
    exact can.1.1
  exact ((Moves.of (.holdKey k true working)).append
    (move _ ((hold_working s k true).trans working))).announceChange

theorem moves_acknowledged {s : State} (working : s.working = true) (k : KeyId) (f : Frame)
    (command : isAnnounce f = false) : Moves s ((s.acknowledge k).emit f) :=
  (Moves.of (.key k _)).trans (moves_emit (s := s.acknowledge k) working f command)

theorem suppress_working (k : KeyId) (s : State) (j : KeyId) : (State.suppress k s j).working = s.working := by
  unfold State.suppress
  split <;> rfl

theorem moves_suppress (k : KeyId) (s : State) (j : KeyId) : Moves s (State.suppress k s j) :=
  .ite fun _ => .of (.key j _)

theorem moves_startHold {s : State} (working : s.working = true) (k : KeyId) (target : Nat) (m : MoverId) (d : Dir) :
    Moves s (s.startHold k target m d) := by
  have suppressed : Moves s (allKeys.foldl (State.suppress k) s) :=
    Moves.foldl (ok := fun _ => True) (fun t j _ => moves_suppress k t j) (fun _ _ _ => trivial) allKeys (.none s)
      trivial
  have still : (allKeys.foldl (State.suppress k) s).working = true :=
    (foldl_keeps State.working _ (suppress_working k) allKeys s).trans working
  unfold State.startHold
  exact (suppressed.and (.key k _)).trans (moves_emit (s := State.onKey _ k _) still _ rfl)

theorem moves_repeatHold {s : State} (working : s.working = true) (k : KeyId) : Moves s (s.repeatHold k) := by
  unfold State.repeatHold
  split
  · exact (Moves.of (.key k _)).trans (moves_emit (s := State.onKey _ k _) working _ rfl)
  · exact .none s

theorem moves_releaseHold {s : State} (working : s.working = true) (k : KeyId) : Moves s (s.releaseHold k) := by
  have released (f : Key → Key) : Moves s (s.onKey k f) := .of (.key k f)
  unfold State.releaseHold
  dsimp only
  split
  · split
    · exact (released _).trans (moves_emit (s := State.onKey _ k _) working _ rfl)
    · exact released _
  · exact released _

/-! ### Inputs and movers -/

/-- An input that changes, where its change and what its consumers do is one move. -/
theorem moves_onChange (s : State) (p : PinId) (active : Bool) (fns : List PinFn) (act : State → State)
    (move : s.sampling = true → (s.cfg.pins[p]).fn ∈ fns → Move s (act (s.deliverPin p active))) :
    Moves s (s.onChange p active fns act) := by
  refine .ite fun changes => ?_
  simp only [State.changes, Bool.and_eq_true, decide_eq_true_eq] at changes
  obtain ⟨⟨sampling, fn⟩, -⟩ := changes
  exact (Moves.of (move sampling fn)).announceChange

/-- A mover found in a phase has its record there. -/
theorem mover_of_inPhase {s : State} {m : MoverId} {phase : MoverPhase} (h : s.inPhase m phase = true) :
    ∃ r, s.mover m = some r ∧ r.phase = phase := by
  unfold State.inPhase at h
  split at h
  · exact ⟨_, ‹_›, of_decide_eq_true h⟩
  · cases h

theorem mover_of_limitDue {s : State} {m : MoverId} (h : s.limitDue m = true) :
    ∃ r, s.mover m = some r ∧ r.phase = .requesting :=
  mover_of_inPhase (Bool.and_eq_true_iff.1 h).1

theorem mover_of_lockDue {s : State} {m : MoverId} (h : s.lockDue m = true) :
    ∃ r, s.mover m = some r ∧ (r.phase = .unlocking ∨ r.phase = .locking) := by
  simp only [State.lockDue, Bool.and_eq_true, Bool.or_eq_true] at h
  obtain ⟨here | here, -⟩ := h
  · obtain ⟨r, found, phase⟩ := mover_of_inPhase here
    exact ⟨r, found, .inl phase⟩
  · obtain ⟨r, found, phase⟩ := mover_of_inPhase here
    exact ⟨r, found, .inr phase⟩

theorem mover_of_travelDue {s : State} {m : MoverId} (h : s.travelDue m = true) :
    ∃ r, s.mover m = some r ∧ r.phase = .running := by
  simp only [State.travelDue, Bool.and_eq_true] at h
  exact mover_of_inPhase h.1.2

theorem mover_of_overloadDue {s : State} {m : MoverId} (h : s.overloadDue m = true) :
    ∃ r, s.mover m = some r ∧ r.phase = .running := by
  unfold State.overloadDue at h
  split at h
  · exact ⟨_, ‹_›, of_decide_eq_true (Bool.and_eq_true_iff.1 h).1⟩
  · cases h

theorem mover_of_stallDue {s : State} {m : MoverId} (h : s.stallDue m = true) :
    ∃ r, s.mover m = some r ∧ r.phase = .running := by
  unfold State.stallDue at h
  split at h
  · simp only [Bool.and_eq_true, decide_eq_true_eq] at h
    exact ⟨_, ‹_›, h.1.2⟩
  · cases h

theorem mover_of_stopDue {s : State} {m : MoverId} (h : s.stopDue m = true) :
    ∃ r, s.mover m = some r ∧ r.phase = .stopping :=
  mover_of_inPhase (Bool.and_eq_true_iff.1 h).1

/-- A timer of a mover in motion that faults it with its own reason (R100, R103, R104, R106, R125). -/
theorem moves_faulted {s : State} {m : MoverId} (reason : FaultReason) (own : reason ≠ .pumpFault)
    (h : ∃ r, s.mover m = some r ∧ r.phase.inMotion = true) : Moves s (announceChange s (s.enterFaulted m reason)) := by
  obtain ⟨r, here, motion⟩ := h
  exact (Moves.of (.fault m reason r here motion own)).announceChange

/-! ### Every command -/

/-- What a command makes of a station: a reset, a part of the start-up, a tick, a trip, or a chain of moves. -/
inductive Effect : Instr → State → State → Prop
  | powerOn {s : State} : Effect .powerOn s s.afterReset
  | pinReset {s : State} : Effect .pinReset s s.pinReset
  | strap {s : State} (straps : BitVec 6) (due : s.strapDue = true) :
      Effect (.strapSample straps) s (s.takeStraps straps.toNat)
  | accept {s : State} (image : List Byte) (levels : BitVec 32) (cfg : Cfg) (load : s.suc.phase = .load)
      (accepted : judgeImage image = some cfg) : Effect (.loadEnd image levels) s (s.acceptImage cfg levels)
  | refuse {s : State} (image : List Byte) (levels : BitVec 32) (load : s.suc.phase = .load)
      (refused : judgeImage image = none) : Effect (.loadEnd image levels) s s.refuseImage
  | calibrated {s : State} (due : s.calibrateDue = true) : Effect .calibrateEnd s s.fitAll.reportFitted.enterQuiet
  | tick {s : State} (supply : Bool) (due : s.tickDue = true) : Effect (.ownPeriodTick supply) s (s.ownTick supply)
  | trip {s : State} (c : ChannelId) (due : s.tripDue c = true) : Effect (.channelTrip c) s (s.trip c)
  | moves {i : Instr} {s t : State} (on : i ≠ .powerOn) (reset : i ≠ .pinReset) (h : Moves s t) : Effect i s t

/-- Every command answers a next state, its effect. -/
theorem exec_effect (i : Instr) (s : State) : ∃ t, exec i s = .next t ∧ Effect i s t := by
  cases i with
  | powerOn => exact ⟨_, rfl, .powerOn⟩
  | pinReset => exact ⟨_, rfl, .pinReset⟩
  | strapSample straps =>
    refine ⟨_, rfl, ?_⟩
    split
    · exact .strap straps ‹_›
    · exact .moves nofun nofun (.none s)
  | loadEnd image levels =>
    refine ⟨_, rfl, ?_⟩
    split
    · split
      · exact .accept image levels _ ‹_› ‹_›
      · exact .refuse image levels ‹_› ‹_›
    · exact .moves nofun nofun (.none s)
  | calibrateEnd =>
    refine ⟨_, rfl, ?_⟩
    split
    · exact .calibrated ‹_›
    · exact .moves nofun nofun (.none s)
  | ownPeriodTick supply =>
    refine ⟨_, rfl, ?_⟩
    split
    · exact .tick supply ‹_›
    · exact .moves nofun nofun (.none s)
  | quietEnd =>
    refine ⟨_, rfl, .moves nofun nofun (.ite fun due => .of (.run ?_))⟩
    exact of_decide_eq_true (Bool.and_eq_true_iff.1 due).1
  -- The rows of the line (Chapter 8).
  | carrierLoss p =>
    refine ⟨_, rfl, .moves nofun nofun (.ite fun due => ?_)⟩
    exact ((Moves.of (.port p _ (Bool.and_eq_true_iff.1 due).1)).and .depart).announceChange
  | darkPortTransition p =>
    refine ⟨_, rfl, .moves nofun nofun (.ite fun due => ?_)⟩
    exact (Moves.of (.port p _ (Bool.and_eq_true_iff.1 due).1)).announceChange
  | lossOfLock p =>
    refine ⟨_, rfl, .moves nofun nofun (.ite fun due => ?_)⟩
    exact (Moves.of (.port p _ due.1)).announceChange
  | dwellEnd p =>
    refine ⟨_, rfl, .moves nofun nofun ?_⟩
    split
    · rename_i due
      refine (Moves.of (.port p _ ?_)).announceChange
      unfold State.dwellDue at due
      split at due
      · rename_i seeking
        exact (Bool.and_eq_true_iff.1 seeking).1
      · cases due
    · exact .none s
  | linkPulse p | errorWindowEnd p | arbitrationLoss p =>
    exact ⟨_, rfl, .moves nofun nofun (.ite fun _ => .of (.touch p _ rfl rfl rfl))⟩
  | transmitStart p =>
    refine ⟨_, rfl, .moves nofun nofun (.ite fun _ => ?_)⟩
    split
    · exact .of (.touch p _ rfl rfl rfl)
    · exact .none s
  | crcError p =>
    exact ⟨_, rfl, .moves nofun nofun (.ite fun hears => (moves_takeBadFrame hears).announceChange)⟩
  | frameAborted p =>
    refine ⟨_, rfl, .moves nofun nofun (.ite fun hears => ?_)⟩
    exact .of (moves_seen hears (seeTransition s.now) (fun _ => rfl) (fun _ => rfl))
  | transitionFromAnotherStation p startSymbol =>
    refine ⟨_, rfl, .moves nofun nofun (.ite fun hears => ?_)⟩
    exact .of (moves_seen hears (heardAt s.now startSymbol) (fun _ => by cases startSymbol <;> rfl)
      (fun _ => by cases startSymbol <;> rfl))
  | echoMismatch p =>
    refine ⟨_, rfl, .moves nofun nofun ?_⟩
    split
    · exact (moves_mismatchFrame s p _).announceChange
    · exact .none s
  | frameCompletion p =>
    refine ⟨_, rfl, .moves nofun nofun ?_⟩
    split
    · exact moves_completeFrame s p _
    · exact .none s
  | driveStale => exact ⟨_, rfl, .moves nofun nofun (.of .ageDrive)⟩
  | announceReceived p frame | set p frame | scene p frame | forget p frame
  | driveDirA p frame | driveDirB p frame | driveStop p frame | driveClear p frame =>
    exact ⟨_, rfl, .moves nofun nofun (moves_receive s p frame _)⟩
  -- The rows of the budget and of the peer table's ageing (Chapters 1 and 2).
  | settle src => exact ⟨_, rfl, .moves nofun nofun (.of (.settle src))⟩
  | islandDelayExpiry =>
    refine ⟨_, rfl, .moves nofun nofun (.ite fun _ => ?_)⟩
    split
    · exact .of .stopTimer
    · exact (Moves.of .stopTimer).and .island
  | peerStale n =>
    refine ⟨_, rfl, .moves nofun nofun (.ite fun due => ?_)⟩
    unfold State.staleDue at due
    split at due
    · exact .of (.age n .stale _ ‹_›)
    · cases due
  | peerOrphan n =>
    refine ⟨_, rfl, .moves nofun nofun (.ite fun due => ?_)⟩
    unfold State.orphanDue at due
    split at due
    · exact .of (.age n .orphan _ ‹_›)
    · cases due
  -- The rows of the channels and the sense inputs (Chapters 3 and 7).
  | fadeBeat =>
    refine ⟨_, rfl, .moves nofun nofun (.ite fun _ => ?_)⟩
    exact Moves.foldl (ok := fun _ => True) (fun _ c _ => .of (.beat c)) (fun _ _ _ => trivial) allChannels (.none s)
      trivial
  | senseReading cs raw => exact ⟨_, rfl, .moves nofun nofun (.of (.convert cs raw))⟩
  | inrushWindowExpiry c =>
    refine ⟨_, rfl, .moves nofun nofun (.ite fun due => ?_)⟩
    obtain ⟨-, -, -, mark⟩ := compareReading_levels s.now s.cfg.channels[c] { s.lcu.channels[c] with inrush := none }
    exact .of (.channel c _ mark (fresh_of_due (timer := Channel.inrush) rfl due))
  | channelTrip c =>
    refine ⟨_, rfl, ?_⟩
    split
    · exact .trip c ‹_›
    · exact .moves nofun nofun (.none s)
  | tripMemoryExpiry c =>
    refine ⟨_, rfl, .moves nofun nofun (.ite fun due => ?_)⟩
    exact .of (.channel c _ rfl (fresh_of_due (timer := Channel.tripMemory) rfl due))
  -- The rows of the movers, their claims and their inputs (Chapters 4 to 6).
  | listenWindowExpiry m =>
    exact ⟨_, rfl, .moves nofun nofun (.ite fun _ => (Moves.of .reexamine).announceChange)⟩
  | holdToRunTimeout m =>
    exact ⟨_, rfl, .moves nofun nofun (.ite fun _ => (Moves.of (.hold m)).announceChange)⟩
  | requestTimeLimit m =>
    refine ⟨_, rfl, .moves nofun nofun (.ite fun due => ?_)⟩
    obtain ⟨r, here, phase⟩ := mover_of_limitDue due
    exact (Moves.of (.idle m _ r here (by rw [phase]; rfl))).announceChange
  | releaseGuardExpiry m => exact ⟨_, rfl, .moves nofun nofun (.ite fun _ => .of (.unguard m))⟩
  | lockTimerExpiry m =>
    refine ⟨_, rfl, .moves nofun nofun (.ite fun due => moves_faulted .lockJam nofun ?_)⟩
    obtain ⟨r, here, phase | phase⟩ := mover_of_lockDue due <;> exact ⟨r, here, by rw [phase]; rfl⟩
  | travelTimeout m =>
    refine ⟨_, rfl, .moves nofun nofun (.ite fun due => moves_faulted .travelTimeout nofun ?_)⟩
    obtain ⟨r, here, phase⟩ := mover_of_travelDue due
    exact ⟨r, here, by rw [phase]; rfl⟩
  | overload m =>
    refine ⟨_, rfl, .moves nofun nofun (.ite fun due => moves_faulted .overload nofun ?_)⟩
    obtain ⟨r, here, phase⟩ := mover_of_overloadDue due
    exact ⟨r, here, by rw [phase]; rfl⟩
  | stall m =>
    refine ⟨_, rfl, .moves nofun nofun (.ite fun due => moves_faulted .stall nofun ?_)⟩
    obtain ⟨r, here, phase⟩ := mover_of_stallDue due
    exact ⟨r, here, by rw [phase]; rfl⟩
  | stopDwellEnd m =>
    refine ⟨_, rfl, .moves nofun nofun ?_⟩
    split
    · rename_i r here
      refine .ite fun due => ?_
      obtain ⟨x, there, phase⟩ := mover_of_stopDue due
      obtain rfl : r = x := Option.some.inj (here.symm.trans there)
      exact (Moves.of (.dwell m r here phase)).announceChange
    · exact .none s
  | occupancyChange pin active =>
    exact ⟨_, rfl, .moves nofun nofun (moves_onChange s pin active _ _ fun sampling fn =>
      .occupancy pin active sampling (by simpa using fn))⟩
  | lockOpenChange pin active =>
    exact ⟨_, rfl, .moves nofun nofun (moves_onChange s pin active _ _ fun sampling fn =>
      .lockOpen pin active sampling (by simpa using fn))⟩
  | lockClosedChange pin active =>
    exact ⟨_, rfl, .moves nofun nofun (moves_onChange s pin active _ _ fun sampling fn =>
      .lockClosed pin active sampling (by simpa using fn))⟩
  | endSwitchChange pin active =>
    exact ⟨_, rfl, .moves nofun nofun (moves_onChange s pin active _ _ fun sampling fn =>
      .endSwitch pin active sampling (by simpa using fn))⟩
  | powerFaultChange pin active =>
    exact ⟨_, rfl, .moves nofun nofun (moves_onChange s pin active _ _ fun sampling fn =>
      .powerFault pin active sampling (by simpa using fn))⟩
  | gypsyPulse pin active =>
    exact ⟨_, rfl, .moves nofun nofun (moves_onChange s pin active _ _ fun sampling fn =>
      .gypsy pin active sampling (by simpa using fn))⟩
  | homeChange pin active =>
    exact ⟨_, rfl, .moves nofun nofun (moves_onChange s pin active _ _ fun sampling fn =>
      .home pin active sampling (by simpa using fn))⟩
  | standbyAssert =>
    refine ⟨_, rfl, .moves nofun nofun ?_⟩
    split
    · exact moves_onChange s _ true _ _ fun sampling fn => .standby _ sampling (by simpa using fn)
    · exact .none s
  | standbyDeassert =>
    refine ⟨_, rfl, .moves nofun nofun ?_⟩
    split
    · exact moves_onChange s _ false _ _ fun sampling fn => .resume _ sampling (by simpa using fn)
    · exact .none s
  -- The rows of the keys and the flags (Chapters 7 and 9).
  | keySetLevel k | keyToggle k | keyClear k =>
    refine ⟨_, rfl, .moves nofun nofun ?_⟩
    split
    · exact moves_press s k fun t working => moves_emit working _ rfl
    · exact .none s
  | keyScene k | keyForget k =>
    refine ⟨_, rfl, .moves nofun nofun ?_⟩
    split
    · exact moves_press s k fun t working => moves_acknowledged working k _ rfl
    · exact .none s
  | keyHoldDrive k =>
    refine ⟨_, rfl, .moves nofun nofun ?_⟩
    split
    · exact moves_press s k fun t working => moves_startHold working k _ _ _
    · exact .none s
  | keyRelease k =>
    refine ⟨_, rfl, .moves nofun nofun (.ite fun can => ?_)⟩
    have working : s.working = true := (Bool.and_eq_true_iff.1 can).1
    exact ((Moves.of (.holdKey k false working)).append
      (moves_releaseHold ((hold_working s k false).trans working) k)).announceChange
  | keyRepeat k =>
    refine ⟨_, rfl, .moves nofun nofun (.ite fun due => ?_)⟩
    simp only [State.repeatDue, Bool.and_eq_true] at due
    exact (moves_repeatHold due.1.1.1 k).announceChange
  | acknowledgeExpiry k => exact ⟨_, rfl, .moves nofun nofun (.ite fun _ => .of (.key k _))⟩
  | holdTimerExpiry kind =>
    exact ⟨_, rfl, .moves nofun nofun (.ite fun due => .of (.expire kind (Bool.and_eq_true_iff.1 due).1))⟩
  | beaconBlink => exact ⟨_, rfl, .moves nofun nofun (.ite fun _ => .of (.blink _))⟩

theorem effect_of_exec {i : Instr} {s t : State} (h : exec i s = .next t) : Effect i s t := by
  obtain ⟨u, answer, effect⟩ := exec_effect i s
  obtain rfl : u = t := Host.Outcome.next.inj (answer.symm.trans h)
  exact effect

/-! ### Invariants -/

/-- A property that every kind of effect, the passing of time and the queue's own changes keep. -/
structure Kept (I : State → Prop) : Prop where
  waits : ∀ (s : State) (rest : List Instr), I s → I { s with pending := rest }
  passes : ∀ s : State, I s → I s.passTime
  powerOn : ∀ s : State, I s → I s.afterReset
  pinReset : ∀ s : State, I s → I s.pinReset
  strap : ∀ (s : State) (v : Nat), s.suc.phase = .strap → I s → I (s.takeStraps v)
  accept : ∀ (s : State) (image : List Byte) (cfg : Cfg) (levels : BitVec 32), s.suc.phase = .load →
    judgeImage image = some cfg → I s → I (s.acceptImage cfg levels)
  refuse : ∀ s : State, s.suc.phase = .load → I s → I s.refuseImage
  calibrated : ∀ s : State, s.suc.phase = .calibrate → I s → I s.fitAll.reportFitted.enterQuiet
  tick : ∀ (s : State) (supply : Bool), s.delivers = true → I s → I (s.ownTick supply)
  trip : ∀ (s : State) (c : ChannelId), s.tripDue c = true → I s → I (s.trip c)
  move : ∀ s t : State, Move s t → I s → I t

theorem moves_keep {I : State → Prop} (move : ∀ s t : State, Move s t → I s → I t) {s t : State} (h : Moves s t)
    (start : I s) : I t := by
  induction h with
  | refl => exact start
  | tail _ last ih => exact move _ _ last ih

theorem Kept.effect {I : State → Prop} (kept : Kept I) {i : Instr} {s t : State} (e : Effect i s t) (h : I s) :
    I t := by
  cases e with
  | powerOn => exact kept.powerOn s h
  | pinReset => exact kept.pinReset s h
  | strap straps due => exact kept.strap s _ (of_decide_eq_true (Bool.and_eq_true_iff.1 due).1) h
  | accept image levels cfg load accepted => exact kept.accept s image cfg levels load accepted h
  | refuse image levels load refused => exact kept.refuse s load h
  | calibrated due => exact kept.calibrated s (of_decide_eq_true (Bool.and_eq_true_iff.1 due).1) h
  | tick supply due => exact kept.tick s supply (Bool.and_eq_true_iff.1 due).1 h
  | trip c due => exact kept.trip s c due h
  | moves _ _ chain => exact moves_keep kept.move chain h

/-- What every effect and every millisecond keeps, every step keeps. -/
theorem Kept.step {I : State → Prop} (kept : Kept I) {s t : State} (h : I s) (e : step s = .next t) : I t := by
  unfold Machine.step at e
  split at e
  · exact kept.effect (effect_of_exec e) (kept.waits s _ h)
  · unfold State.idle at e
    split at e
    · exact Host.Outcome.next.inj e ▸ kept.passes s h
    · cases e

end Sys2Proof.Safety
end

section
/-! PROOFS. What the Mover Unit can do, said once. Every operation on movers and claims is a chain of acts: an entry into
a phase from the phases it is entered from, a note in a record that leaves its phase alone, or a look at the claims. -/

namespace Sys2Proof.Safety

open Sys2Proof Sys2Proof.Machine

/-- One act of a mover or of the claims, from a station in which it can come about. -/
inductive Act : State → State → Prop
  | idle {s : State} (m : MoverId) (code : RefusalCode) (r : Mover) (here : s.mover m = some r)
      (motion : r.phase.inMotion = true) : Act s (s.enterIdle m code)
  | fault {s : State} (m : MoverId) (reason : FaultReason) (r : Mover) (here : s.mover m = some r)
      (motion : r.phase.inMotion = true) (own : reason ≠ .pumpFault) : Act s (s.enterFaulted m reason)
  | request {s : State} (m : MoverId) (src : Nat) (d : Dir) (r : Mover) (here : s.mover m = some r)
      (phase : r.phase = .idle) (free : s.dirRefusal m d = none) : Act s (s.enterRequesting m src d)
  | start {s : State} (m : MoverId) (r : Mover) (here : s.mover m = some r) (phase : r.phase = .requesting) :
      Act s (s.proceed m)
  | opened {s : State} (m : MoverId) (r : Mover) (here : s.mover m = some r) (phase : r.phase = .unlocking) :
      Act s (s.enterRunning m)
  | stop {s : State} (m : MoverId) (reason : StopReason) (mark : Option Dir) (r : Mover) (here : s.mover m = some r)
      (phase : r.phase = .running) : Act s (s.enterStopping m reason mark)
  | reverse {s : State} (m : MoverId) (d : Dir) (r : Mover) (here : s.mover m = some r) (phase : r.phase = .stopping)
      (free : s.reversalRefusal m d = none) :
      Act s ((s.onMover m fun x => { x with direction := some d }).enterRunning m)
  | lock {s : State} (m : MoverId) (timer : Option Nat) (r : Mover) (here : s.mover m = some r)
      (phase : r.phase = .stopping) :
      Act s (s.onMover m fun x => { x with phase := .locking, reversal := none, timer := timer })
  | note {s : State} (m : MoverId) (f : Mover → Mover) (phase : ∀ r, (f r).phase = r.phase)
      (reason : ∀ r, (f r).faultReason = r.faultReason) (count : ∀ r, r.count ≤ 4095 → (f r).count ≤ 4095)
      (known : ∀ r, (f r).known = r.known) : Act s (s.onMover m f)
  | refuse {s : State} (m : MoverId) (code : RefusalCode) : Act s (s.refuseDrive m code)
  | clear {s : State} (m : MoverId) (r : Mover) (here : s.mover m = some r) (phase : r.phase = .faulted) :
      Act s (s.clearFault m r)
  | examine {s : State} : Act s s.examineClaims

/-- A chain of acts. -/
abbrev Acts : State → State → Prop := Relation.ReflTransGen Act

theorem Acts.none (s : State) : Acts s s := .refl
theorem Acts.of {s t : State} (h : Act s t) : Acts s t := .single h
theorem Acts.and {s t u : State} (h : Acts s t) (k : Act t u) : Acts s u := .tail h k
theorem Acts.append {s t u : State} (h : Acts s t) (k : Acts t u) : Acts s u := .trans h k

theorem Acts.ite {c : Prop} [Decidable c] {s t : State} (k : c → Acts s t) : Acts s (if c then t else s) := by
  split
  · exact k ‹c›
  · exact .none s

theorem Acts.foldl {α : Type} {f : State → α → State} (act : ∀ s a, Acts s (f s a)) (l : List α) (s : State) :
    Acts s (l.foldl f s) := by
  induction l generalizing s with
  | nil => exact .none s
  | cons a l ih => exact (act s a).append (ih _)

theorem acts_keep {I : State → Prop} (act : ∀ s t : State, Act s t → I s → I t) {s t : State} (h : Acts s t)
    (start : I s) : I t := by
  induction h with
  | refl => exact start
  | tail _ last ih => exact act _ _ last ih

/-- A note that changes neither the chain count nor what the invariants read of a record. -/
theorem Act.note_plain {s : State} (m : MoverId) (f : Mover → Mover)
    (same : ∀ r, (f r).phase = r.phase ∧ (f r).faultReason = r.faultReason ∧ (f r).count = r.count ∧
      (f r).known = r.known) : Act s (s.onMover m f) :=
  .note m f (fun r => (same r).1) (fun r => (same r).2.1) (fun r h => (same r).2.2.1.symm ▸ h)
    fun r => (same r).2.2.2

/-! ### Looking again -/

section Phase

variable {s : State} {m : MoverId} {r : Mover}

theorem acts_idle (here : s.mover m = some r) {phase : MoverPhase} (e : r.phase = phase)
    (motion : phase.inMotion = true) (code : RefusalCode) : Acts s (s.enterIdle m code) :=
  .of (.idle m code r here (e ▸ motion))

theorem acts_stop (here : s.mover m = some r) (e : r.phase = .running) (reason : StopReason) (mark : Option Dir) :
    Acts s (s.enterStopping m reason mark) := .of (.stop m reason mark r here e)

end Phase

theorem acts_react (s : State) (m : MoverId) : Acts s (s.react m) := by
  unfold State.react
  split
  · exact .none s
  · rename_i r here
    split
    · exact .of (.start m r here ‹_›)
    · split
      · exact .none s
      · exact acts_idle here ‹_› rfl _
    · exact .ite fun _ => acts_stop here ‹_› _ _
    all_goals exact .none s

theorem acts_reactAll (s : State) : Acts s s.reactAll := (acts_react s 0).append (acts_react _ 1)

theorem acts_reexamine (s : State) : Acts s s.reexamine := (Acts.of .examine).append (acts_reactAll _)

theorem acts_tickMover (s : State) (m : MoverId) : Acts s (s.tickMover m) := by
  unfold State.tickMover
  split
  · exact .none s
  · rename_i r here
    split
    · exact .of (.start m r here ‹_›)
    · split
      · exact .none s
      · exact acts_idle here ‹_› rfl _
    · split
      · exact .none s
      · exact acts_stop here ‹_› _ _
    all_goals exact .none s

theorem acts_reachEnd (s : State) (m : MoverId) : Acts s (s.reachEnd m) := by
  unfold State.reachEnd
  split
  · exact .none s
  · rename_i r here
    split
    · exact acts_idle here ‹_› rfl _
    · exact acts_idle here ‹_› rfl _
    · exact acts_stop here ‹_› _ _
    all_goals exact .none s

theorem acts_fitnessStop (s : State) (m : MoverId) : Acts s (s.fitnessStop m) := by
  unfold State.fitnessStop
  split
  · exact .none s
  · rename_i r here
    split
    · exact acts_idle here ‹_› rfl _
    · exact acts_stop here ‹_› _ _
    all_goals exact .none s

theorem acts_standbyStop (s : State) (m : MoverId) : Acts s (s.standbyStop m) := by
  unfold State.standbyStop
  split
  · exact .none s
  · rename_i r here
    split
    · exact acts_idle here ‹_› rfl _
    · exact acts_idle here ‹_› rfl _
    · exact acts_stop here ‹_› _ _
    all_goals exact .none s

theorem acts_holdExpired (s : State) (m : MoverId) : Acts s (s.holdExpired m) := by
  unfold State.holdExpired
  split
  · exact .none s
  · rename_i r here
    split
    · exact acts_idle here ‹_› rfl _
    · exact acts_idle here ‹_› rfl _
    · exact acts_stop here ‹_› _ _
    · exact .of (.note_plain m _ fun _ => ⟨rfl, rfl, rfl, rfl⟩)
    all_goals exact .none s

/-! ### Faults -/

theorem acts_faultInMotion (s : State) (m : MoverId) {reason : FaultReason} (own : reason ≠ .pumpFault) :
    Acts s (s.faultInMotion m reason) := by
  unfold State.faultInMotion
  split
  · rename_i r here
    exact .ite fun motion => .of (.fault m reason r here motion own)
  · exact .none s

theorem acts_haltMovers (s : State) : Acts s s.haltMovers :=
  Acts.foldl (fun t m => acts_faultInMotion t m (reason := .halted) nofun) allMovers s

theorem acts_judgeClash (filed : List ClaimStatus) (s : State) (m : MoverId) : Acts s (State.judgeClash filed s m) :=
  .ite fun _ => acts_faultInMotion s m (reason := .clash) nofun

/-! ### Stopping and reversing -/

theorem acts_enterLocking {s : State} {m : MoverId} {r : Mover} (here : s.mover m = some r)
    (phase : r.phase = .stopping) (code : RefusalCode) : Acts s (s.enterLocking m code) := by
  unfold State.enterLocking
  split
  · exact acts_idle here phase rfl code
  · exact .of (.lock m _ r here phase)

theorem acts_comeToRest {s : State} {m : MoverId} {r : Mover} (here : s.mover m = some r)
    (phase : r.phase = .stopping) (reason : StopReason) : Acts s (s.comeToRest m reason) := by
  unfold State.comeToRest
  split
  · have noted : Act s (s.onMover m fun r => { r with stopReason := some reason }) :=
      .note_plain m _ fun _ => ⟨rfl, rfl, rfl, rfl⟩
    refine (Acts.of noted).append (acts_enterLocking (r := { r with stopReason := some reason }) ?_ phase _)
    simp [here]
  · exact acts_idle here phase rfl _

theorem acts_dwellOver {s : State} {m : MoverId} {r : Mover} (here : s.mover m = some r) (phase : r.phase = .stopping) :
    Acts s (s.dwellOver m r) := by
  unfold State.dwellOver
  split
  · split
    · exact acts_comeToRest here phase _
    · exact .of (.reverse m _ r here phase ‹_›)
  · exact acts_comeToRest here phase _

/-! ### DRIVE -/

theorem acts_turnRequest {s : State} {m : MoverId} {r : Mover} (here : s.mover m = some r)
    (motion : r.phase.inMotion = true) (d : Dir) : Acts s (s.turnRequest m d) := by
  have turned : Acts s (s.onMover m fun r => { r with direction := some d, lastDrive := some s.now }) :=
    .of (.note_plain m _ fun _ => ⟨rfl, rfl, rfl, rfl⟩)
  unfold State.turnRequest
  dsimp only
  split
  · exact turned.and (.idle m _ { r with direction := some d, lastDrive := some s.now } (by simp [here]) motion)
  · exact turned

theorem acts_driveDir (s : State) (m : MoverId) (src : Nat) (d : Dir) : Acts s (s.driveDir m src d) := by
  have refused (code : RefusalCode) : Acts s (s.refuseDrive m code) := .of (.refuse m code)
  unfold State.driveDir
  split
  · exact .none s
  · rename_i r here
    split
    · split
      · exact .none s
      · split
        · exact refused _
        · exact .of (.request m src d r here ‹_› ‹_›)
    · exact refused _
    · exact refused _
    · split
      · exact refused _
      · split
        · exact .of (.note_plain m _ fun _ => ⟨rfl, rfl, rfl, rfl⟩)
        · exact acts_turnRequest here (by simp [*, MoverPhase.inMotion]) d
    · split
      · exact refused _
      · split
        · exact .of (.note_plain m _ fun _ => ⟨rfl, rfl, rfl, rfl⟩)
        · exact acts_turnRequest here (by simp [*, MoverPhase.inMotion]) d
    · split
      · exact refused _
      · split
        · exact .of (.note_plain m _ fun _ => ⟨rfl, rfl, rfl, rfl⟩)
        · exact (acts_stop here ‹_› _ _).and (.note_plain m _ fun _ => ⟨rfl, rfl, rfl, rfl⟩)
    · split
      · exact refused _
      · split
        · exact .none s
        · exact .of (.note_plain m _ fun _ => ⟨rfl, rfl, rfl, rfl⟩)
    · split
      · exact refused _
      · exact .none s

theorem acts_setGuard (s : State) (m : MoverId) (src : Nat) : Acts s (s.setGuard m src) :=
  .of (.note_plain m _ fun _ => ⟨rfl, rfl, rfl, rfl⟩)

theorem setGuard_mover {s : State} {m : MoverId} {r : Mover} (here : s.mover m = some r) (src : Nat) :
    (s.setGuard m src).mover m = some { r with releaseGuard := some (src, s.now + (s.moverCfg m).holdTimeout) } := by
  simp [State.setGuard, here]

theorem acts_driveStop (s : State) (m : MoverId) (src : Nat) : Acts s (s.driveStop m src) := by
  have refused : Acts s (s.refuseDrive m .busy) := .of (.refuse m .busy)
  have guarded := acts_setGuard s m src
  unfold State.driveStop
  split
  · exact .none s
  · rename_i r here
    have still := setGuard_mover here src
    split
    · exact .none s
    · exact .none s
    · exact .none s
    · split
      · exact refused
      · exact guarded.append (acts_idle still (phase := .requesting) ‹_› rfl _)
    · split
      · exact refused
      · exact guarded.append (acts_idle still (phase := .unlocking) ‹_› rfl _)
    · split
      · exact refused
      · exact guarded.append (acts_stop still ‹_› _ _)
    · split
      · exact refused
      · exact guarded.and (.note_plain m _ fun _ => ⟨rfl, rfl, rfl, rfl⟩)
    · split
      · exact refused
      · exact .none s

theorem acts_driveClear (s : State) (m : MoverId) : Acts s (s.driveClear m) := by
  unfold State.driveClear
  split
  · exact .none s
  · rename_i r here
    split
    · split
      · exact .of (.clear m r here ‹_›)
      · exact .of (.refuse m _)
    · exact .of (.refuse m _)
    all_goals exact .none s

theorem acts_deliverDrive (s : State) (src : Nat) (m : MoverId) (motion : Motion) :
    Acts s (s.deliverDrive src m motion) := by
  unfold State.deliverDrive
  split
  · exact .none s
  · split
    · cases motion with
      | dirA => exact acts_driveDir s m src .dirA
      | dirB => exact acts_driveDir s m src .dirB
      | stop => exact acts_driveStop s m src
      | clear => exact acts_driveClear s m
    · exact .of (.refuse m _)

/-! ### Inputs and readings -/

theorem acts_lockOpened (p : PinId) (s : State) (m : MoverId) : Acts s (State.lockOpened p s m) := by
  unfold State.lockOpened
  split
  · exact .none s
  · exact .ite fun on => .of (.opened m _ ‹_› on.1)

theorem acts_lockShut (p : PinId) (s : State) (m : MoverId) : Acts s (State.lockShut p s m) := by
  unfold State.lockShut
  split
  · exact .none s
  · exact .ite fun on => acts_idle ‹_› on.1 rfl _

theorem acts_endSwitch (p : PinId) (s : State) (m : MoverId) : Acts s (State.endSwitch p s m) := by
  unfold State.endSwitch
  split
  · exact .none s
  · split
    · exact .none s
    · exact .ite fun _ => acts_reachEnd s m

theorem countPulse_le (r : Mover) (h : r.count ≤ 4095) : countPulse r ≤ 4095 := by
  unfold countPulse
  split
  · omega
  · omega
  · exact Nat.min_le_left _ _

theorem acts_pulse (s : State) (m : MoverId) : Acts s (s.pulse m) := by
  refine .of (.note m _ (fun _ => rfl) (fun _ => rfl) (fun r h => ?_) fun _ => rfl)
  dsimp only
  split
  · omega
  · exact countPulse_le r h

theorem acts_countEnd (s : State) (m : MoverId) : Acts s (s.countEnd m) := by
  unfold State.countEnd
  split
  · exact .ite fun _ => acts_reachEnd s m
  · exact .none s

theorem acts_gypsy (p : PinId) (s : State) (m : MoverId) : Acts s (State.gypsy p s m) :=
  .ite fun _ => (acts_pulse s m).append (acts_countEnd _ m)

theorem acts_moverReading (s : State) (m : MoverId) (reading : Nat) : Acts s (s.moverReading m reading) := by
  refine .of (.note_plain m _ fun r => ?_)
  split <;> exact ⟨rfl, rfl, rfl, rfl⟩

theorem acts_inputNow {f : State → MoverId → State} (act : ∀ s m, Acts s (f s m)) (active : Bool) (s : State) :
    Acts s (if active then allMovers.foldl f s else s) :=
  .ite fun _ => Acts.foldl act allMovers s

end Sys2Proof.Safety
end

section
/-! PROOFS. Settles the statement that every step keeps the budget (Chapter 2). The demand list changes by an entry that
goes, an entry that is made, entries changed in place, and the allocation; each keeps Table 2-2 and what was granted. -/

namespace Sys2Proof.Safety

open Sys2Proof Sys2Proof.Machine

/-! ### Drawings of a class -/

@[simp] theorem drawn_nil (k : Fin 8) : drawn k [] = 0 := rfl

theorem drawn_cons (k : Fin 8) (d : Demand) (l : List Demand) :
    drawn k (d :: l) = (if d.cls = k then d.drawing else 0) + drawn k l := by
  unfold drawn
  by_cases h : d.cls = k <;> simp [h]

theorem drawn_perm {l r : List Demand} (h : l.Perm r) (k : Fin 8) : drawn k l = drawn k r :=
  ((h.filter _).map _).sum_eq

theorem drawn_filter_le (k : Fin 8) (p : Demand → Bool) (l : List Demand) : drawn k (l.filter p) ≤ drawn k l := by
  induction l with
  | nil => exact Nat.le_refl _
  | cons d l ih =>
    rw [List.filter_cons]
    split <;> simp only [drawn_cons] <;> omega

/-- Entries that stay in their class and draw no more. -/
theorem drawn_map_le {k : Fin 8} {f : Demand → Demand} {l : List Demand}
    (less : ∀ d ∈ l, (f d).cls = d.cls ∧ (d.cls = k → (f d).drawing ≤ d.drawing)) : drawn k (l.map f) ≤ drawn k l := by
  induction l with
  | nil => exact Nat.le_refl _
  | cons d l ih =>
    obtain ⟨cls, drawing⟩ := less d (by simp)
    have rest := ih fun e he => less e (by simp [he])
    simp only [List.map_cons, drawn_cons, cls]
    split
    · have := drawing ‹_›
      omega
    · omega

/-! ### The order of the list (R20) -/

theorem sourceOrder_lt (src : Source) : sourceOrder src < 16 := by
  cases src with
  | chan c => have := c.isLt; simp only [sourceOrder]; omega
  | mover m => have := m.isLt; simp only [sourceOrder]; omega

theorem sourceOrder_inj {a b : Source} (h : sourceOrder a = sourceOrder b) : a = b := by
  cases a with
  | chan c =>
    cases b with
    | chan e => exact congrArg _ (Fin.ext (by simpa [sourceOrder] using h))
    | mover m => have := m.isLt; simp only [sourceOrder] at h; omega
  | mover m =>
    cases b with
    | chan c => have := m.isLt; simp only [sourceOrder] at h; omega
    | mover n => exact congrArg _ (Fin.ext (by simpa [sourceOrder] using h))

/-- Entries of two sources have two places in the list, whatever their classes and ranks. -/
theorem key_ne {d e : Demand} (h : d.source ≠ e.source) : d.key ≠ e.key := by
  intro same
  refine h (sourceOrder_inj ?_)
  have := sourceOrder_lt d.source
  have := sourceOrder_lt e.source
  unfold Demand.key at same
  omega

/-! ### The invariant under changes of the budget -/

section Budget

variable {s t : State}

/-- The island timer and the profile are no part of the invariant. -/
theorem BudgetOk.keep (h : BudgetOk s) (demands : t.sbu.demands = s.sbu.demands)
    (offers : t.sbu.offers = s.sbu.offers ∨ t.sbu.offers = []) (grants : t.sbu.grants = s.sbu.grants)
    (island : t.sbu.island = s.sbu.island) : BudgetOk t where
  ordered := demands ▸ h.ordered
  once := demands ▸ h.once
  entries := demands ▸ h.entries
  offers o ho := by
    rw [demands]
    rcases offers with same | none
    · exact h.offers o (same ▸ ho)
    · rw [none] at ho; cases ho
  granted k hk := by rw [demands, grants]; exact h.granted k hk
  island out := by
    rw [demands]
    obtain ⟨none, rest⟩ := h.island (by simpa [State.inIsland, island] using out)
    exact ⟨offers.elim (fun same => same.trans none) id, rest⟩
  line out := by rw [demands]; exact h.line (by simpa [State.inIsland, island] using out)

theorem BudgetOk.congr (h : BudgetOk s) (same : t.sbu = s.sbu) : BudgetOk t :=
  h.keep (by rw [same]) (.inl (by rw [same])) (by rw [same]) (by rw [same])

/-- Entries changed in place: what is to be shown of each. -/
theorem BudgetOk.map (h : BudgetOk s) {f : Demand → Demand} (demands : t.sbu.demands = s.sbu.demands.map f)
    (place : ∀ d, (f d).source = d.source ∧ (f d).cls = d.cls ∧ (f d).rank = d.rank)
    (entries : ∀ d ∈ s.sbu.demands, EntryOk (f d))
    (less : ∀ d ∈ s.sbu.demands, d.cls ≠ 0 → (f d).drawing ≤ d.drawing) (grants : t.sbu.grants = s.sbu.grants)
    (offers : t.sbu.offers = s.sbu.offers ∨ t.sbu.offers = [])
    (island : t.inIsland = true → t.sbu.offers = [] ∧ ∀ d ∈ s.sbu.demands, (f d).pending = none ∧
      (d.cls ≠ 0 → ∃ c, (f d).ceiling = some c ∧ (f d).settled = min (f d).want c))
    (line : t.inIsland = false → ∀ d ∈ s.sbu.demands, (f d).ceiling = none) : BudgetOk t where
  ordered := by
    have key : ∀ d, (f d).key = d.key := fun d => by
      obtain ⟨source, cls, rank⟩ := place d
      simp only [Demand.key, source, cls, rank]
    rw [demands, List.pairwise_map]
    simpa only [key] using h.ordered
  once := by
    rw [demands, List.map_map]
    exact (List.map_congr_left fun d _ => (place d).1) ▸ h.once
  entries := by rw [demands, List.forall_mem_map]; exact entries
  offers o ho := by
    rw [demands, List.forall_mem_map]
    intro d hd same
    obtain ⟨source, cls, -⟩ := place d
    rw [cls]
    rcases offers with old | none
    · exact h.offers o (old ▸ ho) d hd (source ▸ same)
    · rw [none] at ho; cases ho
  granted k hk := by
    rw [demands, grants]
    refine (drawn_map_le fun d hd => ⟨(place d).2.1, fun e => less d hd (e ▸ hk)⟩).trans (h.granted k hk)
  island out := by
    obtain ⟨none, each⟩ := island out
    rw [demands, List.forall_mem_map, List.forall_mem_map]
    refine ⟨none, fun d hd => (each d hd).1, fun d hd => ?_⟩
    rw [(place d).2.1]
    exact (each d hd).2
  line out := by rw [demands, List.forall_mem_map]; exact line out

/-- The entry of one source changed in place, in or out of island mode as it was. -/
theorem BudgetOk.mapSource (h : BudgetOk s) {f : Demand → Demand} {src : Source}
    (place : ∀ d, (f d).source = d.source ∧ (f d).cls = d.cls ∧ (f d).rank = d.rank)
    (entries : ∀ d ∈ s.sbu.demands, d.source = src → EntryOk (f d))
    (less : ∀ d ∈ s.sbu.demands, d.cls ≠ 0 → (f d).drawing ≤ d.drawing)
    (island : ∀ d ∈ s.sbu.demands, d.source = src → s.inIsland = true → (f d).pending = none ∧
      (d.cls ≠ 0 → ∃ c, (f d).ceiling = some c ∧ (f d).settled = min (f d).want c))
    (ceiling : ∀ d, (f d).ceiling = d.ceiling) :
    BudgetOk (s.setDemands (mapSource src f s.sbu.demands)) := by
  refine h.map (f := fun d => if d.source = src then f d else d) rfl (fun d => ?_) (fun d hd => ?_) (fun d hd cls => ?_)
    rfl (.inl rfl) (fun out => ?_) fun out d hd => ?_
  · split
    · exact place d
    · exact ⟨rfl, rfl, rfl⟩
  · split
    · exact entries d hd ‹_›
    · exact h.entries d hd
  · split
    · exact less d hd cls
    · exact Nat.le_refl _
  · obtain ⟨none, pending, settled⟩ := h.island out
    refine ⟨none, fun d hd => ?_⟩
    split
    · exact island d hd ‹_› out
    · exact ⟨pending d hd, settled d hd⟩
  · have none := h.line out d hd
    split
    · rw [ceiling, none]
    · exact none

/-! ### Entries that go and entries that are made (R21, R37) -/

theorem BudgetOk.removeEntry (h : BudgetOk s) (src : Source) : BudgetOk (s.removeEntry src) := by
  have sub : (s.removeEntry src).sbu.demands.Sublist s.sbu.demands := List.filter_sublist
  exact
    { ordered := h.ordered.sublist sub
      once := h.once.sublist (sub.map _)
      entries := fun d hd => h.entries d (sub.subset hd)
      offers := fun o ho d hd => h.offers o (List.mem_of_mem_filter ho) d (sub.subset hd)
      granted := fun k hk => (drawn_filter_le k _ _).trans (h.granted k hk)
      island := fun out => by
        obtain ⟨none, pending, settled⟩ := h.island out
        exact ⟨by show List.filter _ s.sbu.offers = []; rw [none]; rfl, fun d hd => pending d (sub.subset hd),
          fun d hd => settled d (sub.subset hd)⟩
      line := fun out d hd => h.line out d (sub.subset hd) }

theorem removeEntry_source (s : State) (src : Source) : ∀ d ∈ (s.removeEntry src).sbu.demands, d.source ≠ src := by
  intro d hd
  simpa using (List.mem_filter.1 hd).2

theorem newDemand_place (island : Bool) (src : Source) (cls : Fin 8) (rank want : Nat) :
    (newDemand island src cls rank want).source = src ∧ (newDemand island src cls rank want).cls = cls := by
  unfold newDemand
  split
  · exact ⟨rfl, rfl⟩
  · exact ⟨rfl, rfl⟩

theorem newDemand_entryOk (island : Bool) (src : Source) (cls : Fin 8) (rank want : Nat) :
    EntryOk (newDemand island src cls rank want) := by
  unfold newDemand
  split
  · rename_i essential
    exact (if_pos essential).mpr ⟨rfl, rfl, rfl⟩
  · rename_i lower
    exact (if_neg lower).mpr ⟨Nat.le_refl _, Nat.zero_le _, nofun, fun _ _ => Nat.zero_le _⟩

/-- An entry of classes 1-7 starts with no drawing (R21). -/
theorem newDemand_drawing {cls : Fin 8} (lower : cls ≠ 0) (island : Bool) (src : Source) (rank want : Nat) :
    (newDemand island src cls rank want).drawing = 0 := by
  unfold newDemand
  rw [if_neg lower]

theorem newDemand_island (src : Source) (cls : Fin 8) (rank want : Nat) :
    (newDemand true src cls rank want).pending = none ∧ (cls ≠ 0 → ∃ c, (newDemand true src cls rank want).ceiling =
      some c ∧ (newDemand true src cls rank want).settled = min (newDemand true src cls rank want).want c) := by
  unfold newDemand
  split
  · exact ⟨rfl, fun lower => absurd ‹_› lower⟩
  · exact ⟨rfl, fun _ => ⟨0, rfl, (Nat.min_zero _).symm⟩⟩

theorem newDemand_line (src : Source) (cls : Fin 8) (rank want : Nat) :
    (newDemand false src cls rank want).ceiling = none := by
  unfold newDemand
  split <;> rfl

theorem BudgetOk.createEntry (h : BudgetOk s) (src : Source) (cls : Fin 8) (rank want : Nat) :
    BudgetOk (s.createEntry src cls rank want) := by
  have gone := h.removeEntry src
  have other := removeEntry_source s src
  obtain ⟨source, sameClass⟩ := newDemand_place s.inIsland src cls rank want
  have perm := insertDemand_perm (newDemand s.inIsland src cls rank want) (s.removeEntry src).sbu.demands
  have mem : ∀ {P : Demand → Prop}, P (newDemand s.inIsland src cls rank want) →
      (∀ d ∈ (s.removeEntry src).sbu.demands, P d) → ∀ d ∈ (s.createEntry src cls rank want).sbu.demands, P d := by
    intro P new old d hd
    rcases (mem_insertDemand _ _ _).1 hd with rfl | hd
    · exact new
    · exact old d hd
  exact
    { ordered := insertDemand_ordered _ _ gone.ordered fun d hd =>
        key_ne fun same => other d hd (same.trans source)
      once := by
        refine (perm.map _).nodup_iff.2 (List.nodup_cons.2 ⟨fun hd => ?_, gone.once⟩)
        obtain ⟨d, hd, same⟩ := List.mem_map.1 hd
        exact other d hd (same.trans source)
      entries := mem (newDemand_entryOk _ _ _ _ _) gone.entries
      offers := fun o ho => mem (fun same => absurd (same.symm.trans source) (by simpa using (List.mem_filter.1 ho).2))
        (gone.offers o ho)
      granted := fun k hk => by
        refine (drawn_perm perm k).le.trans ?_
        rw [drawn_cons, sameClass]
        split
        · rename_i e
          rw [newDemand_drawing (e ▸ hk), Nat.zero_add]
          exact gone.granted k hk
        · rw [Nat.zero_add]
          exact gone.granted k hk
      island := fun out => by
        have out : s.inIsland = true := out
        obtain ⟨none, pending, settled⟩ := gone.island out
        obtain ⟨newPending, newSettled⟩ := newDemand_island src cls rank want
        rw [← out] at newPending newSettled
        exact ⟨none, mem newPending pending, mem (fun lower => newSettled (sameClass ▸ lower)) settled⟩
      line := fun out => by
        have out : s.inIsland = false := out
        exact mem (out ▸ newDemand_line src cls rank want) (gone.line out) }

/-! ### Entries that change (R22, R31, R32, R35, R38) -/

theorem changeWant_place (island : Bool) (want : Nat) (d : Demand) :
    (changeWant island want d).source = d.source ∧ (changeWant island want d).cls = d.cls ∧
      (changeWant island want d).rank = d.rank := by
  unfold changeWant
  split <;> [exact ⟨rfl, rfl, rfl⟩; split <;> exact ⟨rfl, rfl, rfl⟩]

theorem changeWant_ceiling (island : Bool) (want : Nat) (d : Demand) :
    (changeWant island want d).ceiling = d.ceiling := by
  unfold changeWant
  split <;> [rfl; split <;> rfl]

theorem changeWant_drawing_le {d : Demand} (lower : d.cls ≠ 0) (island : Bool) (want : Nat) :
    (changeWant island want d).drawing ≤ d.drawing := by
  unfold changeWant
  rw [if_neg lower]
  split
  · exact Nat.min_le_left _ _
  · exact Nat.le_refl _

theorem entryOk_essential {d : Demand} (essential : d.cls = 0) :
    EntryOk d ↔ d.settled = d.want ∧ d.drawing = d.want ∧ d.pending = none := by simp [EntryOk, essential]

theorem entryOk_lower {d : Demand} (lower : d.cls ≠ 0) :
    EntryOk d ↔ d.drawing ≤ d.settled ∧ d.settled ≤ d.want ∧
      (∀ x, d.pending = some x → d.settled < x.1 ∧ x.1 ≤ d.want) ∧ (∀ c, d.ceiling = some c → d.drawing ≤ c) := by
  simp [EntryOk, lower]

/-- A pending amount after a decrease stays above Sd and at most W (R22). -/
theorem lowerPending_some {want sd : Nat} {pending : Option (Nat × Nat)} {x : Nat × Nat}
    (h : lowerPending want sd pending = some x) : sd < x.1 ∧ x.1 ≤ want := by
  unfold lowerPending at h
  split at h
  · split at h
    · cases h
      exact ⟨‹_›, Nat.min_le_right _ _⟩
    · cases h
  · cases h

/-- What island mode asks of one entry (R35, R36). -/
def Islanded (d : Demand) : Prop := d.pending = none ∧ (d.cls ≠ 0 → ∃ c, d.ceiling = some c ∧ d.settled = min d.want c)

theorem BudgetOk.islanded (h : BudgetOk s) (out : s.inIsland = true) {d : Demand} (hd : d ∈ s.sbu.demands) :
    Islanded d := by
  obtain ⟨-, pending, settled⟩ := h.island out
  exact ⟨pending d hd, settled d hd⟩

theorem changeWant_islanded {d : Demand} (h : Islanded d) (want : Nat) : Islanded (changeWant true want d) := by
  obtain ⟨pending, settled⟩ := h
  unfold changeWant
  split
  · exact ⟨pending, fun lower => absurd ‹_› lower⟩
  · rename_i lower
    obtain ⟨c, ceiling, sd⟩ := settled lower
    split
    · refine ⟨by rw [pending]; rfl, fun _ => ⟨c, ceiling, ?_⟩⟩
      show min d.settled want = min want c
      omega
    · exact ⟨pending, fun _ => ⟨c, ceiling, by simp [ceiling]⟩⟩

theorem changeWant_entryOk {d : Demand} (h : EntryOk d) {island : Bool} (islanded : island = true → Islanded d)
    (want : Nat) : EntryOk (changeWant island want d) := by
  have cls := (changeWant_place island want d).2.1
  by_cases essential : d.cls = 0
  · rw [entryOk_essential (cls.trans essential)]
    obtain ⟨-, -, pending⟩ := (entryOk_essential essential).1 h
    simp [changeWant, essential, pending]
  · rw [entryOk_lower (cls ▸ essential)]
    obtain ⟨drawing, settled, pending, ceiling⟩ := (entryOk_lower essential).1 h
    unfold changeWant
    rw [if_neg essential]
    split
    · exact ⟨Nat.min_le_right _ _, Nat.min_le_right _ _, fun x => lowerPending_some,
        fun c e => (Nat.min_le_left _ _).trans (ceiling c e)⟩
    · cases island with
      | false =>
        simp only [Bool.false_eq_true, if_false]
        exact ⟨drawing, by omega, fun x e => by have := pending x e; omega, ceiling⟩
      | true =>
        obtain ⟨none, settled'⟩ := islanded rfl
        obtain ⟨c, cap, sd⟩ := settled' essential
        have := ceiling c cap
        simp only [cap, Option.getD_some, if_true]
        exact ⟨by omega, Nat.min_le_left _ _, fun x e => (Option.some_ne_none x (e.symm.trans none)).elim,
          fun _ e => ceiling _ (cap.trans e)⟩

theorem BudgetOk.changeEntry (h : BudgetOk s) (src : Source) (want : Nat) : BudgetOk (s.changeEntry src want) := by
  refine h.mapSource (changeWant_place _ want) (fun d hd _ => ?_) (fun d _ lower => changeWant_drawing_le lower _ want)
    (fun d hd _ out => ?_) (changeWant_ceiling _ want)
  · exact changeWant_entryOk (h.entries d hd) (fun out => h.islanded out hd) want
  · rw [out, ← (changeWant_place true want d).2.1]
    exact changeWant_islanded (h.islanded out hd) want

/-- An offer taken becomes a pending amount of its entry, which is of classes 1-7 (R30, R31). -/
theorem BudgetOk.pend (h : BudgetOk s) {o : Source × Nat} (offered : o ∈ s.sbu.offers) (now : Nat) :
    BudgetOk (s.setDemands (pend now s.sbu.demands o)) := by
  have outside : s.inIsland ≠ true := fun out => by
    rw [(h.island out).1] at offered
    cases offered
  refine h.mapSource (fun d => ?_) (fun d hd source => ?_) (fun d _ _ => ?_) (fun d _ _ out => absurd out outside)
    fun d => ?_
  · split <;> exact ⟨rfl, rfl, rfl⟩
  · split
    · rename_i above
      have lower : d.cls ≠ 0 := h.offers o offered d hd source
      obtain ⟨drawing, settled, -, ceiling⟩ := (entryOk_lower lower).1 (h.entries d hd)
      refine (entryOk_lower (d := { d with pending := some (min o.2 d.want, now) }) lower).2
        ⟨drawing, settled, ?_, ceiling⟩
      rintro _ ⟨rfl⟩
      exact ⟨above, Nat.min_le_right _ _⟩
    · exact h.entries d hd
  · split <;> exact Nat.le_refl _
  · split <;> rfl

theorem BudgetOk.takeOffers (h : BudgetOk s) : BudgetOk s.takeOffers := by
  have pended : ∀ (l : List (Source × Nat)) (u : State), BudgetOk u → (∀ o ∈ l, o ∈ u.sbu.offers) →
      BudgetOk (u.setDemands (l.foldl (Machine.pend s.now) u.sbu.demands)) := by
    intro l
    induction l with
    | nil => exact fun u hu _ => hu.congr rfl
    | cons o l ih =>
      intro u hu held
      exact ih _ (hu.pend (held o (by simp)) s.now) fun x hx => held x (by simp [hx])
  exact (pended s.sbu.offers s h fun _ ho => ho).keep rfl (.inr rfl) rfl rfl

theorem settleEntry_cases (now q : Nat) (d : Demand) :
    settleEntry now q d = d ∨ ∃ x, d.pending = some x ∧ settleEntry now q d = { d with settled := x.1, pending := none } := by
  unfold settleEntry
  split
  · split
    · exact .inr ⟨_, ‹_›, rfl⟩
    · exact .inl rfl
  · exact .inl rfl

theorem BudgetOk.settle (h : BudgetOk s) (src : Source) (now q : Nat) :
    BudgetOk (s.setDemands (Machine.mapSource src (settleEntry now q) s.sbu.demands)) := by
  refine h.mapSource (fun d => ?_) (fun d hd _ => ?_) (fun d _ _ => ?_) (fun d hd _ out => ?_) fun d => ?_
  · obtain e | ⟨x, -, e⟩ := settleEntry_cases now q d <;> rw [e] <;> exact ⟨rfl, rfl, rfl⟩
  · obtain e | ⟨x, pending, e⟩ := settleEntry_cases now q d
    · rw [e]
      exact h.entries d hd
    · rw [e]
      have lower : d.cls ≠ 0 := fun essential => by
        have := ((entryOk_essential essential).1 (h.entries d hd)).2.2
        exact Option.some_ne_none x (pending.symm.trans this)
      obtain ⟨drawing, settled, above, ceiling⟩ := (entryOk_lower lower).1 (h.entries d hd)
      have := above x pending
      exact (entryOk_lower (d := { d with settled := x.1, pending := none }) lower).2
        ⟨by dsimp only; omega, this.2, nofun, ceiling⟩
  · obtain e | ⟨x, -, e⟩ := settleEntry_cases now q d <;> rw [e]
  · obtain ⟨none, settled⟩ := h.islanded out hd
    obtain e | ⟨x, pending, -⟩ := settleEntry_cases now q d
    · rw [e]
      exact ⟨none, settled⟩
    · exact (Option.some_ne_none x (pending.symm.trans none)).elim
  · obtain e | ⟨x, -, e⟩ := settleEntry_cases now q d <;> rw [e]

/-- An entry of the list draws at most its Sd and its Sd is at most its W, in every class. -/
theorem EntryOk.drawing_le {d : Demand} (h : EntryOk d) : d.drawing ≤ d.settled ∧ d.settled ≤ d.want := by
  by_cases essential : d.cls = 0
  · obtain ⟨settled, drawing, -⟩ := (entryOk_essential essential).1 h
    omega
  · obtain ⟨drawing, settled, -⟩ := (entryOk_lower essential).1 h
    exact ⟨drawing, settled⟩

/-- An entry limited to its drawing stays within Table 2-2 (R35, R38). -/
theorem EntryOk.limited {d e : Demand} (h : EntryOk d) (settled : e.settled = d.drawing) (pending : e.pending = none)
    (same : e.cls = d.cls ∧ e.want = d.want ∧ e.drawing = d.drawing)
    (cap : ∀ c, e.ceiling = some c → d.drawing ≤ c) : EntryOk e := by
  obtain ⟨cls, want, drawing⟩ := same
  have le := h.drawing_le
  by_cases essential : d.cls = 0
  · obtain ⟨-, full, -⟩ := (entryOk_essential essential).1 h
    rw [entryOk_essential (cls.trans essential), settled, want, drawing]
    exact ⟨full, full, pending⟩
  · rw [entryOk_lower (cls ▸ essential), settled, want, drawing, pending]
    exact ⟨Nat.le_refl _, le.1.trans le.2, nofun, cap⟩

theorem BudgetOk.enterIsland (h : BudgetOk s) (cause : IslandCause) : BudgetOk (s.enterIsland cause) := by
  have limited : ∀ d ∈ s.sbu.demands, min d.want d.drawing = d.drawing := fun d hd => by
    have := (h.entries d hd).drawing_le
    omega
  have sbu : (s.enterIsland cause).sbu =
      { s.sbu with demands := s.sbu.demands.map islandEntry, offers := [], island := some cause } := by
    unfold State.enterIsland
    rw [State.raiseCond_sbu]
  refine h.map (f := islandEntry) (by rw [sbu]) (fun _ => ⟨rfl, rfl, rfl⟩) (fun d hd => ?_) (fun _ _ _ => Nat.le_refl _)
    (by rw [sbu]) (.inr (by rw [sbu])) (fun _ => ⟨by rw [sbu], fun d _ => ⟨rfl, fun _ => ⟨d.drawing, rfl, rfl⟩⟩⟩)
    fun out => ?_
  · exact (h.entries d hd).limited (limited d hd) rfl ⟨rfl, rfl, rfl⟩ fun c e => by cases e; exact Nat.le_refl _
  · simp [State.inIsland, sbu] at out

theorem BudgetOk.leaveIsland (h : BudgetOk s) : BudgetOk s.leaveIsland := by
  unfold State.leaveIsland
  split
  · rename_i timer
    have out : s.inIsland = true := by simp [State.inIsland, timer]
    obtain ⟨none, pending, -⟩ := h.island out
    refine h.map (f := islandLeave) (by rw [State.clearFlag_sbu]) (fun _ => ⟨rfl, rfl, rfl⟩) (fun d hd => ?_)
      (fun _ _ _ => Nat.le_refl _) (by rw [State.clearFlag_sbu]) (.inl (by rw [State.clearFlag_sbu])) (fun back => ?_)
      fun _ _ _ => rfl
    · exact (h.entries d hd).limited rfl (pending d hd) ⟨rfl, rfl, rfl⟩ nofun
    · simp [State.inIsland] at back
  · exact h.keep rfl (.inl rfl) rfl rfl

/-! ### Composing and emptying the queue (R30) -/

theorem BudgetOk.compose (h : BudgetOk s) : BudgetOk s.compose := by
  refine iteInduction (fun _ => ?_) fun _ => h
  refine ⟨h.ordered, h.once, h.entries, fun o ho d hd source => ?_, h.granted, fun out => ?_, h.line⟩
  · simp only [State.offersNow] at ho
    split at ho
    · cases ho
    · obtain ⟨e, he, rfl⟩ := List.mem_map.1 ho
      obtain ⟨he, off⟩ := List.mem_filter.1 he
      have same : e = d := List.inj_on_of_nodup_map h.once he hd source.symm
      simp only [offered, Bool.and_eq_true, decide_eq_true_eq] at off
      exact same ▸ off.1.1
  · obtain ⟨-, rest⟩ := h.island out
    have out : s.inIsland = true := out
    exact ⟨by simp [State.offersNow, out], rest⟩

/-! ### The allocation (R28) -/

theorem share_le (cfg : Cfg) (r : Nat) (d : Demand) :
    share cfg r d ≤ r ∧ share cfg r d ≤ d.settled ∧ ∀ c, d.ceiling = some c → share cfg r d ≤ c := by
  have base : (if takesPart cfg d.source then min r d.settled
      else if d.settled = d.want && decide (d.want ≤ r) then d.settled else 0) ≤ min r d.settled := by
    split
    · exact Nat.le_refl _
    · split
      · rename_i full
        simp only [Bool.and_eq_true, decide_eq_true_eq] at full
        omega
      · exact Nat.zero_le _
  unfold share
  dsimp only
  split
  · rename_i c ceiling
    refine ⟨by omega, by omega, fun x e => ?_⟩
    rw [ceiling] at e
    cases e
    exact Nat.min_le_right _ _
  · rename_i none
    exact ⟨by omega, by omega, fun x e => (Option.some_ne_none x (e.symm.trans none)).elim⟩

/-- The entry an allocation makes of an entry, by what its class has left. -/
def allocated (cfg : Cfg) (r : Nat) (d : Demand) : Demand :=
  if d.cls = 0 then { d with settled := d.want, drawing := d.want } else { d with drawing := share cfg r d }

theorem allocate_cons (cfg : Cfg) (g : Vector Nat 8) (d : Demand) (l : List Demand) :
    ∃ g' : Vector Nat 8, allocate cfg g (d :: l) = allocated cfg g[d.cls] d :: allocate cfg g' l ∧
      ∀ k : Fin 8, g'[k] = if d.cls ≠ 0 ∧ k = d.cls then g[k] - share cfg g[k] d else g[k] := by
  by_cases lower : d.cls = 0
  · exact ⟨g, by simp [allocate, allocated, lower], fun k => by simp [lower]⟩
  · refine ⟨g.set d.cls (g[d.cls] - share cfg g[d.cls] d), by simp [allocate, allocated, lower], fun k => ?_⟩
    have := set_get g d.cls k (g[d.cls] - share cfg g[d.cls] d)
    by_cases e : k = d.cls
    · subst e; simp [lower]
    · rw [if_neg fun x => e x.2]
      simpa [e] using this

/-- Every entry of an allocation is made of one of the list, with what its class had left. -/
theorem mem_allocate {cfg : Cfg} {e : Demand} {l : List Demand} {g : Vector Nat 8} (h : e ∈ allocate cfg g l) :
    ∃ d ∈ l, ∃ r, e = allocated cfg r d := by
  induction l generalizing g with
  | nil => cases h
  | cons d l ih =>
    obtain ⟨g', same, -⟩ := allocate_cons cfg g d l
    rw [same] at h
    rcases List.mem_cons.1 h with rfl | h
    · exact ⟨d, by simp, _, rfl⟩
    · obtain ⟨d', hd, r, rfl⟩ := ih h
      exact ⟨d', by simp [hd], r, rfl⟩

/-- What the allocation does not move of an entry stands, in the list's order. -/
theorem allocate_view {α : Type} (view : Demand → α) (same : ∀ cfg r d, view (allocated cfg r d) = view d) (cfg : Cfg)
    (l : List Demand) (g : Vector Nat 8) : (allocate cfg g l).map view = l.map view := by
  induction l generalizing g with
  | nil => rfl
  | cons d l ih =>
    obtain ⟨g', e, -⟩ := allocate_cons cfg g d l
    rw [e, List.map_cons, List.map_cons, ih, same]

theorem allocated_place (cfg : Cfg) (r : Nat) (d : Demand) :
    (allocated cfg r d).source = d.source ∧ (allocated cfg r d).cls = d.cls ∧ (allocated cfg r d).rank = d.rank ∧
      (allocated cfg r d).want = d.want ∧ (allocated cfg r d).pending = d.pending ∧
      (allocated cfg r d).ceiling = d.ceiling := by
  unfold allocated
  split <;> exact ⟨rfl, rfl, rfl, rfl, rfl, rfl⟩

theorem allocated_key (cfg : Cfg) (r : Nat) (d : Demand) : (allocated cfg r d).key = d.key := by
  obtain ⟨source, cls, rank, -⟩ := allocated_place cfg r d
  simp only [Demand.key, source, cls, rank]

theorem allocated_settled {d : Demand} (lower : d.cls ≠ 0) (cfg : Cfg) (r : Nat) :
    (allocated cfg r d).settled = d.settled := by
  unfold allocated
  rw [if_neg lower]

theorem allocated_entryOk {d : Demand} (h : EntryOk d) (cfg : Cfg) (r : Nat) : EntryOk (allocated cfg r d) := by
  have cls := (allocated_place cfg r d).2.1
  by_cases essential : d.cls = 0
  · rw [entryOk_essential (cls.trans essential)]
    obtain ⟨-, -, pending⟩ := (entryOk_essential essential).1 h
    simp [allocated, essential, pending]
  · rw [entryOk_lower (cls ▸ essential)]
    obtain ⟨-, settled, pending, -⟩ := (entryOk_lower essential).1 h
    obtain ⟨-, le, cap⟩ := share_le cfg r d
    unfold allocated
    rw [if_neg essential]
    exact ⟨le, settled, pending, cap⟩

/-- The drawings of a class above 0 stay within its grant, each taking from what the earlier ones leave (R28). -/
theorem drawn_allocate_le (cfg : Cfg) {k : Fin 8} (lower : k ≠ 0) (l : List Demand) (g : Vector Nat 8) :
    drawn k (allocate cfg g l) ≤ g[k] := by
  induction l generalizing g with
  | nil => exact Nat.zero_le _
  | cons d l ih =>
    obtain ⟨g', e, left⟩ := allocate_cons cfg g d l
    have rest := ih g'
    rw [left k] at rest
    rw [e, drawn_cons, (allocated_place cfg _ d).2.1]
    by_cases same : d.cls = k
    · subst same
      rw [if_pos ⟨lower, rfl⟩] at rest
      have := (share_le cfg g[d.cls] d).1
      have drawing : (allocated cfg g[d.cls] d).drawing = share cfg g[d.cls] d := by
        unfold allocated
        rw [if_neg lower]
      rw [if_pos rfl, drawing]
      omega
    · rw [if_neg fun x => same x.2.symm] at rest
      rw [if_neg same, Nat.zero_add]
      exact rest

theorem budgetTick_sbu (s : State) : s.budgetTick.sbu =
    { s.sbu with grants := s.computeGrants, demands := allocate s.cfg s.computeGrants s.sbu.demands } := by
  unfold State.budgetTick
  dsimp only
  rw [State.reportCond_sbu, State.reportCond_cfg]

theorem BudgetOk.budgetTick (h : BudgetOk s) : BudgetOk s.budgetTick := by
  have demands : s.budgetTick.sbu.demands = allocate s.cfg s.computeGrants s.sbu.demands := by rw [budgetTick_sbu]
  have offers : s.budgetTick.sbu.offers = s.sbu.offers := by rw [budgetTick_sbu]
  have island : s.budgetTick.inIsland = s.inIsland := by unfold State.inIsland; rw [budgetTick_sbu]
  have grants : s.budgetTick.sbu.grants = s.computeGrants := by rw [budgetTick_sbu]
  have mem : ∀ {P : Demand → Prop}, (∀ d ∈ s.sbu.demands, ∀ r, P (allocated s.cfg r d)) →
      ∀ e ∈ s.budgetTick.sbu.demands, P e := by
    intro P each e he
    rw [demands] at he
    obtain ⟨d, hd, r, rfl⟩ := mem_allocate he
    exact each d hd r
  exact
    { ordered := by
        rw [demands, ← List.pairwise_map (f := Demand.key) (R := (· < ·)), allocate_view _ allocated_key,
          List.pairwise_map]
        exact h.ordered
      once := by
        rw [demands, allocate_view _ fun cfg r d => (allocated_place cfg r d).1]
        exact h.once
      entries := mem fun d hd r => allocated_entryOk (h.entries d hd) _ r
      offers := fun o ho => mem fun d hd r source => by
        obtain ⟨same, cls, -⟩ := allocated_place s.cfg r d
        rw [cls]
        exact h.offers o (offers ▸ ho) d hd (same ▸ source)
      granted := fun k hk => by
        rw [demands, grants]
        exact drawn_allocate_le s.cfg hk _ _
      island := fun out => by
        rw [island] at out
        refine ⟨offers.trans (h.island out).1, mem fun d hd r => ?_, mem fun d hd r lower => ?_⟩
        · obtain ⟨-, -, -, -, pending, -⟩ := allocated_place s.cfg r d
          exact pending.trans (h.islanded out hd).1
        · obtain ⟨-, cls, -, want, -, ceiling⟩ := allocated_place s.cfg r d
          rw [cls] at lower
          rw [want, ceiling, allocated_settled lower]
          exact (h.islanded out hd).2 lower
      line := fun out => mem fun d hd r => by
        obtain ⟨-, -, -, -, -, ceiling⟩ := allocated_place s.cfg r d
        exact ceiling.trans (h.line (island ▸ out) d hd) }

/-! ### Every step -/

theorem enterIdle_sbu (s : State) (m : MoverId) (code : RefusalCode) :
    (s.enterIdle m code).sbu = (s.removeEntry (.mover m)).sbu := by
  unfold State.enterIdle
  rw [State.lookAgain_sbu, State.releaseClaim_sbu]
  rfl

theorem enterFaulted_sbu (s : State) (m : MoverId) (reason : FaultReason) :
    (s.enterFaulted m reason).sbu = (s.removeEntry (.mover m)).sbu := by
  unfold State.enterFaulted
  rw [State.lookAgain_sbu, State.reportReason_sbu, State.releaseClaim_sbu]
  rfl

theorem enterRequesting_sbu (s : State) (m : MoverId) (src : Nat) (d : Dir) :
    (s.enterRequesting m src d).sbu =
      (s.createEntry (.mover m) (s.moverCfg m).cls (s.moverCfg m).rank (s.moverCfg m).runRating).sbu := by
  unfold State.enterRequesting
  rw [State.lookAgain_sbu, State.newIntent_sbu]
  rfl

theorem BudgetOk.enterFaulted (h : BudgetOk s) (m : MoverId) (reason : FaultReason) :
    BudgetOk (s.enterFaulted m reason) := (h.removeEntry _).congr (enterFaulted_sbu s m reason)

theorem BudgetOk.act (a : Act s t) (h : BudgetOk s) : BudgetOk t := by
  cases a with
  | idle m code => exact (h.removeEntry _).congr (enterIdle_sbu s m code)
  | fault m reason => exact h.enterFaulted m reason
  | request m src d => exact (h.createEntry _ _ _ _).congr (enterRequesting_sbu s m src d)
  | start m | opened m | stop m | reverse m | lock m | note m | refuse m | clear m | examine => exact h.congr (by simp)

theorem BudgetOk.acts (h : BudgetOk s) (a : Acts s t) : BudgetOk t := acts_keep (fun _ _ => BudgetOk.act) a h

theorem BudgetOk.judgeFitness (h : BudgetOk s) : BudgetOk s.judgeFitness := by
  refine iteInduction (fun _ => ?_) fun _ => h
  split
  · refine iteInduction (fun _ => ?_) fun _ => h
    have cleared : BudgetOk (s.clearFlag .lineUnfit).leaveIsland := BudgetOk.leaveIsland (h.congr (by simp))
    have windows := foldl_keeps State.sbu _ State.restartWindow_sbu allMovers (s.clearFlag .lineUnfit).leaveIsland
    exact (cleared.congr windows).acts (acts_reactAll _)
  · refine iteInduction (fun _ => h) fun _ => ?_
    have stopped : BudgetOk (allMovers.foldl State.fitnessStop (s.raiseCond .lineUnfit)) :=
      (h.congr (by simp)).acts (Acts.foldl acts_fitnessStop allMovers _)
    exact stopped.keep rfl (.inl rfl) rfl rfl

theorem BudgetOk.raiseHalt (h : BudgetOk s) (k : FaultKind) : BudgetOk (s.raiseHalt k) :=
  iteInduction (fun _ => h) fun _ => (h.congr (by simp)).acts (acts_haltMovers _)

theorem BudgetOk.raiseTwin (h : BudgetOk s) : BudgetOk s.raiseTwin := by
  refine iteInduction (fun _ => h) fun _ => ?_
  have emptied : BudgetOk s.emptyQueue := h.keep rfl (.inr rfl) rfl rfl
  exact (emptied.raiseHalt .twin).enterIsland .twin

theorem BudgetOk.alignEntry (h : BudgetOk s) (c : ChannelId) (old new : Nat) : BudgetOk (s.alignEntry c old new) := by
  unfold State.alignEntry
  dsimp only
  split
  · exact h
  · split
    · exact h.removeEntry _
    · split
      · exact h.createEntry _ _ _ _
      · exact h.changeEntry _ _

theorem BudgetOk.applyLevel (h : BudgetOk s) (c : ChannelId) (level : Nat) : BudgetOk (s.applyLevel c level) := by
  have taken (f : Channel → Channel) (old new : Nat) :
      BudgetOk (((s.onChannel c f).alignEntry c old new).refreshChannel c) :=
    (BudgetOk.alignEntry (s := s.onChannel c f) (h.congr rfl) c old new).congr (by simp)
  unfold State.applyLevel
  dsimp only
  split
  · exact h
  · exact h
  · split
    · exact h
    · exact taken _ _ _
  · exact taken _ _ _

theorem trip_sbu (s : State) (c : ChannelId) : (s.trip c).sbu = (s.removeEntry (.chan c)).sbu := by
  unfold State.trip
  dsimp only
  split <;> simp

theorem BudgetOk.fileAnnounce (h : BudgetOk s) (i : SlotId) (a : Announce) : BudgetOk (s.fileAnnounce i a) := by
  have filed : BudgetOk (s.setPeer i (some { status := .live, heard := s.now, ann := a })).reportOrphans :=
    h.congr (by simp)
  exact (filed.acts (Acts.foldl (acts_judgeClash a.claims) allMovers _)).acts (acts_reexamine _)

theorem hold_sbu (s : State) (k : KeyId) (active : Bool) : (s.hold k active).sbu = s.sbu := by
  unfold State.hold
  dsimp only
  split <;> rfl

theorem deliverReading_sbu (s : State) (cs : SenseId) (reading : Nat) : (s.deliverReading cs reading).sbu = s.sbu := by
  unfold State.deliverReading
  (repeat' split) <;> simp

theorem convert_sbu (s : State) (cs : SenseId) (raw : Int) : (s.convert cs raw).sbu = s.sbu := by
  unfold State.convert
  dsimp only
  (repeat' split) <;> simp [deliverReading_sbu]

theorem BudgetOk.pumpFault (h : BudgetOk s) (p : PinId) (m : MoverId) : BudgetOk (State.pumpFault p s m) := by
  refine iteInduction (fun _ => ?_) fun _ => h
  unfold State.faultInMotion
  split
  · exact iteInduction (fun _ => h.enterFaulted m _) fun _ => h
  · exact h

theorem BudgetOk.powerFaultNow (h : BudgetOk s) (p : PinId) (active : Bool) :
    BudgetOk (State.powerFaultNow p active s) := by
  refine iteInduction (fun _ => ?_) fun _ => h.congr (by simp)
  have reported : BudgetOk ((allMovers.foldl (State.pumpFault p) s).reportReason .pumpFault) :=
    BudgetOk.congr ((h.pumpFault p 0).pumpFault p 1) (by simp [allMovers])
  exact iteInduction (fun _ => reported.acts (acts_haltMovers _)) fun _ => reported

theorem homed_sbu (h : BudgetOk s) (p : PinId) (m : MoverId) : BudgetOk (State.homed p s m) := by
  unfold State.homed
  split
  · exact h
  · refine iteInduction (fun _ => ?_) fun _ => h
    have zero : BudgetOk (s.atHome m) := h.congr (by simp)
    exact iteInduction (fun _ => zero.acts (acts_reachEnd _ m)) fun _ => zero

theorem BudgetOk.homeNow (h : BudgetOk s) (p : PinId) (active : Bool) : BudgetOk (State.homeNow p active s) := by
  refine iteInduction (fun _ => ?_) fun _ => h
  have homed : BudgetOk (allMovers.foldl (State.homed p) s) := (homed_sbu (homed_sbu h p 0) p 1)
  exact homed.congr (by simp)

theorem BudgetOk.beginStandDown (h : BudgetOk s) : BudgetOk s.beginStandDown :=
  (BudgetOk.congr (t := { s with suc := { s.suc with standDown := true } }) h rfl).acts
    (Acts.foldl acts_standbyStop allMovers _)

theorem BudgetOk.enterRun (h : BudgetOk s) : BudgetOk s.enterRun := by
  have judged : BudgetOk (State.judgeFitness
      { s with suc := { s.suc with phase := .run, since := s.now, runEntry := some s.now } }) :=
    BudgetOk.judgeFitness (h.congr rfl)
  unfold State.enterRun
  dsimp only
  split
  · exact judged.beginStandDown.compose
  · exact judged.compose

theorem BudgetOk.deliverPin (h : BudgetOk s) (p : PinId) (active : Bool) : BudgetOk (s.deliverPin p active) :=
  h.congr rfl

theorem BudgetOk.move (a : Move s t) (h : BudgetOk s) : BudgetOk t := by
  cases a with
  | run => exact h.enterRun
  | compose => exact h.compose
  | event k | expire k | touch p | queued serial | offer f | ageDrive | age n | beat c | depart => exact h.congr (by simp)
  | blink | channel c | unguard m | key k => exact h.congr rfl
  | port p f => exact BudgetOk.judgeFitness (h.congr (by simp))
  | twin => exact h.raiseTwin
  | takeOffers => exact h.takeOffers
  | settle src => exact h.settle src _ _
  | stopTimer => exact h.keep rfl (.inl rfl) rfl rfl
  | island => exact h.enterIsland .timer
  | file src i a => exact h.fileAnnounce i a
  | forget i => exact (BudgetOk.congr (t := (s.setPeer i none).reportOrphans) h (by simp)).acts (acts_reexamine _)
  | level c level => exact h.applyLevel c level
  | convert cs raw => exact h.congr (convert_sbu s cs raw)
  | drive src m motion => exact h.acts (acts_deliverDrive s src m motion)
  | reexamine => exact h.acts (acts_reexamine s)
  | hold m => exact h.acts (acts_holdExpired s m)
  | idle m code r here motion => exact h.act (.idle m code r here motion)
  | fault m reason => exact h.enterFaulted m reason
  | dwell m r here stopping => exact h.acts (acts_dwellOver here stopping)
  | occupancy pin active => exact (h.deliverPin pin active).acts (acts_reexamine (s.deliverPin pin active))
  | lockOpen pin active => exact (h.deliverPin pin active).acts (acts_inputNow (acts_lockOpened pin) active _)
  | lockClosed pin active => exact (h.deliverPin pin active).acts (acts_inputNow (acts_lockShut pin) active _)
  | endSwitch pin active => exact (h.deliverPin pin active).acts (acts_inputNow (acts_endSwitch pin) active _)
  | gypsy pin active => exact (h.deliverPin pin active).acts (acts_inputNow (acts_gypsy pin) active _)
  | powerFault pin active => exact (h.deliverPin pin active).powerFaultNow pin active
  | home pin active => exact (h.deliverPin pin active).homeNow pin active
  | standby pin =>
    have delivered := h.deliverPin pin true
    exact iteInduction (fun _ => delivered.beginStandDown) fun _ => delivered
  | resume pin => exact h.congr rfl
  | holdKey k active => exact h.congr (hold_sbu s k active)

theorem BudgetOk.ownTick (h : BudgetOk s) (supply : Bool) : BudgetOk (s.ownTick supply) := by
  have blocks : BudgetOk (s.tickBlocks supply) := by
    refine iteInduction (fun _ => ?_) fun _ => h
    have sampled : BudgetOk (s.sampleSupply supply) := by
      unfold State.sampleSupply State.settleSupply
      split
      · exact h.keep (by dsimp only; split <;> rfl) (.inl (by dsimp only; split <;> rfl)) (by dsimp only; split <;> rfl)
          (by dsimp only; split <;> rfl)
      · exact h.keep rfl (.inl rfl) rfl rfl
    exact (sampled.budgetTick.congr (by simp)).acts (Acts.foldl acts_tickMover allMovers _)
  exact BudgetOk.compose (blocks.congr rfl)

theorem BudgetOk.enterListenOnly (h : BudgetOk s) (kind : FaultKind) : BudgetOk (s.enterListenOnly kind) := by
  have ports : BudgetOk (State.startPorts
      { s with
        cfg := Cfg.unconfigured
        suc := { s.suc with phase := .listenOnly, since := s.now, nextTick := some s.now }
        mvu := {} }) := h.congr rfl
  exact (ports.raiseHalt kind).ownTick false

theorem budgetOk_of_empty (empty : s.sbu = {}) : BudgetOk s := by
  constructor <;> simp [empty, State.inIsland, drawn]

/-- The end of CALIBRATE moves only what taking the offsets, marking the channels and fitting the movers do. -/
theorem fitAll_keeps {β : Type} (view : State → β) (sense : ∀ cfg u cs, view (takeOffset cfg u cs) = view u)
    (channel : ∀ u c, view (fitChannel u c) = view u) (mover : ∀ u m, view (fitMover u m) = view u)
    (retained : ∀ u r, view { u with mvu := { u.mvu with retained := r } } = view u) (s : State) :
    view s.fitAll = view s := by
  unfold State.fitAll
  dsimp only
  rw [retained, foldl_keeps view fitMover mover, foldl_keeps view fitChannel channel,
    foldl_keeps view (takeOffset s.cfg) (sense s.cfg)]

theorem fitChannel_sbu (s : State) (c : ChannelId) : (fitChannel s c).sbu = s.sbu := by
  unfold fitChannel
  split <;> rfl

theorem fitMover_sbu (s : State) (m : MoverId) : (fitMover s m).sbu = s.sbu := by
  unfold fitMover
  dsimp only
  (repeat' split) <;> simp

theorem fitAll_sbu (s : State) : s.fitAll.sbu = s.sbu :=
  fitAll_keeps State.sbu (fun _ _ _ => rfl) fitChannel_sbu fitMover_sbu (fun _ _ => rfl) s

theorem BudgetOk.enterQuiet (h : BudgetOk s) : BudgetOk s.enterQuiet := by
  unfold State.enterQuiet
  refine BudgetOk.ownTick (h.congr ?_) _
  rw [foldl_keeps State.sbu heldAtStart fun _ _ => rfl]

theorem budget_kept : Kept BudgetOk where
  waits _ _ h := h.congr rfl
  passes s h := h.congr (foldl_keeps State.sbu State.samplePin (fun _ _ => rfl) _ { s with now := s.now + 1 })
  powerOn _ _ := budgetOk_of_empty rfl
  pinReset _ _ := budgetOk_of_empty rfl
  strap s v _ h := iteInduction (fun _ => h.congr rfl) fun _ => h.enterListenOnly .badNumber
  accept s _ cfg levels _ _ h := h.congr (foldl_keeps State.sbu (firstSample cfg levels) (fun _ _ => rfl) _ _)
  refuse s _ h := BudgetOk.enterListenOnly (s := { s with suc := { s.suc with image := .invalid } }) (h.congr rfl) _
  calibrated s _ h := BudgetOk.enterQuiet (h.congr (by simp [State.reportFitted, fitAll_sbu]))
  tick _ supply _ h := h.ownTick supply
  trip s c _ h := (h.removeEntry _).congr (trip_sbu s c)
  move _ _ m h := h.move m

end Budget

/-- Settles O14: the budget's invariant is kept by every effect and every millisecond. -/
theorem stepKeepsTheBudget : Obligations.StepKeepsTheBudget := fun _ _ => budget_kept.step

end Sys2Proof.Safety
end

section
/-! PROOFS. Settles the statement that every step keeps a mover's entry, its claim and its phase in step, and own HELD
claims apart (Chapters 4 and 5). The invariant is that of each mover by itself, with the two claims apart; every act
moves one record, its entry and its claim together. -/

namespace Sys2Proof.Safety

open Sys2Proof Sys2Proof.Machine

/-! ### What the invariant reads of the demand list -/

/-- The first entry of a source, seen through a view, is fixed by the list of sources and views. -/
theorem demandIn_view {α : Type} (view : Demand → α) {l l' : List Demand}
    (same : l.map (fun d => (d.source, view d)) = l'.map fun d => (d.source, view d)) (src : Source) :
    (demandIn l src).map view = (demandIn l' src).map view := by
  induction l generalizing l' with
  | nil =>
    have : l' = [] := by simpa using same.symm
    rw [this]
  | cons d l ih =>
    cases l' with
    | nil => simp at same
    | cons e l' =>
      obtain ⟨⟨source, view⟩, rest⟩ := by simpa using same
      have ih := ih rest
      unfold demandIn at ih ⊢
      rw [List.find?_cons, List.find?_cons, ← source]
      split
      · simpa using view
      · exact ih

/-- The amount wanted, the class and the rank of an entry. -/
def wantOf (d : Demand) : Nat × Fin 8 × Nat := (d.want, d.cls, d.rank)

/-- What each mover's entry wants, in which class and rank. -/
def moverWants (b : Sbu) (m : MoverId) : Option (Nat × Fin 8 × Nat) := (demandIn b.demands (.mover m)).map wantOf

theorem demandOf_wants (s : State) (m : MoverId) : (s.demandOf (.mover m)).map wantOf = moverWants s.sbu m := rfl

theorem demandOf_isSome_wants (s : State) (m : MoverId) :
    (s.demandOf (.mover m)).isSome = (moverWants s.sbu m).isSome := by
  rw [← demandOf_wants, Option.isSome_map]

theorem moverWants_eq {s t : State} (h : ∀ m, t.demandOf (.mover m) = s.demandOf (.mover m)) :
    moverWants t.sbu = moverWants s.sbu := funext fun m => congrArg (Option.map wantOf) (h m)

/-- A list whose entries keep source, class, rank and W gives each mover what it gave it. -/
theorem moverWants_of_view {b b' : Sbu}
    (same : b'.demands.map (fun d => (d.source, wantOf d)) = b.demands.map fun d => (d.source, wantOf d)) :
    moverWants b' = moverWants b := funext fun m => demandIn_view wantOf same (.mover m)

theorem map_wants {f : Demand → Demand} (keeps : ∀ d, (f d).source = d.source ∧ wantOf (f d) = wantOf d)
    (l : List Demand) :
    (l.map f).map (fun d => (d.source, wantOf d)) = l.map fun d => (d.source, wantOf d) := by
  rw [List.map_map]
  exact List.map_congr_left fun d _ => by simp [keeps]

theorem mapSource_wants {f : Demand → Demand} (keeps : ∀ d, (f d).source = d.source ∧ wantOf (f d) = wantOf d)
    (src : Source) (l : List Demand) :
    (mapSource src f l).map (fun d => (d.source, wantOf d)) = l.map fun d => (d.source, wantOf d) := by
  refine map_wants (fun d => ?_) l
  split
  · exact keeps d
  · exact ⟨rfl, rfl⟩

@[simp] theorem removeEntry_chan_wants (s : State) (c : ChannelId) :
    moverWants (s.removeEntry (.chan c)).sbu = moverWants s.sbu :=
  moverWants_eq fun m => by simp [State.removeEntry_demandOf]

@[simp] theorem alignEntry_wants (s : State) (c : ChannelId) (old new : Nat) :
    moverWants (s.alignEntry c old new).sbu = moverWants s.sbu := by
  unfold State.alignEntry
  dsimp only
  split
  · rfl
  · split
    · simp
    · split
      · exact moverWants_eq fun m => by simp [State.createEntry_demandOf]
      · exact moverWants_eq fun m => by simp [State.changeEntry_demandOf]

@[simp] theorem applyLevel_wants (s : State) (c : ChannelId) (level : Nat) :
    moverWants (s.applyLevel c level).sbu = moverWants s.sbu := by
  unfold State.applyLevel
  dsimp only
  (repeat' split) <;> simp

@[simp] theorem trip_wants (s : State) (c : ChannelId) : moverWants (s.trip c).sbu = moverWants s.sbu := by
  rw [trip_sbu, removeEntry_chan_wants]

theorem settle_wants (s : State) (src : Source) (now q : Nat) :
    moverWants (s.setDemands (mapSource src (settleEntry now q) s.sbu.demands)).sbu = moverWants s.sbu := by
  refine moverWants_of_view (mapSource_wants (fun d => ?_) src _)
  obtain e | ⟨x, -, e⟩ := settleEntry_cases now q d <;> rw [e] <;> exact ⟨rfl, rfl⟩

@[simp] theorem takeOffers_wants (s : State) : moverWants s.takeOffers.sbu = moverWants s.sbu := by
  have pended : ∀ (offers : List (Source × Nat)) (l : List Demand),
      (offers.foldl (pend s.now) l).map (fun d => (d.source, wantOf d)) = l.map fun d => (d.source, wantOf d) := by
    intro offers
    induction offers with
    | nil => exact fun _ => rfl
    | cons o offers ih =>
      intro l
      exact (ih _).trans (mapSource_wants (fun d => by split <;> exact ⟨rfl, rfl⟩) o.1 l)
  exact moverWants_of_view (pended s.sbu.offers s.sbu.demands)

@[simp] theorem enterIsland_wants (s : State) (cause : IslandCause) :
    moverWants (s.enterIsland cause).sbu = moverWants s.sbu := by
  unfold State.enterIsland
  rw [State.raiseCond_sbu]
  exact moverWants_of_view (map_wants (f := islandEntry) (fun _ => ⟨rfl, rfl⟩) _)

@[simp] theorem leaveIsland_wants (s : State) : moverWants s.leaveIsland.sbu = moverWants s.sbu := by
  unfold State.leaveIsland
  split
  · rw [State.clearFlag_sbu]
    exact moverWants_of_view (map_wants (f := islandLeave) (fun _ => ⟨rfl, rfl⟩) _)
  · rfl

@[simp] theorem compose_wants (s : State) : moverWants s.compose.sbu = moverWants s.sbu := by
  unfold State.compose
  split <;> rfl

@[simp] theorem budgetTick_wants (s : State) : moverWants s.budgetTick.sbu = moverWants s.sbu := by
  refine moverWants_of_view ?_
  rw [budgetTick_sbu]
  refine allocate_view (fun d => (d.source, wantOf d)) (fun cfg r d => ?_) _ _ _
  obtain ⟨source, cls, rank, want, -⟩ := allocated_place cfg r d
  simp only [source, wantOf, cls, rank, want]

/-! ### One mover -/

/-- The record, the claim and the entry of a configured mover stand in step (R66, R90, R97, R120). -/
def InStep (c : MoverCfg) (claim : Claim) (wants : Option (Nat × Fin 8 × Nat)) : Option Mover → Prop
  | none => claim = .unclaimed ∧ wants = none
  | some r =>
    (r.phase.inMotion = true ↔ wants.isSome = true) ∧ (r.phase.inMotion = true ↔ claim ≠ .unclaimed) ∧
      (holdsZones r.phase = true → claim = .held) ∧
      (∀ x, wants = some x → x = (c.runRating, c.cls, c.rank)) ∧ r.count ≤ 4095

theorem inMotion_of_holdsZones {phase : MoverPhase} (h : holdsZones phase = true) : phase.inMotion = true := by
  revert h
  cases phase <;> decide

theorem mover_cases (m : MoverId) : m = 0 ∨ m = 1 := by revert m; decide

/-- The two own claims are not both HELD on a common zone (R75). -/
def Apart (s : State) : Prop := ∀ m, s.claim m = .held → s.claim (otherMover m) = .held →
  zonesMeet (s.zonesOf m) (s.zonesOf (otherMover m)) = false

theorem zonesMeet_comm (a b : ZoneSet) : zonesMeet a b = zonesMeet b a := by
  unfold zonesMeet
  rw [BitVec.and_comm]

theorem apart_iff (s : State) :
    Apart s ↔ ¬(s.claim 0 = .held ∧ s.claim 1 = .held ∧ zonesMeet (s.zonesOf 0) (s.zonesOf 1) = true) := by
  constructor
  · rintro apart ⟨first, second, meet⟩
    exact Bool.false_ne_true ((apart 0 first second).symm.trans meet)
  · intro h m
    obtain rfl | rfl := mover_cases m
    · intro first second
      exact Bool.eq_false_iff.2 fun meet => h ⟨first, second, meet⟩
    · intro second first
      rw [zonesMeet_comm]
      exact Bool.eq_false_iff.2 fun meet => h ⟨first, second, meet⟩

/-- Each mover in step, the claims apart, and the retained counts within their range: the invariant but for the phases
before QUIET. -/
structure Steady (s : State) : Prop where
  each : ∀ m, InStep (s.moverCfg m) (s.claim m) (moverWants s.sbu m) (s.mover m)
  apart : Apart s
  retained : ∀ m x, s.mvu.retained[(m : MoverId)] = some x → x.1 ≤ 4095

theorem motionOk_iff (s : State) : MotionOk s ↔ Steady s ∧ (s.working = false → ∀ m, s.mover m = none) := by
  constructor
  · intro h
    refine ⟨⟨fun m => ?_, (apart_iff s).2 h.apart, h.retained⟩, h.early⟩
    cases record : s.mover m with
    | none =>
      obtain ⟨claim, entry⟩ := h.absent m record
      exact ⟨claim, by rw [← demandOf_wants, entry]; rfl⟩
    | some r =>
      refine ⟨?_, h.claim m r record, h.held m r record, fun x e => ?_, h.count m r record⟩
      · rw [← demandOf_isSome_wants]
        exact h.entry m r record
      · obtain ⟨d, found, rfl⟩ := Option.map_eq_some_iff.1 e
        obtain ⟨want, cls, rank⟩ := h.want m d found
        simp only [wantOf, want, cls, rank]
  · rintro ⟨⟨each, apart, retained⟩, early⟩
    have some_ {m : MoverId} {r : Mover} (record : s.mover m = some r) := record ▸ each m
    have none_ {m : MoverId} (record : s.mover m = none) := record ▸ each m
    exact
      { entry := fun m r record => by rw [demandOf_isSome_wants]; exact (some_ record).1
        claim := fun m r record => (some_ record).2.1
        held := fun m r record => (some_ record).2.2.1
        want := fun m d found => by
          have wants : moverWants s.sbu m = some (wantOf d) := by rw [← demandOf_wants, found]; rfl
          cases record : s.mover m with
          | none => exact (Option.some_ne_none _ (wants.symm.trans (none_ record).2)).elim
          | some r => simpa [wantOf] using (some_ record).2.2.2.1 _ wants
        absent := fun m record => ⟨(none_ record).1, Option.map_eq_none_iff.1 ((demandOf_wants s m).trans (none_ record).2)⟩
        early := early
        apart := (apart_iff s).1 apart
        count := fun m r record => (some_ record).2.2.2.2
        retained := retained }

section Motion

variable {s t : State}

theorem MotionOk.steady (h : MotionOk s) : Steady s := ((motionOk_iff s).1 h).1

/-- A record in force stands in QUIET and RUN alone. -/
theorem MotionOk.working (h : MotionOk s) {m : MoverId} {r : Mover} (record : s.mover m = some r) :
    s.working = true := by
  by_contra out
  exact Option.some_ne_none r (record.symm.trans (h.early (Bool.eq_false_iff.2 out) m))

/-! ### What leaves the invariant alone -/

/-- What the invariant reads stands in t as in s. A simp lemma that states it gives simp the five equations. -/
abbrev KeepsMotion (s t : State) : Prop :=
  t.mvu = s.mvu ∧ t.zcu = s.zcu ∧ t.cfg = s.cfg ∧ t.suc.phase = s.suc.phase ∧ moverWants t.sbu = moverWants s.sbu

theorem foldl_keepsMotion {α : Type} {f : State → α → State} (h : ∀ s a, KeepsMotion s (f s a)) (l : List α)
    (s : State) : KeepsMotion s (l.foldl f s) :=
  ⟨foldl_keeps State.mvu f (fun s a => (h s a).1) l s, foldl_keeps State.zcu f (fun s a => (h s a).2.1) l s,
    foldl_keeps State.cfg f (fun s a => (h s a).2.2.1) l s,
    foldl_keeps (fun s => s.suc.phase) f (fun s a => (h s a).2.2.2.1) l s,
    foldl_keeps (fun s => moverWants s.sbu) f (fun s a => (h s a).2.2.2.2) l s⟩

theorem Steady.keep (h : Steady s) (same : KeepsMotion s t) : Steady t := by
  obtain ⟨mvu, zcu, cfg, -, wants⟩ := same
  have claim (m : MoverId) : t.claim m = s.claim m := by unfold State.claim; rw [zcu]
  have zones (m : MoverId) : t.zonesOf m = s.zonesOf m := by unfold State.zonesOf; rw [cfg]
  refine ⟨fun m => ?_, fun m => ?_, mvu ▸ h.retained⟩
  · have := h.each m
    unfold State.moverCfg State.mover at this ⊢
    rwa [mvu, cfg, wants, claim m]
  · rw [claim, claim, zones, zones]
    exact h.apart m

theorem MotionOk.keep (h : MotionOk s) (same : KeepsMotion s t) : MotionOk t := by
  rw [motionOk_iff]
  refine ⟨h.steady.keep same, fun out m => ?_⟩
  obtain ⟨mvu, -, -, phase, -⟩ := same
  unfold State.mover
  rw [mvu]
  exact h.early ((working_congr phase).symm.trans out) m

/-! ### Acts -/

/-- The claim, the entry and the record of mover m replaced together, in a working station. -/
theorem MotionOk.update (h : MotionOk s) (m : MoverId) (cfg : t.cfg = s.cfg) (phase : t.suc.phase = s.suc.phase)
    (retained : t.mvu.retained = s.mvu.retained)
    (others : ∀ x, x ≠ m → t.mover x = s.mover x ∧ t.claim x = s.claim x ∧ moverWants t.sbu x = moverWants s.sbu x)
    (absent : s.mover m = none → t.mover m = none)
    (changed : InStep (s.moverCfg m) (t.claim m) (moverWants t.sbu m) (t.mover m))
    (claim : t.claim m = .held → s.claim m = .held) : MotionOk t := by
  have zones (x : MoverId) : t.zonesOf x = s.zonesOf x := by unfold State.zonesOf; rw [cfg]
  have held (x : MoverId) : t.claim x = .held → s.claim x = .held := by
    by_cases e : x = m
    · exact e ▸ claim
    · rw [(others x e).2.1]
      exact id
  rw [motionOk_iff]
  refine ⟨⟨fun x => ?_, fun x mine other => ?_, retained ▸ h.retained⟩, fun out x => ?_⟩
  · have same : t.moverCfg x = s.moverCfg x := by unfold State.moverCfg; rw [cfg]
    rw [same]
    by_cases e : x = m
    · exact e ▸ changed
    · obtain ⟨record, claim, wants⟩ := others x e
      rw [record, claim, wants]
      exact h.steady.each x
  · rw [zones, zones]
    exact h.steady.apart x (held x mine) (held _ other)
  · have early := h.early ((working_congr phase).symm.trans out) x
    by_cases e : x = m
    · subst e
      exact absent early
    · exact (others x e).1.trans early

/-- A record changed, its phase staying in or out of motion. -/
theorem MotionOk.onMover (h : MotionOk s) {m : MoverId} {f : Mover → Mover}
    (changed : ∀ r, s.mover m = some r → (f r).phase.inMotion = r.phase.inMotion ∧
      (holdsZones (f r).phase = true → s.claim m = .held) ∧ (f r).count ≤ 4095) : MotionOk (s.onMover m f) := by
  have step := h.steady.each m
  refine h.update m rfl rfl rfl (fun x other => ⟨State.onMover_mover_other s m x f other, rfl, rfl⟩)
    (fun none => by simp [none]) ?_ id
  rw [State.onMover_mover_same]
  cases record : s.mover m with
  | none =>
    rw [record] at step
    exact step
  | some r =>
    rw [record] at step
    obtain ⟨motion, held, count⟩ := changed r record
    obtain ⟨entry, claim, -, want, -⟩ := step
    exact ⟨motion ▸ entry, motion ▸ claim, held, want, count⟩

/-- A mover in a phase that holds its zones has its claim HELD, and its count in range. -/
theorem MotionOk.record (h : MotionOk s) {m : MoverId} {r : Mover} (here : s.mover m = some r) :
    (holdsZones r.phase = true → s.claim m = .held) ∧ r.count ≤ 4095 := ⟨h.held m r here, h.count m r here⟩

/-- A change of phase between two phases that hold the zones. -/
theorem MotionOk.moving (h : MotionOk s) {m : MoverId} {r : Mover} (here : s.mover m = some r)
    (holds : holdsZones r.phase = true) {f : Mover → Mover} (after : holdsZones (f r).phase = true)
    (count : (f r).count = r.count) : MotionOk (s.onMover m f) := by
  obtain ⟨held, le⟩ := h.record here
  refine h.onMover fun x there => ?_
  obtain rfl : r = x := Option.some.inj (here.symm.trans there)
  rw [inMotion_of_holdsZones holds, inMotion_of_holdsZones after, count]
  exact ⟨rfl, fun _ => held holds, le⟩

/-- An intent that becomes HELD meets no own HELD claim (R75). -/
theorem nextClaim_held {m : MoverId} (held : s.nextClaim m = .held) :
    s.claim m = .held ∨ (s.claim (otherMover m) = .held →
      zonesMeet (s.zonesOf m) (s.zonesOf (otherMover m)) = false) := by
  unfold State.nextClaim at held
  split at held
  · cases held
  · exact .inl ‹_›
  · split at held <;> cases held
  · split at held
    · cases held
    · rename_i free
      refine .inr fun other => ?_
      simp only [State.obstacle, State.ownOtherBlocks, other, Bool.or_eq_true, not_or] at free
      simpa using free.2

theorem MotionOk.examineClaim (h : MotionOk s) (m : MoverId) : MotionOk (s.examineClaim m) := by
  have claims (x : MoverId) := State.examineClaim_claim s m x
  rw [motionOk_iff]
  refine ⟨⟨fun x => ?_, fun x mine other => ?_, h.retained⟩, h.early⟩
  · show InStep (s.moverCfg x) _ (moverWants s.sbu x) (s.mover x)
    rw [claims]
    have step := h.steady.each x
    split
    · subst x
      cases record : s.mover m with
      | none =>
        rw [record] at step
        exact ⟨(State.nextClaim_unclaimed s m).2 step.1, step.2⟩
      | some r =>
        rw [record] at step
        obtain ⟨entry, claim, held, want, count⟩ := step
        refine ⟨entry, claim.trans (not_congr (State.nextClaim_unclaimed s m).symm), fun holds => ?_, want, count⟩
        rw [State.nextClaim_stands s m (.inr (held holds)), held holds]
    · exact step
  · show zonesMeet (s.zonesOf x) (s.zonesOf (otherMover x)) = false
    rw [claims] at mine other
    by_cases e : x = m
    · subst e
      rw [if_pos rfl] at mine
      rw [if_neg (otherMover_ne x)] at other
      obtain held | free := nextClaim_held mine
      · exact h.steady.apart x held other
      · exact free other
    · obtain rfl : x = otherMover m := eq_otherMover e
      rw [otherMover_other] at other ⊢
      rw [if_neg (otherMover_ne m)] at mine
      rw [if_pos rfl] at other
      obtain held | free := nextClaim_held other
      · rw [zonesMeet_comm]
        exact h.steady.apart m held mine
      · rw [zonesMeet_comm]
        exact free mine

theorem MotionOk.examineClaims (h : MotionOk s) : MotionOk s.examineClaims := (h.examineClaim 0).examineClaim 1

/-- Only a HELD claim with no zone occupied stands CLEARED (Table 4-2). -/
theorem held_of_cleared {m : MoverId} (cleared : s.standing m = .cleared) :
    s.claim m = .held ∧ s.zoneOccupied m = false := by
  unfold State.standing at cleared
  cases claim : s.claim m with
  | unclaimed => rw [claim] at cleared; cases cleared
  | waiting => rw [claim] at cleared; cases cleared
  | listening start =>
    rw [claim] at cleared
    dsimp only at cleared
    split at cleared <;> cases cleared
  | held =>
    rw [claim] at cleared
    dsimp only at cleared
    split at cleared
    · cases cleared
    · exact ⟨rfl, Bool.eq_false_iff.2 ‹_›⟩

/-- A mover goes to motion with its claim HELD alone (R97). -/
theorem MotionOk.proceed (h : MotionOk s) {m : MoverId} {r : Mover} (here : s.mover m = some r)
    (phase : r.phase = .requesting) : MotionOk (s.proceed m) := by
  refine iteInduction (fun on => ?_) fun _ => h
  simp only [Bool.and_eq_true, decide_eq_true_eq] at on
  obtain ⟨⟨cleared, -⟩, -⟩ := on
  have held := (held_of_cleared cleared).1
  have count := h.count m r here
  have enters (f : Mover → Mover) (after : (f r).phase.inMotion = true) (same : (f r).count = r.count) :
      MotionOk (s.onMover m f) := h.onMover fun x there => by
    obtain rfl : r = x := Option.some.inj (here.symm.trans there)
    exact ⟨by rw [after, phase]; rfl, fun _ => held, same ▸ count⟩
  have running : MotionOk (s.enterRunning m) := enters _ rfl rfl
  exact iteInduction (fun _ => iteInduction (fun _ => running) fun _ => enters _ rfl rfl) fun _ => running

theorem MotionOk.lookAgain (h : MotionOk s) (m : MoverId) : MotionOk (s.lookAgain m) := by
  unfold State.lookAgain
  split
  · exact iteInduction (fun on => h.proceed ‹_› on.1) fun _ => h
  · exact h

theorem removeEntry_mover_wants (s : State) (m x : MoverId) :
    moverWants (s.removeEntry (.mover m)).sbu x = if x = m then none else moverWants s.sbu x := by
  rw [← demandOf_wants, State.removeEntry_demandOf]
  by_cases e : x = m <;> simp [e, demandOf_wants]

theorem createEntry_mover_wants (s : State) (m x : MoverId) (cls : Fin 8) (rank want : Nat) :
    moverWants (s.createEntry (.mover m) cls rank want).sbu x =
      if x = m then some (want, cls, rank) else moverWants s.sbu x := by
  rw [← demandOf_wants, State.createEntry_demandOf]
  by_cases e : x = m
  · simp only [e, if_true, Option.map_some]
    unfold newDemand wantOf
    split <;> rfl
  · simp [e, demandOf_wants]

/-- A mover that comes to rest gives up its entry and its claim (R90, R107). -/
theorem MotionOk.release (h : MotionOk s) (m : MoverId) {f : Mover → Mover}
    (rest : ∀ r, (f r).phase.inMotion = false ∧ (f r).count = r.count) :
    MotionOk (((s.onMover m f).removeEntry (.mover m)).releaseClaim m) := by
  generalize given : (s.onMover m f).removeEntry (.mover m) = u
  have wants (x : MoverId) : moverWants u.sbu x = if x = m then none else moverWants s.sbu x := by
    rw [← given]
    exact removeEntry_mover_wants _ m x
  have record (x : MoverId) : u.mover x = if x = m then (s.mover x).map f else s.mover x := by
    rw [← given]
    exact State.onMover_mover s m x f
  have same : u.cfg = s.cfg ∧ u.suc = s.suc ∧ u.mvu.retained = s.mvu.retained ∧ u.zcu = s.zcu := by
    rw [← given]
    exact ⟨rfl, rfl, rfl, rfl⟩
  obtain ⟨cfg, suc, retained, zcu⟩ := same
  have given_up : MotionOk (u.setClaim m .unclaimed) := by
    refine h.update m cfg (congrArg Suc.phase suc) retained (fun x other => ⟨?_, ?_, ?_⟩) (fun none => ?_) ?_
      fun held => ?_
    · exact (record x).trans (if_neg other)
    · rw [State.setClaim_claim, if_neg other]
      unfold State.claim
      rw [zcu]
    · exact (wants x).trans (if_neg other)
    · exact (record m).trans (by rw [none]; simp)
    · rw [State.setClaim_claim, if_pos rfl]
      show InStep _ _ (moverWants u.sbu m) (u.mover m)
      rw [wants, record, if_pos rfl, if_pos rfl]
      cases here : s.mover m with
      | none => exact ⟨rfl, rfl⟩
      | some r =>
        obtain ⟨still, count⟩ := rest r
        have out : holdsZones (f r).phase ≠ true := fun holds => by
          rw [inMotion_of_holdsZones holds] at still
          cases still
        exact ⟨by simp [still], by simp [still], fun holds => absurd holds out, nofun, count ▸ h.count m r here⟩
    · rw [State.setClaim_claim, if_pos rfl] at held
      cases held
  exact given_up.examineClaims

theorem MotionOk.enterIdle (h : MotionOk s) (m : MoverId) (code : RefusalCode) : MotionOk (s.enterIdle m code) := by
  unfold State.enterIdle
  exact MotionOk.lookAgain
    (h.release m (f := fun r => { dropMotion r with phase := .idle, lastRefusal := code }) fun _ => ⟨rfl, rfl⟩) _

theorem MotionOk.reportReason (h : MotionOk s) (reason : FaultReason) : MotionOk (s.reportReason reason) :=
  h.keep (by simp [KeepsMotion])

theorem MotionOk.enterFaulted (h : MotionOk s) (m : MoverId) (reason : FaultReason) :
    MotionOk (s.enterFaulted m reason) := by
  unfold State.enterFaulted
  have released := h.release m (f := fun r =>
    { dropMotion r with phase := .faulted, faultReason := some reason, lastRefusal := reason.refusal })
    fun _ => ⟨rfl, rfl⟩
  exact (released.reportReason reason).lookAgain _

/-- A mover that requests makes its entry and an intent (R72, R90, R93). -/
theorem MotionOk.enterRequesting (h : MotionOk s) {m : MoverId} {r : Mover} (here : s.mover m = some r) (src : Nat)
    (d : Dir) : MotionOk (s.enterRequesting m src d) := by
  unfold State.enterRequesting
  generalize request : (fun r : Mover => { r with
    phase := .requesting
    driver := some src
    direction := some d
    lastDrive := some s.now
    timer := some (s.now + Config.requestLimit)
    lastRefusal := .clear }) = f
  generalize entered : (s.onMover m f).createEntry (.mover m) (s.moverCfg m).cls (s.moverCfg m).rank
    (s.moverCfg m).runRating = u
  have wants (x : MoverId) : moverWants u.sbu x =
      if x = m then some ((s.moverCfg m).runRating, (s.moverCfg m).cls, (s.moverCfg m).rank) else moverWants s.sbu x := by
    rw [← entered]
    exact createEntry_mover_wants _ m x _ _ _
  have record (x : MoverId) : u.mover x = if x = m then (s.mover x).map f else s.mover x := by
    rw [← entered]
    exact State.onMover_mover s m x f
  have intent (c : Claim) (open_ : c = .waiting ∨ c = .listening u.now) : MotionOk (u.setClaim m c) := by
    refine h.update m (by subst entered; rfl) (by subst entered; rfl) (by subst entered; rfl) (fun x other => ?_)
      (fun none => absurd here (by simp [none])) ?_ fun held => ?_
    · refine ⟨(record x).trans (if_neg other), ?_, (wants x).trans (if_neg other)⟩
      rw [State.setClaim_claim, if_neg other]
      subst entered
      rfl
    · rw [State.setClaim_claim, if_pos rfl]
      show InStep _ c (moverWants u.sbu m) (u.mover m)
      rw [wants, record, if_pos rfl, if_pos rfl, here, ← request]
      refine ⟨by simp [MoverPhase.inMotion], ?_, nofun, by rintro _ ⟨rfl⟩; rfl, h.count m r here⟩
      rcases open_ with rfl | rfl <;> simp [MoverPhase.inMotion]
    · rw [State.setClaim_claim, if_pos rfl] at held
      rcases open_ with rfl | rfl <;> cases held
  refine MotionOk.lookAgain (MotionOk.examineClaims (intent _ ?_)) _
  split
  · exact .inl rfl
  · exact .inr rfl

theorem MotionOk.act (a : Act s t) (h : MotionOk s) : MotionOk t := by
  cases a with
  | idle m code => exact h.enterIdle m code
  | fault m reason => exact h.enterFaulted m reason
  | request m src d r here => exact h.enterRequesting here src d
  | start m r here phase => exact h.proceed here phase
  | opened m r here phase => exact h.moving here (by rw [phase]; rfl) rfl rfl
  | stop m reason mark r here phase => exact h.moving here (by rw [phase]; rfl) rfl rfl
  | lock m timer r here phase => exact h.moving here (by rw [phase]; rfl) rfl rfl
  | reverse m d r here phase =>
    have turned : MotionOk (s.onMover m fun x => { x with direction := some d }) :=
      h.moving here (by rw [phase]; rfl) (by simp [phase, holdsZones]) rfl
    exact turned.moving (r := { r with direction := some d }) (by simp [here]) (by simp [phase, holdsZones]) rfl rfl
  | note m f phase _ count =>
    exact h.onMover fun r here => ⟨by rw [phase], fun holds => h.held m r here (phase r ▸ holds),
      count r (h.count m r here)⟩
  | refuse m code =>
    have noted : MotionOk (s.onMover m fun r => { r with lastRefusal := code }) :=
      h.onMover fun r here => ⟨rfl, h.held m r here, h.count m r here⟩
    exact noted.keep (t := State.raiseEvent _ .driveRefused) (by simp [KeepsMotion])
  | clear m r here phase =>
    have cleared : MotionOk (s.onMover m fun x => { x with phase := .idle, faultReason := none, lastRefusal := .clear }) :=
      h.onMover fun x there => by
        obtain rfl : r = x := Option.some.inj (here.symm.trans there)
        exact ⟨by rw [phase]; rfl, nofun, h.count m r here⟩
    unfold State.clearFault
    dsimp only
    split
    · exact cleared.reportReason _
    · exact cleared
  | examine => exact h.examineClaims

theorem MotionOk.acts (h : MotionOk s) (a : Acts s t) : MotionOk t := acts_keep (fun _ _ => MotionOk.act) a h

/-! ### Moves -/

/-- An intent whose window runs afresh is an intent still (R76). -/
theorem MotionOk.restartWindow (h : MotionOk s) (m : MoverId) : MotionOk (s.restartWindow m) := by
  unfold State.restartWindow
  split
  · rename_i start listening
    refine h.update m rfl rfl rfl (fun x other => ⟨rfl, ?_, rfl⟩) id ?_ fun held => ?_
    · rw [State.setClaim_claim, if_neg other]
    · rw [State.setClaim_claim, if_pos rfl]
      have step := h.steady.each m
      show InStep _ (.listening s.now) (moverWants s.sbu m) (s.mover m)
      rw [listening] at step
      cases record : s.mover m with
      | none =>
        rw [record] at step
        exact nomatch step.1
      | some r =>
        rw [record] at step
        obtain ⟨entry, claim, held, want, count⟩ := step
        exact ⟨entry, claim.trans (by simp), fun holds => (nomatch held holds), want, count⟩
    · rw [State.setClaim_claim, if_pos rfl] at held
      cases held
  all_goals exact h

theorem MotionOk.judgeFitness (h : MotionOk s) : MotionOk s.judgeFitness := by
  refine iteInduction (fun _ => ?_) fun _ => h
  split
  · refine iteInduction (fun _ => ?_) fun _ => h
    have cleared : MotionOk (s.clearFlag .lineUnfit).leaveIsland := h.keep (by simp [KeepsMotion])
    exact ((cleared.restartWindow 0).restartWindow 1).acts (acts_reactAll _)
  · refine iteInduction (fun _ => h) fun _ => ?_
    have raised : MotionOk (s.raiseCond .lineUnfit) := h.keep (by simp [KeepsMotion])
    exact (raised.acts (Acts.foldl acts_fitnessStop allMovers _)).keep ⟨rfl, rfl, rfl, rfl, rfl⟩

theorem MotionOk.raiseHalt (h : MotionOk s) (k : FaultKind) : MotionOk (s.raiseHalt k) := by
  refine iteInduction (fun _ => h) fun _ => ?_
  have raised : MotionOk (s.raiseCond k) := h.keep (by simp [KeepsMotion])
  exact raised.acts (acts_haltMovers _)

theorem MotionOk.raiseTwin (h : MotionOk s) : MotionOk s.raiseTwin := by
  refine iteInduction (fun _ => h) fun _ => ?_
  have emptied : MotionOk s.emptyQueue := h.keep ⟨rfl, rfl, rfl, rfl, rfl⟩
  exact (emptied.raiseHalt .twin).keep (by simp [KeepsMotion])

theorem MotionOk.fileAnnounce (h : MotionOk s) (i : SlotId) (a : Announce) : MotionOk (s.fileAnnounce i a) := by
  have filed : MotionOk (s.setPeer i (some { status := .live, heard := s.now, ann := a })).reportOrphans :=
    h.keep (by simp [KeepsMotion])
  exact (filed.acts (Acts.foldl (acts_judgeClash a.claims) allMovers _)).acts (acts_reexamine _)

theorem MotionOk.deliverPin (h : MotionOk s) (p : PinId) (active : Bool) : MotionOk (s.deliverPin p active) :=
  h.keep ⟨rfl, rfl, rfl, rfl, rfl⟩

theorem MotionOk.pumpFault (h : MotionOk s) (p : PinId) (m : MoverId) : MotionOk (State.pumpFault p s m) := by
  refine iteInduction (fun _ => ?_) fun _ => h
  unfold State.faultInMotion
  split
  · exact iteInduction (fun _ => h.enterFaulted m _) fun _ => h
  · exact h

theorem MotionOk.powerFaultNow (h : MotionOk s) (p : PinId) (active : Bool) :
    MotionOk (State.powerFaultNow p active s) := by
  refine iteInduction (fun _ => ?_) fun _ => h.reportReason _
  have reported := MotionOk.reportReason ((h.pumpFault p 0).pumpFault p 1) .pumpFault
  exact iteInduction (fun _ => reported.acts (acts_haltMovers _)) fun _ => reported

theorem MotionOk.homed (h : MotionOk s) (p : PinId) (m : MoverId) : MotionOk (State.homed p s m) := by
  unfold State.homed
  split
  · exact h
  · refine iteInduction (fun _ => ?_) fun _ => h
    have zero : MotionOk (s.atHome m) := h.onMover fun r here => ⟨rfl, h.held m r here, Nat.zero_le _⟩
    exact iteInduction (fun _ => zero.acts (acts_reachEnd _ m)) fun _ => zero

theorem MotionOk.homeNow (h : MotionOk s) (p : PinId) (active : Bool) : MotionOk (State.homeNow p active s) := by
  refine iteInduction (fun _ => ?_) fun _ => h
  have homed : MotionOk (allMovers.foldl (State.homed p) s) := (h.homed p 0).homed p 1
  exact homed.keep (by simp [KeepsMotion])

theorem MotionOk.beginStandDown (h : MotionOk s) : MotionOk s.beginStandDown :=
  (MotionOk.keep (t := { s with suc := { s.suc with standDown := true } }) h ⟨rfl, rfl, rfl, rfl, rfl⟩).acts
    (Acts.foldl acts_standbyStop allMovers _)

theorem MotionOk.compose (h : MotionOk s) : MotionOk s.compose := h.keep (by simp [KeepsMotion])

/-- A change between two phases of a working station. -/
theorem MotionOk.work (h : MotionOk s) (same : t.mvu = s.mvu ∧ t.zcu = s.zcu ∧ t.cfg = s.cfg ∧ t.sbu = s.sbu)
    (work : t.working = true) : MotionOk t := by
  obtain ⟨mvu, zcu, cfg, sbu⟩ := same
  obtain ⟨each, apart, retained⟩ :=
    h.steady.keep (t := { t with suc := s.suc }) ⟨mvu, zcu, cfg, rfl, by rw [sbu]⟩
  exact (motionOk_iff t).2 ⟨⟨each, apart, retained⟩, fun out => absurd work (by simp [out])⟩

theorem MotionOk.enterRun (h : MotionOk s) : MotionOk s.enterRun := by
  have judged : MotionOk (State.judgeFitness
      { s with suc := { s.suc with phase := .run, since := s.now, runEntry := some s.now } }) :=
    MotionOk.judgeFitness (h.work ⟨rfl, rfl, rfl, rfl⟩ rfl)
  unfold State.enterRun
  dsimp only
  split
  · exact judged.beginStandDown.compose
  · exact judged.compose

theorem MotionOk.deliverReading (h : MotionOk s) (cs : SenseId) (reading : Nat) :
    MotionOk (s.deliverReading cs reading) := by
  unfold State.deliverReading
  split
  · exact h.keep ⟨rfl, rfl, rfl, rfl, rfl⟩
  · split
    · exact h.acts (acts_moverReading s 0 reading)
    · exact h.acts (acts_moverReading s 1 reading)

theorem MotionOk.convert (h : MotionOk s) (cs : SenseId) (raw : Int) : MotionOk (s.convert cs raw) := by
  have sampled (f : Sense → Sense) : MotionOk (s.onSense cs f) := h.keep ⟨rfl, rfl, rfl, rfl, rfl⟩
  unfold State.convert
  dsimp only
  split
  · split
    · exact h.keep ⟨rfl, rfl, rfl, rfl, rfl⟩
    · split
      · split
        · exact (sampled _).deliverReading cs _
        · exact sampled _
      · exact sampled _
  · exact sampled _

theorem hold_keepsMotion (s : State) (k : KeyId) (active : Bool) : KeepsMotion s (s.hold k active) := by
  unfold State.hold
  dsimp only
  split <;> exact ⟨rfl, rfl, rfl, rfl, rfl⟩

theorem MotionOk.move (a : Move s t) (h : MotionOk s) : MotionOk t := by
  cases a with
  | run => exact h.enterRun
  | compose => exact h.compose
  | event k | expire k | touch p | depart | queued serial | offer f | ageDrive | takeOffers | island | age n | level c
  | beat c => exact h.keep (by simp [KeepsMotion])
  | blink | stopTimer | channel c | key k => exact h.keep ⟨rfl, rfl, rfl, rfl, rfl⟩
  | port p f =>
    have moved : MotionOk ((s.onPort p f).reportPort p) := h.keep (by simp [KeepsMotion])
    exact moved.judgeFitness
  | twin => exact h.raiseTwin
  | settle src => exact h.keep ⟨rfl, rfl, rfl, rfl, settle_wants s src _ _⟩
  | file src i a => exact h.fileAnnounce i a
  | forget i =>
    have forgotten : MotionOk (s.setPeer i none).reportOrphans := h.keep (by simp [KeepsMotion])
    exact forgotten.acts (acts_reexamine _)
  | convert cs raw => exact h.convert cs raw
  | drive src m motion => exact h.acts (acts_deliverDrive s src m motion)
  | reexamine => exact h.acts (acts_reexamine s)
  | hold m => exact h.acts (acts_holdExpired s m)
  | idle m code => exact h.enterIdle m code
  | fault m reason => exact h.enterFaulted m reason
  | dwell m r here stopping => exact h.acts (acts_dwellOver here stopping)
  | unguard m => exact h.onMover fun r here => ⟨rfl, h.held m r here, h.count m r here⟩
  | occupancy pin active => exact (h.deliverPin pin active).acts (acts_reexamine _)
  | lockOpen pin active => exact (h.deliverPin pin active).acts (acts_inputNow (acts_lockOpened pin) active _)
  | lockClosed pin active => exact (h.deliverPin pin active).acts (acts_inputNow (acts_lockShut pin) active _)
  | endSwitch pin active => exact (h.deliverPin pin active).acts (acts_inputNow (acts_endSwitch pin) active _)
  | gypsy pin active => exact (h.deliverPin pin active).acts (acts_inputNow (acts_gypsy pin) active _)
  | powerFault pin active => exact (h.deliverPin pin active).powerFaultNow pin active
  | home pin active => exact (h.deliverPin pin active).homeNow pin active
  | standby pin =>
    have delivered := h.deliverPin pin true
    exact iteInduction (fun _ => delivered.beginStandDown) fun _ => delivered
  | resume pin => exact h.keep ⟨rfl, rfl, rfl, rfl, rfl⟩
  | holdKey k active => exact h.keep (hold_keepsMotion s k active)

/-! ### Start-up and the tick -/

theorem sampleSupply_keepsMotion (s : State) (supply : Bool) : KeepsMotion s (s.sampleSupply supply) := by
  unfold State.sampleSupply State.settleSupply
  dsimp only
  split
  · split <;> exact ⟨rfl, rfl, rfl, rfl, rfl⟩
  · exact ⟨rfl, rfl, rfl, rfl, rfl⟩

theorem MotionOk.ownTick (h : MotionOk s) (supply : Bool) : MotionOk (s.ownTick supply) := by
  have blocks : MotionOk (s.tickBlocks supply) := by
    refine iteInduction (fun _ => ?_) fun _ => h
    have sampled : MotionOk (s.sampleSupply supply) := h.keep (sampleSupply_keepsMotion s supply)
    have allotted : MotionOk ((s.sampleSupply supply).budgetTick).tickChannels := sampled.keep (by simp [KeepsMotion])
    exact allotted.acts (Acts.foldl acts_tickMover allMovers _)
  exact MotionOk.compose (blocks.keep ⟨rfl, rfl, rfl, rfl, rfl⟩)

/-- No record in force, no claim and no entry of a mover, the retained counts in range: as before QUIET. -/
structure AtRest (s : State) : Prop where
  records : ∀ m, s.mover m = none
  claims : ∀ m, s.claim m = .unclaimed
  wants : ∀ m, moverWants s.sbu m = none
  retained : ∀ m x, s.mvu.retained[(m : MoverId)] = some x → x.1 ≤ 4095

theorem MotionOk.atRest (h : MotionOk s) (out : s.working = false) : AtRest s := by
  have none (m : MoverId) := h.early out m
  have step (m : MoverId) : s.claim m = .unclaimed ∧ moverWants s.sbu m = Option.none := by
    have := h.steady.each m
    rwa [none m] at this
  exact ⟨none, fun m => (step m).1, fun m => (step m).2, h.retained⟩

theorem AtRest.motionOk (h : AtRest s) : MotionOk s := by
  refine (motionOk_iff s).2 ⟨⟨fun m => ?_, fun m held => ?_, h.retained⟩, fun _ => h.records⟩
  · rw [h.records m]
    exact ⟨h.claims m, h.wants m⟩
  · rw [h.claims m] at held
    cases held

theorem atRest_of_reset (movers : s.mvu.movers = Vector.replicate 2 none) (zcu : s.zcu = {}) (sbu : s.sbu = {})
    (retained : ∀ m x, s.mvu.retained[(m : MoverId)] = some x → x.1 ≤ 4095) : AtRest s where
  records m := by simp [State.mover, movers]
  claims m := by simp [State.claim, zcu]
  wants m := by rw [sbu]; rfl
  retained := retained

theorem AtRest.enterListenOnly (h : AtRest s) (kind : FaultKind) : MotionOk (s.enterListenOnly kind) := by
  have ports : MotionOk (State.startPorts
      { s with
        cfg := Cfg.unconfigured
        suc := { s.suc with phase := .listenOnly, since := s.now, nextTick := some s.now }
        mvu := {} }) :=
    AtRest.motionOk ⟨fun m => by simp [State.startPorts, State.mover], h.claims, h.wants,
      fun m x e => by simp [State.startPorts] at e⟩
  exact (ports.raiseHalt kind).ownTick false

/-- An entry of a pair of movers. -/
theorem pair_get {α : Type} (a b : α) (m : MoverId) : (#v[a, b])[m] = if m = 0 then a else b := by
  obtain rfl | rfl := mover_cases m
  · rfl
  · rfl

theorem AtRest.acceptImage (h : AtRest s) (cfg : Cfg) (levels : BitVec 32) : MotionOk (s.acceptImage cfg levels) := by
  have pins (t : State) := foldl_keepsMotion (f := firstSample cfg levels) (fun _ _ => ⟨rfl, rfl, rfl, rfl, rfl⟩)
    allPins t
  unfold State.acceptImage
  refine MotionOk.keep ?_ (pins _)
  refine AtRest.motionOk ⟨h.records, h.claims, h.wants, fun m x e => ?_⟩
  have kept : keepRetained cfg s.mvu.retained m = some x := by
    refine Eq.trans ?_ e
    refine Eq.trans ?_ (pair_get _ _ m).symm
    obtain rfl | rfl := mover_cases m
    · rfl
    · rfl
  unfold keepRetained at kept
  split at kept
  · split at kept
    · exact h.retained m x kept
    · cases kept
  · cases kept

/-- A mover record that comes into force is at rest, with a count in range (R88, R117, R131). -/
theorem newMover_inStep (s : State) (m : MoverId) (c : MoverCfg)
    (retained : ∀ x, s.mvu.retained[m] = some x → x.1 ≤ 4095) :
    (s.newMover m c).phase.inMotion = false ∧ (s.newMover m c).count ≤ 4095 := by
  constructor
  · unfold State.newMover
    dsimp only
    split <;> rfl
  · unfold State.newMover
    dsimp only
    split
    · exact retained _ ‹_›
    · exact Nat.zero_le _

theorem Steady.fitMover (h : Steady s) {m : MoverId} (record : s.mover m = none) : Steady (fitMover s m) := by
  obtain ⟨claim, wants⟩ : s.claim m = .unclaimed ∧ moverWants s.sbu m = none := by
    have := h.each m
    rwa [record] at this
  unfold Machine.fitMover
  split
  · exact h
  · rename_i c _
    obtain ⟨still, count⟩ := newMover_inStep s m c (h.retained m)
    have placed (r : Mover) (rest : r.phase.inMotion = false) (le : r.count ≤ 4095) (t : State)
        (same : t.zcu = s.zcu ∧ t.cfg = s.cfg ∧ t.sbu = s.sbu ∧ t.mvu.retained = s.mvu.retained)
        (mine : t.mover m = some r) (others : ∀ x, x ≠ m → t.mover x = s.mover x) : Steady t := by
      obtain ⟨zcu, cfg, sbu, retained⟩ := same
      have claims (x : MoverId) : t.claim x = s.claim x := by unfold State.claim; rw [zcu]
      have zones (x : MoverId) : t.zonesOf x = s.zonesOf x := by unfold State.zonesOf; rw [cfg]
      have cfgs (x : MoverId) : t.moverCfg x = s.moverCfg x := by unfold State.moverCfg; rw [cfg]
      refine ⟨fun x => ?_, fun x => by rw [claims, claims, zones, zones]; exact h.apart x, retained ▸ h.retained⟩
      rw [claims, cfgs, sbu]
      by_cases e : x = m
      · subst e
        rw [mine, claim, wants]
        have out : holdsZones r.phase ≠ true := fun holds => by
          rw [inMotion_of_holdsZones holds] at rest
          cases rest
        exact ⟨by simp [rest], by simp [rest], fun holds => absurd holds out, nofun, le⟩
      · rw [others x e]
        exact h.each x
    have set_mover (x : MoverId) : (s.mvu.movers.set m (some (s.newMover m c)))[x] =
        if x = m then some (s.newMover m c) else s.mover x := set_get s.mvu.movers m x _
    have base : State.mover { s with mvu := { s.mvu with movers := s.mvu.movers.set m (some (s.newMover m c)) } } m =
        some (s.newMover m c) := (set_mover m).trans (if_pos rfl)
    dsimp only
    split
    · refine placed { s.newMover m c with count := 0, known := true } still (Nat.zero_le _) _ ⟨rfl, rfl, rfl, rfl⟩ ?_
        fun x other => ?_
      · refine (State.onMover_mover_same _ m _).trans ?_
        rw [base]
        rfl
      · exact (State.onMover_mover_other _ m x _ other).trans ((set_mover x).trans (if_neg other))
    · refine placed (s.newMover m c) still count _ ⟨rfl, rfl, rfl, rfl⟩ ?_ fun x other => ?_
      · exact (set_mover m).trans (if_pos rfl)
      · exact (set_mover x).trans (if_neg other)

theorem fitMover_mover_other (s : State) {m x : MoverId} (other : x ≠ m) : (fitMover s m).mover x = s.mover x := by
  have set_mover (r : Option Mover) : (s.mvu.movers.set m r)[x] = s.mover x :=
    (set_get s.mvu.movers m x r).trans (if_neg other)
  unfold fitMover
  split
  · rfl
  · dsimp only
    split
    · exact (State.onMover_mover_other _ m x _ other).trans (set_mover _)
    · exact set_mover _

/-- The counts retained are in force, and no longer kept (R131). -/
theorem Steady.forgetCounts (h : Steady s) :
    Steady { s with mvu := { s.mvu with retained := Vector.replicate 2 none } } :=
  ⟨h.each, h.apart, fun m x e => by simp at e⟩

theorem Steady.fitAll (h : Steady s) (records : ∀ m, s.mover m = none) : Steady s.fitAll := by
  have channel (t : State) (c : ChannelId) : KeepsMotion t (fitChannel t c) := by
    unfold fitChannel
    split <;> exact ⟨rfl, rfl, rfl, rfl, rfl⟩
  have senses := foldl_keepsMotion (f := takeOffset s.cfg) (fun _ _ => ⟨rfl, rfl, rfl, rfl, rfl⟩) allSenses s
  have channels := foldl_keepsMotion channel allChannels (allSenses.foldl (takeOffset s.cfg) s)
  have steady := (h.keep senses).keep channels
  have none (m : MoverId) : (allChannels.foldl fitChannel (allSenses.foldl (takeOffset s.cfg) s)).mover m = none := by
    unfold State.mover
    rw [channels.1, senses.1]
    exact records m
  unfold State.fitAll
  generalize allChannels.foldl fitChannel (allSenses.foldl (takeOffset s.cfg) s) = u at steady none
  have fitted : Steady (allMovers.foldl Machine.fitMover u) :=
    (steady.fitMover (none 0)).fitMover ((fitMover_mover_other u (by decide)).trans (none 1))
  exact fitted.forgetCounts

theorem Steady.enterQuiet (h : Steady s) : MotionOk s.enterQuiet := by
  unfold State.enterQuiet
  have quiet : MotionOk { s with suc := { s.suc with phase := .quiet, since := s.now, nextTick := some s.now } } :=
    (motionOk_iff _).2 ⟨⟨h.each, h.apart, h.retained⟩, fun out => absurd out (by simp [State.working])⟩
  have keys (t : State) := foldl_keepsMotion (f := heldAtStart) (fun _ _ => ⟨rfl, rfl, rfl, rfl, rfl⟩) allKeys t
  exact (quiet.keep (keys _)).ownTick _

theorem retain_le (h : MotionOk s) {m : MoverId} {x : Nat × Bool} (e : s.retain m = some x) : x.1 ≤ 4095 := by
  unfold State.retain at e
  split at e
  · split at e
    · cases e
      exact h.count m _ ‹_›
    · cases e
  · exact h.retained m x e

theorem motion_kept : Kept MotionOk where
  waits _ _ h := h.keep ⟨rfl, rfl, rfl, rfl, rfl⟩
  passes s h := h.keep (foldl_keepsMotion (f := State.samplePin) (fun _ _ => ⟨rfl, rfl, rfl, rfl, rfl⟩) _
    { s with now := s.now + 1 })
  powerOn s _ := (atRest_of_reset rfl rfl rfl fun m x e => by
    simp [State.afterReset, State.reset] at e).motionOk
  pinReset s h := by
    refine (atRest_of_reset rfl rfl rfl fun m x e => ?_).motionOk
    have kept : (if m = 0 then s.retain 0 else s.retain 1) = some x := (pair_get _ _ m).symm.trans e
    split at kept
    · exact retain_le h kept
    · exact retain_le h kept
  strap s v strap h := by
    have rest := h.atRest (out_of_phase strap nofun nofun)
    refine iteInduction (fun _ => ?_) fun _ => rest.enterListenOnly .badNumber
    exact AtRest.motionOk ⟨rest.records, rest.claims, rest.wants, rest.retained⟩
  accept s _ cfg levels load _ h := (h.atRest (out_of_phase load nofun nofun)).acceptImage cfg levels
  refuse s load h := by
    have rest := h.atRest (out_of_phase load nofun nofun)
    exact AtRest.enterListenOnly (s := { s with suc := { s.suc with image := .invalid } })
      ⟨rest.records, rest.claims, rest.wants, rest.retained⟩ .configInvalid
  calibrated s calibrate h := by
    have rest := h.atRest (out_of_phase calibrate nofun nofun)
    exact ((h.steady.fitAll rest.records).keep (by simp [KeepsMotion, State.reportFitted])).enterQuiet
  tick _ supply _ h := h.ownTick supply
  trip s c _ h := h.keep (by simp [KeepsMotion])
  move _ _ m h := h.move m

end Motion

/-- Settles O36: each mover in step and the claims apart are kept by every effect and every millisecond. -/
theorem stepKeepsMotionAndClaims : Obligations.StepKeepsMotionAndClaims := fun _ _ => motion_kept.step

end Sys2Proof.Safety
end

section
/-! PROOFS. What an operation reports to the Fault Collector and what it leaves alone, said once for each: the kinds whose
flags it may change, and the blocks that stand. The statements about faults, fitness, the queue and the start-up read
this. -/

namespace Sys2Proof.Safety

open Sys2Proof Sys2Proof.Machine

/-! ### Reports -/

/-- Between s and t only kinds of the list are reported, and a first-fault record that is filled stands (R167). -/
structure Reports (kinds : List FaultKind) (s t : State) : Prop where
  flags : ∀ k, k ∉ kinds → t.fcl.flags[k.idx] = s.fcl.flags[k.idx]
  first : ∀ r, s.fcl.firstFault = some r → t.fcl.firstFault = some r

section Reports

variable {s t u : State} {kinds more : List FaultKind}

theorem Reports.active (h : Reports kinds s t) {k : FaultKind} (out : k ∉ kinds) : t.active k = s.active k := by
  unfold State.active
  rw [h.flags k out]

theorem Reports.refl (s : State) (kinds : List FaultKind) : Reports kinds s s := ⟨fun _ _ => rfl, fun _ h => h⟩

theorem Reports.trans (h : Reports kinds s t) (k : Reports kinds t u) : Reports kinds s u :=
  ⟨fun x out => (k.flags x out).trans (h.flags x out), fun r e => k.first r (h.first r e)⟩

theorem Reports.mono (h : Reports kinds s t) (sub : kinds ⊆ more) : Reports more s t :=
  ⟨fun k out => h.flags k fun mem => out (sub mem), h.first⟩

/-- An operation that leaves the Fault Collector alone reports nothing. -/
theorem reports_of_fcl (same : t.fcl = s.fcl) : Reports kinds s t := by
  constructor <;> simp [same]

theorem Reports.after (h : Reports kinds s t) (same : u.fcl = t.fcl) : Reports kinds s u := h.trans (reports_of_fcl same)

theorem Reports.before (h : Reports kinds t u) (same : t.fcl = s.fcl) : Reports kinds s u := (reports_of_fcl same).trans h

theorem reports_activate (s : State) {k : FaultKind} (hold : Option Nat) (on : k ∈ kinds) :
    Reports kinds s (s.activate k hold) := by
  refine ⟨fun j out => ?_, fun r h => State.activate_firstFault s k hold r h⟩
  rw [State.activate_flags, if_neg (ne_of_mem_of_not_mem on out).symm]

theorem reports_clearFlag (s : State) {k : FaultKind} (on : k ∈ kinds) : Reports kinds s (s.clearFlag k) := by
  refine ⟨fun j out => ?_, fun r h => h⟩
  rw [State.clearFlag_flags, if_neg (ne_of_mem_of_not_mem on out).symm]

theorem reports_raiseEvent (s : State) {k : FaultKind} (on : k ∈ kinds) : Reports kinds s (s.raiseEvent k) :=
  reports_activate s _ on

theorem reports_raiseCond (s : State) {k : FaultKind} (on : k ∈ kinds) : Reports kinds s (s.raiseCond k) := by
  unfold State.raiseCond
  split
  · exact .refl s kinds
  · exact reports_activate s none on

theorem reports_reportCond (s : State) {k : FaultKind} (holds : Bool) (on : k ∈ kinds) :
    Reports kinds s (s.reportCond k holds) := by
  unfold State.reportCond
  split
  · exact reports_raiseCond s on
  · split
    · exact reports_clearFlag s on
    · exact .refl s kinds

theorem reports_foldl {α : Type} {f : State → α → State} (report : ∀ s a, Reports kinds s (f s a)) (l : List α)
    (s : State) : Reports kinds s (l.foldl f s) := by
  induction l generalizing s with
  | nil => exact .refl s kinds
  | cons a l ih => exact (report s a).trans (ih _)

end Reports

/-! ### The movers -/

/-- The kinds the Mover Unit reports as movers act: a refusal, and the reasons movers are FAULTED with (R92, R107). -/
def moverKinds : List FaultKind :=
  [.driveRefused, .lockJam, .travelTimeout, .overload, .pumpFault, .clash, .stall]

theorem reports_reportReason (s : State) (reason : FaultReason) : Reports moverKinds s (s.reportReason reason) := by
  cases reason
  case halted => exact .refl s _
  all_goals exact reports_reportCond s _ (by decide)

theorem reports_enterFaulted (s : State) (m : MoverId) (reason : FaultReason) :
    Reports moverKinds s (s.enterFaulted m reason) := by
  unfold State.enterFaulted
  exact ((reports_reportReason _ reason).before (by simp)).after (State.lookAgain_fcl _ _)

theorem reports_faultInMotion (s : State) (m : MoverId) (reason : FaultReason) :
    Reports moverKinds s (s.faultInMotion m reason) := by
  unfold State.faultInMotion
  split
  · split
    · exact reports_enterFaulted s m reason
    · exact .refl s _
  · exact .refl s _

theorem reports_haltMovers (s : State) : Reports moverKinds s s.haltMovers :=
  reports_foldl (fun t m => reports_faultInMotion t m .halted) allMovers s

theorem reports_act {s t : State} (a : Act s t) : Reports moverKinds s t := by
  cases a with
  | fault m reason => exact reports_enterFaulted s m reason
  | refuse m code =>
    exact (reports_raiseEvent _ (by decide)).before rfl
  | clear m r =>
    unfold State.clearFault
    dsimp only
    split
    · exact (reports_reportReason _ _).before rfl
    · exact reports_of_fcl rfl
  | idle | request | start | opened | stop | reverse | lock | note | examine => exact reports_of_fcl (by simp)

/-- What acts of movers leave: every block but the movers, the claims and the entries with their offers, and every kind
off the list. -/
structure Aside (kinds : List FaultKind) (s t : State) : Prop where
  now : t.now = s.now
  pending : t.pending = s.pending
  cfg : t.cfg = s.cfg
  suc : t.suc = s.suc
  ptu : t.ptu = s.ptu
  liu : t.liu = s.liu
  lcu : t.lcu = s.lcu
  csa : t.csa = s.csa
  fpr : t.fpr = s.fpr
  ktu : t.ktu = s.ktu
  island : t.sbu.island = s.sbu.island
  timer : t.sbu.islandTimer = s.sbu.islandTimer
  reports : Reports kinds s t

section Aside

variable {s t u : State} {kinds more : List FaultKind}

theorem Aside.refl (s : State) (kinds : List FaultKind) : Aside kinds s s :=
  ⟨rfl, rfl, rfl, rfl, rfl, rfl, rfl, rfl, rfl, rfl, rfl, rfl, .refl s _⟩

theorem Aside.trans (h : Aside kinds s t) (k : Aside kinds t u) : Aside kinds s u :=
  ⟨k.now.trans h.now, k.pending.trans h.pending, k.cfg.trans h.cfg, k.suc.trans h.suc, k.ptu.trans h.ptu,
    k.liu.trans h.liu, k.lcu.trans h.lcu, k.csa.trans h.csa, k.fpr.trans h.fpr, k.ktu.trans h.ktu,
    k.island.trans h.island, k.timer.trans h.timer, h.reports.trans k.reports⟩

theorem Aside.mono (h : Aside kinds s t) (sub : kinds ⊆ more) : Aside more s t := { h with reports := h.reports.mono sub }

theorem aside_foldl {α : Type} {f : State → α → State} (h : ∀ s a, Aside kinds s (f s a)) (l : List α) (s : State) :
    Aside kinds s (l.foldl f s) := by
  induction l generalizing s with
  | nil => exact .refl s kinds
  | cons a l ih => exact (h s a).trans (ih _)

end Aside

theorem act_aside {s t : State} (a : Act s t) : Aside moverKinds s t := by
  have reports := reports_act a
  cases a with
  | idle | fault =>
    constructor
    case reports => exact reports
    all_goals simp [enterIdle_sbu, enterFaulted_sbu, State.removeEntry]
  | request =>
    constructor
    case reports => exact reports
    all_goals simp [enterRequesting_sbu, State.createEntry, State.removeEntry, State.setDemands]
  | start | opened | stop | reverse | lock | note | refuse | clear | examine =>
    constructor
    case reports => exact reports
    all_goals simp

theorem acts_aside {s t : State} (h : Acts s t) : Aside moverKinds s t := by
  induction h with
  | refl => exact .refl s _
  | tail _ last ih => exact ih.trans (act_aside last)

theorem aside_reportReason (s : State) (reason : FaultReason) : Aside moverKinds s (s.reportReason reason) := by
  have reports := reports_reportReason s reason
  constructor
  case reports => exact reports
  all_goals simp

theorem aside_faultInMotion (s : State) (m : MoverId) (reason : FaultReason) :
    Aside moverKinds s (s.faultInMotion m reason) := by
  have reports := reports_faultInMotion s m reason
  constructor
  case reports => exact reports
  case island | timer =>
    unfold State.faultInMotion
    repeat' split
    all_goals simp [enterFaulted_sbu, State.removeEntry]
  all_goals simp

theorem aside_pumpFault (p : PinId) (s : State) (m : MoverId) : Aside moverKinds s (State.pumpFault p s m) :=
  iteInduction (fun _ => aside_faultInMotion s m .pumpFault) fun _ => .refl s _

theorem aside_powerFaultNow (p : PinId) (active : Bool) (s : State) :
    Aside moverKinds s (State.powerFaultNow p active s) := by
  refine iteInduction (fun _ => ?_) fun _ => aside_reportReason s .pumpFault
  have failed : Aside moverKinds s ((allMovers.foldl (State.pumpFault p) s).reportReason .pumpFault) :=
    (aside_foldl (aside_pumpFault p) allMovers s).trans (aside_reportReason _ .pumpFault)
  unfold State.powerFailed
  dsimp only
  split
  · exact failed.trans (acts_aside (acts_haltMovers _))
  · exact failed

/-- The kinds HOME may report. -/
def homeKinds : List FaultKind := .countUnknown :: moverKinds

theorem moverKinds_home : moverKinds ⊆ homeKinds := List.subset_cons_self _ _

theorem aside_atHome (s : State) (m : MoverId) : Aside homeKinds s (s.atHome m) := by
  constructor
  case reports => exact reports_of_fcl (by simp)
  all_goals simp

theorem aside_homed (p : PinId) (s : State) (m : MoverId) : Aside homeKinds s (State.homed p s m) := by
  unfold State.homed
  split
  · exact .refl s _
  · refine iteInduction (fun _ => iteInduction (fun _ => ?_) fun _ => aside_atHome s m) fun _ => .refl s _
    exact (aside_atHome s m).trans ((acts_aside (acts_reachEnd _ m)).mono moverKinds_home)

theorem aside_reportCount (s : State) : Aside homeKinds s s.reportCount := by
  constructor
  case reports => exact reports_reportCond s _ (by decide)
  all_goals simp

theorem aside_homeNow (p : PinId) (active : Bool) (s : State) : Aside homeKinds s (State.homeNow p active s) :=
  iteInduction (fun _ => (aside_foldl (aside_homed p) allMovers s).trans (aside_reportCount _)) fun _ => .refl s _

/-! ### The line, the peers and the inputs -/

/-- The event kinds (R164). -/
def eventKinds : List FaultKind := [.crcError, .malformed, .txqFull, .driveStale, .driveRefused, .channelTrip]

theorem mem_eventKinds {k : FaultKind} (h : isEvent k = true) : k ∈ eventKinds := by
  revert h
  cases k <;> decide

/-- The kinds a change of line fitness may report: its own, island mode, and those of the movers it stops. -/
def fitnessKinds : List FaultKind := [.lineUnfit, .island] ++ moverKinds

/-- The kinds a port may report as it changes state. -/
def portKinds : List FaultKind := [.portDarkA, .portDarkB, .portUnfitA, .portUnfitB]

theorem moverKinds_fitness : moverKinds ⊆ fitnessKinds := List.subset_append_right _ _

theorem reports_leaveIsland (s : State) : Reports [.island] s s.leaveIsland := by
  unfold State.leaveIsland
  split
  · exact (reports_clearFlag _ (by decide)).before rfl
  · exact reports_of_fcl rfl

theorem reports_enterIsland (s : State) (cause : IslandCause) : Reports [.island] s (s.enterIsland cause) :=
  (reports_raiseCond _ (by decide)).before rfl

theorem restartWindows_fcl (s : State) : (allMovers.foldl State.restartWindow s).fcl = s.fcl :=
  foldl_keeps State.fcl _ (fun t m => by simp) allMovers s

theorem reports_judgeFitness (s : State) : Reports fitnessKinds s s.judgeFitness := by
  have acted {t u : State} (h : Acts t u) : Reports fitnessKinds t u := (acts_aside h).reports.mono moverKinds_fitness
  refine iteInduction (fun _ => ?_) fun _ => .refl s _
  split
  · refine iteInduction (fun _ => ?_) fun _ => .refl s _
    have left : Reports fitnessKinds s (s.clearFlag .lineUnfit).leaveIsland :=
      (reports_clearFlag s (by decide)).trans ((reports_leaveIsland _).mono (by decide))
    exact (left.after (restartWindows_fcl _)).trans (acted (acts_reactAll _))
  · refine iteInduction (fun _ => .refl s _) fun _ => ?_
    have stopped : Reports fitnessKinds s (allMovers.foldl State.fitnessStop (s.raiseCond .lineUnfit)) :=
      (reports_raiseCond s (by decide)).trans (acted (Acts.foldl acts_fitnessStop allMovers _))
    exact stopped.after rfl

theorem reports_movePort (s : State) (p : PortId) (f : Port → Port) :
    Reports (portKinds ++ fitnessKinds) s (s.movePort p f) := by
  have dark : darkKind p ∈ portKinds := by revert p; decide
  have unfit : unfitKind p ∈ portKinds := by revert p; decide
  have reported : Reports portKinds s ((s.onPort p f).reportPort p) :=
    (Reports.before (s := s) (t := s.onPort p f) (reports_reportCond _ _ dark) rfl).trans (reports_reportCond _ _ unfit)
  unfold State.movePort
  generalize (s.onPort p f).reportPort p = t at reported
  exact (reported.mono (List.subset_append_left _ _)).trans
    ((reports_judgeFitness _).mono (List.subset_append_right _ _))

theorem reports_raiseTwin (s : State) : Reports ([.twin, .island] ++ moverKinds) s s.raiseTwin := by
  refine iteInduction (fun _ => .refl s _) fun _ => ?_
  have halted : Reports ([.twin, .island] ++ moverKinds) s (s.emptyQueue.raiseHalt .twin) := by
    refine Reports.before (t := s.emptyQueue) (iteInduction (fun _ => .refl _ _) fun _ => ?_) rfl
    exact (reports_raiseCond _ (by decide)).trans ((reports_haltMovers _).mono (by decide))
  exact halted.trans ((reports_enterIsland _ .twin).mono (by decide))

theorem reports_offerFrame (s : State) (f : Frame) : Reports [.txqFull] s (s.offerFrame f) := by
  unfold State.offerFrame
  split
  · exact .refl s _
  · split
    · exact reports_raiseEvent s (by decide)
    · exact reports_of_fcl rfl

theorem reports_ageDrive (s : State) : Reports [.driveStale] s s.ageDrive := by
  unfold State.ageDrive
  split
  · exact .refl s _
  · dsimp only
    split
    · exact reports_of_fcl rfl
    · exact (reports_raiseEvent _ (by decide)).before rfl

theorem reports_reportOrphans (s : State) : Reports [.peerOrphaned] s s.reportOrphans :=
  reports_reportCond s _ (by decide)

/-- The kinds a peer's record may report: its own, and those of the movers its claims and zones reach. -/
def peerKinds : List FaultKind := .peerOrphaned :: moverKinds

theorem moverKinds_peer : moverKinds ⊆ peerKinds := List.subset_cons_self _ _

theorem reports_setPeer (s : State) (i : SlotId) (r : Option PeerRec) :
    Reports peerKinds s (s.setPeer i r).reportOrphans :=
  ((reports_reportOrphans _).before (State.setPeer_fcl s i r)).mono (by decide)

theorem reports_fileAnnounce (s : State) (i : SlotId) (a : Announce) : Reports peerKinds s (s.fileAnnounce i a) := by
  have judged (t : State) : Reports peerKinds t (allMovers.foldl (State.judgeClash a.claims) t).reexamine :=
    (acts_aside ((Acts.foldl (acts_judgeClash a.claims) allMovers t).append (acts_reexamine _))).reports.mono
      moverKinds_peer
  exact (reports_setPeer s i _).trans (judged _)

theorem hold_fcl (s : State) (k : KeyId) (active : Bool) : (s.hold k active).fcl = s.fcl := by
  unfold State.hold
  dsimp only
  split <;> rfl

theorem acts_beginStandDown (s : State) :
    Acts { s with suc := { s.suc with standDown := true } } s.beginStandDown :=
  Acts.foldl acts_standbyStop allMovers _

theorem reports_beginStandDown (s : State) : Reports moverKinds s s.beginStandDown :=
  (acts_aside (acts_beginStandDown s)).reports.before rfl

/-- A property that entry into RUN itself, a judgement of line fitness, a stand-down and an ANNOUNCE keep, the whole of
RUN's entry keeps. -/
theorem enterRun_keeps {I : State → Prop} {s : State}
    (enter : I { s with suc := { s.suc with phase := .run, since := s.now, runEntry := some s.now } })
    (judge : ∀ t, I t → I t.judgeFitness) (begin : ∀ t, I t → I t.beginStandDown) (compose : ∀ t, I t → I t.compose) :
    I s.enterRun := by
  have judged := judge _ enter
  unfold State.enterRun
  dsimp only
  split
  · exact compose _ (begin _ judged)
  · exact compose _ judged

theorem reports_enterRun (s : State) : Reports fitnessKinds s s.enterRun := by
  have judged : Reports fitnessKinds s (State.judgeFitness
      { s with suc := { s.suc with phase := .run, since := s.now, runEntry := some s.now } }) :=
    (reports_judgeFitness _).before rfl
  unfold State.enterRun
  dsimp only
  refine Reports.after ?_ (State.compose_fcl _)
  split
  · exact judged.trans ((reports_beginStandDown _).mono moverKinds_fitness)
  · exact judged

/-! ### Every move -/

/-- What an operation on the transmit queue leaves. -/
structure OnQueue (s t : State) : Prop where
  now : t.now = s.now
  pending : t.pending = s.pending
  cfg : t.cfg = s.cfg
  suc : t.suc = s.suc
  ptu : t.ptu = s.ptu
  ports : t.liu.ports = s.liu.ports
  lcu : t.lcu = s.lcu
  zcu : t.zcu = s.zcu
  mvu : t.mvu = s.mvu
  csa : t.csa = s.csa
  fpr : t.fpr = s.fpr
  demands : t.sbu.demands = s.sbu.demands
  island : t.sbu.island = s.sbu.island
  reports : Reports [.txqFull, .driveStale] s t

/-- What the moves beside the line, the peers and the movers leave: those of a channel, a sense input, the demand list, a
key, an event's flag. A mark in force may only go from TRIPPED back into service, and before QUIET no channel changes. -/
structure Beside (s t : State) : Prop where
  now : t.now = s.now
  pending : t.pending = s.pending
  cfg : t.cfg = s.cfg
  suc : t.suc = s.suc
  ptu : t.ptu = s.ptu
  liu : t.liu = s.liu
  zcu : t.zcu = s.zcu
  island : t.sbu.island = s.sbu.island
  mark : ∀ c : ChannelId, (s.lcu.channels[c]).mark ≠ .tripped → (t.lcu.channels[c]).mark = (s.lcu.channels[c]).mark
  locked : ∀ c : ChannelId, (t.lcu.channels[c]).mark = .lockedOut → (s.lcu.channels[c]).mark = .lockedOut
  early : s.working = false → (∀ c : ChannelId, s.lcu.channels[c] = {}) → t.lcu = s.lcu
  faulty : ∀ cs : SenseId, t.senseFaulty cs = s.senseFaulty cs
  reports : Reports eventKinds s t

/-- The operations on the transmit queue (Section 8.5). -/
inductive QueueMove (s : State) : State → Prop
  | compose : QueueMove s s.compose
  | depart : QueueMove s s.judgeDepartures
  | queued (serial : Nat) (f : Queued → Queued) (frame : ∀ q, (f q).frame = q.frame) : QueueMove s (s.onQueued serial f)
  | offer (f : Frame) (command : isAnnounce f = false) : QueueMove s (s.offerFrame f)
  | ageDrive : QueueMove s s.ageDrive

/-- The changes of a peer's record (Chapter 1). -/
inductive PeerMove (s : State) : State → Prop
  | age (n : SlotId) (status : PeerStatus) (r : PeerRec) (known : s.ptu.peers[n] = some r) : PeerMove s (s.ageTo n status)
  | file (src : Nat) (i : SlotId) (a : Announce) (other : s.suc.ownNumber ≠ some src) (slot : slotOf src = some i)
      (delivers : s.delivers = true) : PeerMove s (s.fileAnnounce i a)
  | forget (i : SlotId) : PeerMove s ((s.setPeer i none).reportOrphans).reexamine

/-- A move by the blocks it reaches. -/
inductive Shape (s : State) : State → Prop
  | run (quiet : s.suc.phase = .quiet) : Shape s s.enterRun
  | port (p : PortId) (f : Port → Port) (operate : s.portsOperate = true) : Shape s (s.movePort p f)
  | touch (p : PortId) (f : Port → Port) (state : (f s.liu.ports[p]).state = (s.liu.ports[p]).state)
      (dark : portDarkHolds (f s.liu.ports[p]) = portDarkHolds s.liu.ports[p])
      (wasFit : (f s.liu.ports[p]).wasFit = (s.liu.ports[p]).wasFit) : Shape s (s.onPort p f)
  | twin : Shape s s.raiseTwin
  | island : Shape s (s.enterIsland .timer)
  | queue {t : State} (h : QueueMove s t) : Shape s t
  | peers {t : State} (h : PeerMove s t) : Shape s t
  | movers {t : State}
      (h : Aside homeKinds { s with fpr := t.fpr, suc := { s.suc with standDown := t.suc.standDown } } t) : Shape s t
  | beside {t : State} (h : Beside s t) : Shape s t

section Shape

variable {s t u : State}

theorem Acts.shape (h : Acts s t) : Shape s t := by
  have aside := (acts_aside h).mono moverKinds_home
  exact .movers { aside with
    fpr := rfl, suc := by rw [aside.suc], reports := ⟨aside.reports.flags, aside.reports.first⟩ }

theorem Aside.shape {pin : PinId} {active : Bool} (h : Aside homeKinds (s.deliverPin pin active) t) : Shape s t :=
  .movers { h with fpr := rfl, suc := by rw [h.suc]; rfl, reports := ⟨h.reports.flags, h.reports.first⟩ }

theorem Acts.delivered {pin : PinId} {active : Bool} (h : Acts (s.deliverPin pin active) t) : Shape s t :=
  ((acts_aside h).mono moverKinds_home).shape

/-- A move beside the channels and the sense inputs. -/
theorem Shape.ofSame (now : t.now = s.now) (pending : t.pending = s.pending) (cfg : t.cfg = s.cfg)
    (suc : t.suc = s.suc) (ptu : t.ptu = s.ptu) (liu : t.liu = s.liu) (zcu : t.zcu = s.zcu)
    (island : t.sbu.island = s.sbu.island) (lcu : t.lcu = s.lcu) (csa : t.csa = s.csa) (reports : Reports eventKinds s t) :
    Shape s t :=
  .beside
    { now, pending, cfg, suc, ptu, liu, zcu, island, reports
      mark := fun c _ => by rw [lcu]
      locked := fun c h => by rwa [lcu] at h
      early := fun _ _ => lcu
      faulty := fun cs => by unfold State.senseFaulty; rw [csa] }

theorem beside_onChannel (s : State) (c : ChannelId) (f : Channel → Channel)
    (mark : (f s.lcu.channels[c]).mark = (s.lcu.channels[c]).mark)
    (early : s.working = true ∨ s.lcu.channels[c] ≠ {}) : Beside s (s.onChannel c f) := by
  have marks (x : ChannelId) : ((s.onChannel c f).lcu.channels[x]).mark = (s.lcu.channels[x]).mark := by
    rw [onChannel_record]
    split
    · subst x; exact mark
    · rfl
  constructor
  case mark => exact fun x _ => marks x
  case locked => exact fun x h => marks x ▸ h
  case early =>
    intro out fresh
    obtain work | ne := early
    · exact absurd (out.symm.trans work) Bool.false_ne_true
    · exact absurd (fresh c) ne
  case reports => exact reports_of_fcl rfl
  case faulty => exact fun _ => rfl
  all_goals rfl

theorem beside_refl (s : State) : Beside s s := by
  constructor
  case reports => exact .refl s _
  case mark => exact fun _ _ => rfl
  case locked => exact fun _ => id
  case early => exact fun _ _ => rfl
  case faulty => exact fun _ => rfl
  all_goals rfl

theorem beside_beatChannel (s : State) (c : ChannelId) : Beside s (s.beatChannel c) := by
  refine iteInduction (fun fading => ?_) fun _ => beside_refl s
  simp only [Bool.and_eq_true, decide_eq_true_eq] at fading
  exact beside_onChannel s c _ (moveTo_mark _ _ _) (.inr fun fresh => fading.2 (by rw [fresh]))

theorem refreshChannel_mark (s : State) (c x : ChannelId) :
    ((s.refreshChannel c).lcu.channels[x]).mark = (s.lcu.channels[x]).mark := by
  unfold State.refreshChannel
  rw [onChannel_record]
  split
  · subst x
    dsimp only
    split <;> rfl
  · rfl

/-- What a level taken up makes of the marks: a TRIPPED channel returns to service, every other mark stands (R47). -/
theorem applyLevel_mark (s : State) (c x : ChannelId) (level : Nat) :
    ((s.applyLevel c level).lcu.channels[x]).mark =
      if x = c ∧ (s.lcu.channels[c]).mark = .tripped then .inService else (s.lcu.channels[x]).mark := by
  have taken (f : Channel → Channel) (old new : Nat) :
      ((((s.onChannel c f).alignEntry c old new).refreshChannel c).lcu.channels[x]).mark =
        if x = c then (f s.lcu.channels[c]).mark else (s.lcu.channels[x]).mark := by
    rw [refreshChannel_mark, State.alignEntry_lcu, onChannel_record]
    split <;> rfl
  have untripped {k : ChannelMark} (mark : (s.lcu.channels[c]).mark = k) (ne : k ≠ .tripped) :
      (if x = c ∧ (s.lcu.channels[c]).mark = .tripped then ChannelMark.inService else (s.lcu.channels[x]).mark) =
        (s.lcu.channels[x]).mark := if_neg fun h => ne (mark.symm.trans h.2)
  unfold State.applyLevel
  dsimp only
  split
  · next mark => exact (untripped mark nofun).symm
  · next mark => exact (untripped mark nofun).symm
  · next mark =>
    refine Eq.trans ?_ (untripped mark nofun).symm
    split
    · rfl
    · rw [taken]
      split
      · subst x; rfl
      · rfl
  · next mark =>
    rw [taken]
    simp only [mark, and_true]

theorem applyLevel_island (s : State) (c : ChannelId) (level : Nat) :
    (s.applyLevel c level).sbu.island = s.sbu.island := by
  have aligned (t : State) (old new : Nat) : (t.alignEntry c old new).sbu.island = t.sbu.island := by
    unfold State.alignEntry
    dsimp only
    repeat' split
    all_goals simp [State.removeEntry, State.createEntry, State.changeEntry, State.setDemands]
  unfold State.applyLevel
  dsimp only
  split
  · rfl
  · rfl
  · split
    · rfl
    · simp [aligned]
  · simp [aligned]

theorem beside_applyLevel {s : State} (takes : s.takesLoads = true) (c : ChannelId) (level : Nat) :
    Beside s (s.applyLevel c level) := by
  have marks := fun x => applyLevel_mark s c x level
  constructor
  case mark =>
    intro x other
    rw [marks, if_neg]
    rintro ⟨rfl, tripped⟩
    exact other tripped
  case locked =>
    intro x h
    rw [marks] at h
    split at h
    · cases h
    · exact h
  case early => exact fun out => absurd (out.symm.trans (working_of_takesLoads takes)) Bool.false_ne_true
  case island => exact applyLevel_island s c level
  case reports => exact reports_of_fcl (by simp)
  case faulty => exact fun cs => by unfold State.senseFaulty; rw [State.applyLevel_csa]
  all_goals simp

theorem Beside.trans (h : Beside s t) (k : Beside t u) : Beside s u where
  now := k.now.trans h.now
  pending := k.pending.trans h.pending
  cfg := k.cfg.trans h.cfg
  suc := k.suc.trans h.suc
  ptu := k.ptu.trans h.ptu
  liu := k.liu.trans h.liu
  zcu := k.zcu.trans h.zcu
  island := k.island.trans h.island
  mark c service := (k.mark c (by rw [h.mark c service]; exact service)).trans (h.mark c service)
  locked c e := h.locked c (k.locked c e)
  early out fresh := by
    have same := h.early out fresh
    exact (k.early ((working_congr (by rw [h.suc])).trans out) (by rw [same]; exact fresh)).trans same
  faulty cs := (k.faulty cs).trans (h.faulty cs)
  reports := h.reports.trans k.reports

/-- A note in a mover's record is beside the other blocks. -/
theorem beside_onMover (s : State) (m : MoverId) (f : Mover → Mover) : Beside s (s.onMover m f) := by
  constructor
  case reports => exact reports_of_fcl rfl
  case mark => exact fun _ _ => rfl
  case locked => exact fun _ => id
  case early => exact fun _ _ => rfl
  case faulty => exact fun _ => rfl
  all_goals rfl

theorem beside_deliverReading {s : State} (work : s.working = true) (cs : SenseId) (reading : Nat) :
    Beside s (s.deliverReading cs reading) := by
  unfold State.deliverReading
  split
  · exact beside_onChannel s _ _ (compareReading_levels _ _ _).2.2.2 (.inl work)
  · split
    · exact beside_onMover s 0 _
    · exact beside_onMover s 1 _

theorem beside_onSense (s : State) (cs : SenseId) (f : Sense → Sense) (faulty : ∀ x, (f x).faulty = x.faulty) :
    Beside s (s.onSense cs f) := by
  constructor
  case reports => exact reports_of_fcl rfl
  case mark => exact fun _ _ => rfl
  case locked => exact fun _ => id
  case early => exact fun _ _ => rfl
  case faulty =>
    intro x
    unfold State.senseFaulty
    rw [State.onSense_inputs]
    by_cases same : x = cs
    · subst x; simp [faulty]
    · simp [same]
  all_goals rfl

theorem beside_convert (s : State) (cs : SenseId) (raw : Int) : Beside s (s.convert cs raw) := by
  have sampled := beside_onSense s cs (fun x => { x with raw := raw }) fun _ => rfl
  unfold State.convert
  dsimp only
  split
  · split
    · exact sampled.trans (beside_onSense _ cs _ fun _ => rfl)
    · split
      · next working =>
        have work : s.working = true := (Bool.and_eq_true_iff.1 working).1
        split
        · exact sampled.trans (beside_deliverReading (s := s.onSense cs _) work cs _)
        · exact sampled
      · exact sampled
  · exact sampled

/-! ### Every move's shape -/

theorem onQueue_offerFrame (s : State) (f : Frame) : OnQueue s (s.offerFrame f) := by
  have reports := (reports_offerFrame s f).mono (more := [.txqFull, .driveStale]) (by decide)
  constructor
  case reports => exact reports
  case ports =>
    unfold State.offerFrame
    repeat' split
    all_goals simp
  all_goals simp

theorem onQueue_ageDrive (s : State) : OnQueue s s.ageDrive := by
  have reports := (reports_ageDrive s).mono (more := [.txqFull, .driveStale]) (by decide)
  constructor
  case reports => exact reports
  case ports =>
    unfold State.ageDrive
    dsimp only
    repeat' split
    all_goals simp
  all_goals simp

theorem onQueue_compose (s : State) : OnQueue s s.compose := by
  constructor
  case reports => exact reports_of_fcl (by simp)
  case ports | demands | island => unfold State.compose; split <;> rfl
  all_goals simp

theorem onQueue_rfl {liu : Liu} (ports : liu.ports = s.liu.ports) : OnQueue s { s with liu := liu } :=
  ⟨rfl, rfl, rfl, rfl, rfl, ports, rfl, rfl, rfl, rfl, rfl, rfl, rfl, reports_of_fcl rfl⟩

theorem QueueMove.leaves (h : QueueMove s t) : OnQueue s t := by
  cases h with
  | compose => exact onQueue_compose s
  | depart | queued => exact onQueue_rfl rfl
  | offer f => exact onQueue_offerFrame s f
  | ageDrive => exact onQueue_ageDrive s

theorem aside_setPeer (s : State) (i : SlotId) (r : Option PeerRec) :
    Aside peerKinds { s with ptu := (s.setPeer i r).ptu } (s.setPeer i r).reportOrphans := by
  have reports := (reports_reportOrphans (s.setPeer i r)).mono (more := peerKinds) (by decide)
  constructor
  case reports => exact ⟨reports.flags, reports.first⟩
  all_goals simp

theorem Aside.peers {ptu : Ptu} (h : Aside peerKinds { s with ptu := ptu } t) :
    Aside peerKinds { s with ptu := t.ptu } t := by
  have same : t.ptu = ptu := h.ptu
  rw [same]
  exact h

theorem PeerMove.leaves (h : PeerMove s t) : Aside peerKinds { s with ptu := t.ptu } t := by
  cases h with
  | age n status => exact (aside_setPeer s n _).peers
  | file src i a =>
    have judged (u : State) : Aside peerKinds u (allMovers.foldl (State.judgeClash a.claims) u).reexamine :=
      (acts_aside ((Acts.foldl (acts_judgeClash a.claims) allMovers u).append (acts_reexamine _))).mono moverKinds_peer
    exact ((aside_setPeer s i _).trans (judged _)).peers
  | forget i => exact ((aside_setPeer s i none).trans ((acts_aside (acts_reexamine _)).mono moverKinds_peer)).peers

theorem shape_hold (s : State) (k : KeyId) (active : Bool) : Shape s (s.hold k active) := by
  unfold State.hold
  dsimp only
  split <;> exact .ofSame rfl rfl rfl rfl rfl rfl rfl rfl rfl rfl (reports_of_fcl rfl)

theorem aside_beginStandDown (s : State) :
    Aside moverKinds { s with suc := { s.suc with standDown := true } } s.beginStandDown :=
  acts_aside (acts_beginStandDown s)

theorem shape_standby (s : State) (pin : PinId) : Shape s (s.deliverPin pin true).standbyAsserted := by
  unfold State.standbyAsserted
  split
  · have begun := (aside_beginStandDown (s.deliverPin pin true)).mono moverKinds_home
    refine .movers { begun with
      fpr := rfl, suc := ?_, reports := ⟨begun.reports.flags, begun.reports.first⟩ }
    rw [begun.suc]
    rfl
  · exact Aside.shape (.refl _ _)

theorem move_shape (a : Move s t) : Shape s t := by
  cases a with
  | run quiet => exact .run quiet
  | port p f operate => exact .port p f operate
  | touch p f state dark wasFit => exact .touch p f state dark wasFit
  | twin => exact .twin
  | island => exact .island
  | compose => exact .queue .compose
  | depart => exact .queue .depart
  | queued serial f frame => exact .queue (.queued serial f frame)
  | offer f command => exact .queue (.offer f command)
  | ageDrive => exact .queue .ageDrive
  | age n status r known => exact .peers (.age n status r known)
  | file src i a other slot delivers => exact .peers (.file src i a other slot delivers)
  | forget i => exact .peers (.forget i)
  | event k event =>
    have reports := reports_raiseEvent s (mem_eventKinds event)
    exact .ofSame rfl rfl rfl rfl rfl rfl rfl rfl rfl rfl reports
  | expire k event =>
    have reports := reports_clearFlag s (mem_eventKinds event)
    exact .ofSame rfl rfl rfl rfl rfl rfl rfl rfl rfl rfl reports
  | takeOffers | settle | stopTimer | blink | key =>
    exact .ofSame rfl rfl rfl rfl rfl rfl rfl rfl rfl rfl (reports_of_fcl rfl)
  | holdKey k active => exact shape_hold s k active
  | level c level takes => exact .beside (beside_applyLevel takes c level)
  | beat c => exact .beside (beside_beatChannel s c)
  | channel c f mark fresh => exact .beside (beside_onChannel s c f mark (.inr fresh))
  | convert cs raw => exact .beside (beside_convert s cs raw)
  | drive src m motion => exact (acts_deliverDrive s src m motion).shape
  | reexamine => exact (acts_reexamine s).shape
  | hold m => exact (acts_holdExpired s m).shape
  | idle m code r here motion => exact (Acts.of (.idle m code r here motion)).shape
  | fault m reason r here motion own => exact (Acts.of (.fault m reason r here motion own)).shape
  | dwell m r here stopping => exact (acts_dwellOver here stopping).shape
  | unguard m => exact .beside (beside_onMover s m _)
  | occupancy pin active => exact (acts_reexamine _).delivered
  | lockOpen pin active => exact (acts_inputNow (acts_lockOpened pin) active _).delivered
  | lockClosed pin active => exact (acts_inputNow (acts_lockShut pin) active _).delivered
  | endSwitch pin active => exact (acts_inputNow (acts_endSwitch pin) active _).delivered
  | gypsy pin active => exact (acts_inputNow (acts_gypsy pin) active _).delivered
  | powerFault pin active => exact ((aside_powerFaultNow pin active _).mono moverKinds_home).shape
  | home pin active => exact (aside_homeNow pin active _).shape
  | standby pin => exact shape_standby s pin
  | resume pin =>
    exact .movers ⟨rfl, rfl, rfl, rfl, rfl, rfl, rfl, rfl, rfl, rfl, rfl, rfl, reports_of_fcl rfl⟩

end Shape

end Sys2Proof.Safety
end

section
/-! PROOFS. What no command touches (O3), what stands until the next reset (O59), the queue, the table and line fitness
(O25), and the steps and resets themselves (O1, O4, O5). -/

namespace Sys2Proof.Safety

open Sys2Proof Sys2Proof.Machine

/-- Settles O1: the step's own first branch. -/
theorem stepTakesTheFrontCommand : Obligations.StepTakesTheFrontCommand := by
  intro c rest s waiting
  simp [Machine.step, waiting]

/-! ### What no command touches -/

/-- The queue, the time base, the configuration, the own number and the image status are as they were. -/
structure Anchored (s t : State) : Prop where
  pending : t.pending = s.pending
  now : t.now = s.now
  cfg : t.cfg = s.cfg
  number : t.suc.ownNumber = s.suc.ownNumber
  image : t.suc.image = s.suc.image

section Anchored

variable {s t u : State}

theorem Anchored.trans (h : Anchored s t) (k : Anchored t u) : Anchored s u :=
  ⟨k.pending.trans h.pending, k.now.trans h.now, k.cfg.trans h.cfg, k.number.trans h.number, k.image.trans h.image⟩

theorem Anchored.refl (s : State) : Anchored s s := ⟨rfl, rfl, rfl, rfl, rfl⟩

theorem Aside.anchored {kinds : List FaultKind} (h : Aside kinds s t) : Anchored s t :=
  ⟨h.pending, h.now, h.cfg, by rw [h.suc], by rw [h.suc]⟩

theorem Acts.anchored (h : Acts s t) : Anchored s t := (acts_aside h).anchored

theorem anchored_foldl {α : Type} {f : State → α → State} (h : ∀ s a, Anchored s (f s a)) (l : List α) (s : State) :
    Anchored s (l.foldl f s) := by
  induction l generalizing s with
  | nil => exact .refl s
  | cons a l ih => exact (h s a).trans (ih _)

end Anchored

theorem anchored_beginStandDown (s : State) : Anchored s s.beginStandDown :=
  Anchored.trans (t := { s with suc := { s.suc with standDown := true } }) ⟨rfl, rfl, rfl, rfl, rfl⟩
    (acts_beginStandDown s).anchored

theorem anchored_compose (s : State) : Anchored s s.compose := by constructor <;> simp

theorem anchored_enterRun (s : State) : Anchored s s.enterRun := by
  have judged : Anchored s (State.judgeFitness
      { s with suc := { s.suc with phase := .run, since := s.now, runEntry := some s.now } }) := by
    constructor <;> simp
  unfold State.enterRun
  dsimp only
  split
  · exact (judged.trans (anchored_beginStandDown _)).trans (anchored_compose _)
  · exact judged.trans (anchored_compose _)

theorem anchored_move {s t : State} (a : Move s t) : Anchored s t := by
  cases move_shape a with
  | run => exact anchored_enterRun s
  | port | touch | twin | island => constructor <;> simp
  | queue h => exact ⟨h.leaves.pending, h.leaves.now, h.leaves.cfg, by rw [h.leaves.suc], by rw [h.leaves.suc]⟩
  | peers h => exact ⟨h.leaves.pending, h.leaves.now, h.leaves.cfg, by rw [h.leaves.suc], by rw [h.leaves.suc]⟩
  | movers h => exact ⟨h.pending, h.now, h.cfg, by rw [h.suc], by rw [h.suc]⟩
  | beside h => exact ⟨h.pending, h.now, h.cfg, by rw [h.suc], by rw [h.suc]⟩

theorem anchored_moves {s t : State} (h : Moves s t) : Anchored s t := by
  induction h with
  | refl => exact .refl s
  | tail _ last ih => exact ih.trans (anchored_move last)

/-! ### The millisecond -/

/-- Sampling changes the pins' conditioning alone (R134). -/
theorem samplePin_foldl (l : List PinId) (s : State) :
    l.foldl State.samplePin s = { s with fpr := (l.foldl State.samplePin s).fpr } := by
  induction l generalizing s with
  | nil => rfl
  | cons p l ih =>
    rw [List.foldl_cons, ih]
    rfl

theorem passTime_eq (s : State) :
    s.passTime = { s with now := s.now + 1, fpr := s.passTime.fpr, pending := s.passTime.pending } := by
  have sampled := samplePin_foldl (allPins.filter (State.pinRead { s with now := s.now + 1 })) { s with now := s.now + 1 }
  unfold State.passTime State.samplePins
  dsimp only at sampled ⊢
  generalize (allPins.filter _).foldl State.samplePin _ = u at sampled ⊢
  cases u
  cases sampled
  rfl

/-! ### The start-up and the tick -/

/-- The kinds a tick reports. -/
def tickKinds : List FaultKind := .supplyShort :: moverKinds

theorem sampleSupply_fcl (s : State) (supply : Bool) : (s.sampleSupply supply).fcl = s.fcl := by
  unfold State.sampleSupply State.settleSupply
  dsimp only
  split
  · split <;> rfl
  · rfl

theorem reports_budgetTick (s : State) : Reports tickKinds s s.budgetTick :=
  (reports_reportCond s _ (by decide)).after rfl

/-- What the blocks' part of a tick leaves: the pins, the channels, the entries and the movers aside, every block. -/
structure TickLeaves (s t : State) : Prop where
  now : t.now = s.now
  pending : t.pending = s.pending
  cfg : t.cfg = s.cfg
  suc : t.suc = s.suc
  ptu : t.ptu = s.ptu
  liu : t.liu = s.liu
  csa : t.csa = s.csa
  ktu : t.ktu = s.ktu
  island : t.sbu.island = s.sbu.island
  timer : t.sbu.islandTimer = s.sbu.islandTimer
  reports : Reports tickKinds s t

section TickLeaves

variable {s t u : State}

theorem TickLeaves.trans (h : TickLeaves s t) (k : TickLeaves t u) : TickLeaves s u :=
  ⟨k.now.trans h.now, k.pending.trans h.pending, k.cfg.trans h.cfg, k.suc.trans h.suc, k.ptu.trans h.ptu,
    k.liu.trans h.liu, k.csa.trans h.csa, k.ktu.trans h.ktu, k.island.trans h.island, k.timer.trans h.timer,
    h.reports.trans k.reports⟩

theorem Acts.tickLeaves (h : Acts s t) : TickLeaves s t := by
  have a := acts_aside h
  exact ⟨a.now, a.pending, a.cfg, a.suc, a.ptu, a.liu, a.csa, a.ktu, a.island, a.timer, a.reports.mono (by decide)⟩

theorem sampleSupply_leaves (s : State) (supply : Bool) : TickLeaves s (s.sampleSupply supply) := by
  unfold State.sampleSupply State.settleSupply
  dsimp only
  split
  · split <;> exact ⟨rfl, rfl, rfl, rfl, rfl, rfl, rfl, rfl, rfl, rfl, reports_of_fcl rfl⟩
  · exact ⟨rfl, rfl, rfl, rfl, rfl, rfl, rfl, rfl, rfl, rfl, reports_of_fcl rfl⟩

theorem budgetTick_leaves (s : State) : TickLeaves s s.budgetTick := by
  constructor
  case reports => exact reports_budgetTick s
  case island | timer => rw [budgetTick_sbu]
  all_goals simp

theorem tickChannels_leaves (s : State) : TickLeaves s s.tickChannels := by
  constructor
  case reports => exact reports_of_fcl (State.tickChannels_fcl s)
  all_goals simp

theorem tickBlocks_leaves (s : State) (supply : Bool) : TickLeaves s (s.tickBlocks supply) := by
  unfold State.tickBlocks
  split
  · have sampled := sampleSupply_leaves s supply
    generalize s.sampleSupply supply = t at sampled
    have allotted := (sampled.trans (budgetTick_leaves t)).trans (tickChannels_leaves _)
    generalize t.budgetTick.tickChannels = u at allotted
    exact allotted.trans (Acts.foldl acts_tickMover allMovers u).tickLeaves
  · exact ⟨rfl, rfl, rfl, rfl, rfl, rfl, rfl, rfl, rfl, rfl, .refl s _⟩

end TickLeaves

theorem reports_ownTick (s : State) (supply : Bool) : Reports tickKinds s (s.ownTick supply) := by
  have blocks := (tickBlocks_leaves s supply).reports
  have counted : Reports tickKinds s ((s.tickBlocks supply).advanceTick).countTick := ⟨blocks.flags, blocks.first⟩
  exact counted.after (State.compose_fcl _)

theorem anchored_ownTick (s : State) (supply : Bool) : Anchored s (s.ownTick supply) := by
  have blocks := tickBlocks_leaves s supply
  unfold State.ownTick
  generalize s.tickBlocks supply = t at blocks
  refine Anchored.trans (t := (t.advanceTick).countTick) ?_ (anchored_compose _)
  exact ⟨blocks.pending, blocks.now, blocks.cfg, by rw [← blocks.suc]; rfl, by rw [← blocks.suc]; rfl⟩

theorem anchored_fitMover (s : State) (m : MoverId) : Anchored s (fitMover s m) := by
  unfold fitMover
  dsimp only
  split
  · exact .refl s
  · split <;> exact ⟨rfl, rfl, rfl, rfl, rfl⟩

theorem anchored_fitChannel (s : State) (c : ChannelId) : Anchored s (fitChannel s c) := by
  unfold fitChannel
  split <;> exact ⟨rfl, rfl, rfl, rfl, rfl⟩

theorem anchored_takeOffsets (s : State) : Anchored s (allSenses.foldl (takeOffset s.cfg) s) :=
  anchored_foldl (f := takeOffset s.cfg) (fun _ _ => ⟨rfl, rfl, rfl, rfl, rfl⟩) allSenses s

theorem anchored_fitAll (s : State) : Anchored s s.fitAll := by
  have offsets := anchored_takeOffsets s
  unfold State.fitAll
  generalize allSenses.foldl (takeOffset s.cfg) s = t at offsets
  have marked : Anchored s (allMovers.foldl fitMover (allChannels.foldl fitChannel t)) :=
    (offsets.trans (anchored_foldl anchored_fitChannel allChannels t)).trans (anchored_foldl anchored_fitMover allMovers _)
  generalize allMovers.foldl fitMover (allChannels.foldl fitChannel t) = u at marked
  exact marked.trans ⟨rfl, rfl, rfl, rfl, rfl⟩

theorem anchored_enterQuiet (s : State) : Anchored s s.enterQuiet := by
  have entered : Anchored s { s with suc := { s.suc with phase := .quiet, since := s.now, nextTick := some s.now } } :=
    ⟨rfl, rfl, rfl, rfl, rfl⟩
  have held := entered.trans (anchored_foldl (f := heldAtStart) (fun t k => ⟨rfl, rfl, rfl, rfl, rfl⟩) allKeys _)
  exact held.trans (anchored_ownTick _ _)

theorem anchored_calibrated (s : State) : Anchored s s.fitAll.reportFitted.enterQuiet := by
  refine (anchored_fitAll s).trans (Anchored.trans ?_ (anchored_enterQuiet _))
  generalize s.fitAll = t
  unfold State.reportFitted
  constructor <;> simp

/-- Entry into LISTEN_ONLY leaves the queue and the time base (R174). -/
theorem enterListenOnly_clock (s : State) (kind : FaultKind) :
    (s.enterListenOnly kind).pending = s.pending ∧ (s.enterListenOnly kind).now = s.now := by
  have ticked (t : State) : (t.ownTick false).pending = t.pending ∧ (t.ownTick false).now = t.now :=
    ⟨(anchored_ownTick t false).pending, (anchored_ownTick t false).now⟩
  unfold State.enterListenOnly
  rw [(ticked _).1, (ticked _).2]
  simp

theorem takeStraps_clock (s : State) (v : Nat) :
    (s.takeStraps v).pending = s.pending ∧ (s.takeStraps v).now = s.now := by
  unfold State.takeStraps
  split
  · exact ⟨rfl, rfl⟩
  · exact enterListenOnly_clock s .badNumber

theorem acceptImage_clock (s : State) (cfg : Cfg) (levels : BitVec 32) :
    (s.acceptImage cfg levels).pending = s.pending ∧ (s.acceptImage cfg levels).now = s.now := by
  have sampled (t : State) : Anchored t (allPins.foldl (firstSample cfg levels) t) :=
    anchored_foldl (f := firstSample cfg levels) (fun t p => ⟨rfl, rfl, rfl, rfl, rfl⟩) allPins t
  unfold State.acceptImage
  rw [(sampled _).pending, (sampled _).now]
  exact ⟨rfl, rfl⟩

theorem effect_clock {i : Instr} {s t : State} (e : Effect i s t) :
    t.pending = s.pending ∧ (i ≠ .powerOn → i ≠ .pinReset → t.now = s.now) := by
  cases e with
  | powerOn => exact ⟨rfl, fun on => absurd rfl on⟩
  | pinReset => exact ⟨rfl, fun _ reset => absurd rfl reset⟩
  | strap straps =>
    have clock := takeStraps_clock s straps.toNat
    exact ⟨clock.1, fun _ _ => clock.2⟩
  | accept image levels cfg =>
    have clock := acceptImage_clock s cfg levels
    exact ⟨clock.1, fun _ _ => clock.2⟩
  | refuse =>
    have clock := enterListenOnly_clock { s with suc := { s.suc with image := .invalid } } .configInvalid
    exact ⟨clock.1, fun _ _ => clock.2⟩
  | calibrated => exact ⟨(anchored_calibrated s).pending, fun _ _ => (anchored_calibrated s).now⟩
  | tick supply => exact ⟨(anchored_ownTick s supply).pending, fun _ _ => (anchored_ownTick s supply).now⟩
  | trip c => simp
  | moves _ _ chain => exact ⟨(anchored_moves chain).pending, fun _ _ => (anchored_moves chain).now⟩

theorem effect_configuration {i : Instr} {s t : State} (e : Effect i s t) (strap : s.suc.phase ≠ .strap)
    (load : s.suc.phase ≠ .load) (on : i ≠ .powerOn) (reset : i ≠ .pinReset) :
    t.cfg = s.cfg ∧ t.suc.ownNumber = s.suc.ownNumber ∧ t.suc.image = s.suc.image := by
  have stands {u : State} (h : Anchored s u) :
      u.cfg = s.cfg ∧ u.suc.ownNumber = s.suc.ownNumber ∧ u.suc.image = s.suc.image := ⟨h.cfg, h.number, h.image⟩
  cases e with
  | powerOn => exact absurd rfl on
  | pinReset => exact absurd rfl reset
  | strap straps due => exact absurd (of_decide_eq_true (Bool.and_eq_true_iff.1 due).1) strap
  | accept image levels cfg loading | refuse image levels loading => exact absurd loading load
  | calibrated => exact stands (anchored_calibrated s)
  | tick supply => exact stands (anchored_ownTick s supply)
  | trip c => simp
  | moves _ _ chain => exact stands (anchored_moves chain)

/-- Settles O3: every command answers its effect, and no effect but a reset or a part of the start-up touches more. -/
theorem everyCommandCompletes : Obligations.EveryCommandCompletes := by
  intro c s
  obtain ⟨t, answer, effect⟩ := exec_effect c s
  exact ⟨t, answer, (effect_clock effect).1, (effect_clock effect).2, effect_configuration effect⟩

/-! ### What stands until the next reset -/

/-- TWIN once active and the first-fault record once filled stand (R14, R167). -/
structure FaultsStand (s t : State) : Prop where
  twin : s.active .twin = true → t.active .twin = true
  first : ∀ r, s.fcl.firstFault = some r → t.fcl.firstFault = some r

theorem FaultsStand.trans {s t u : State} (h : FaultsStand s t) (k : FaultsStand t u) : FaultsStand s u :=
  ⟨fun e => k.twin (h.twin e), fun r e => k.first r (h.first r e)⟩

theorem Reports.faultsStand {kinds : List FaultKind} {s t : State} (h : Reports kinds s t) (twin : .twin ∉ kinds) :
    FaultsStand s t := ⟨fun e => (h.active twin).trans e, h.first⟩

theorem raiseTwin_faultsStand (s : State) : FaultsStand s s.raiseTwin :=
  ⟨fun e => by rw [State.raiseTwin, if_pos e]; exact e, (reports_raiseTwin s).first⟩

theorem move_faultsStand {s t : State} (a : Move s t) : FaultsStand s t := by
  cases move_shape a with
  | run => exact (reports_enterRun s).faultsStand (by decide)
  | port p f => exact (reports_movePort s p f).faultsStand (by decide)
  | touch => exact ⟨id, fun _ => id⟩
  | twin => exact raiseTwin_faultsStand s
  | island => exact (reports_enterIsland s .timer).faultsStand (by decide)
  | queue h => exact h.leaves.reports.faultsStand (by decide)
  | peers h =>
    have stand := h.leaves.reports.faultsStand (by decide)
    exact ⟨stand.twin, stand.first⟩
  | movers h =>
    have stand := h.reports.faultsStand (by decide)
    exact ⟨stand.twin, stand.first⟩
  | beside h => exact h.reports.faultsStand (by decide)

theorem moves_faultsStand {s t : State} (h : Moves s t) : FaultsStand s t := by
  induction h with
  | refl => exact ⟨id, fun _ => id⟩
  | tail _ last ih => exact ih.trans (move_faultsStand last)

theorem ownTick_of_idle {s : State} (idle : s.working = false) (supply : Bool) :
    s.ownTick supply = (s.advanceTick.countTick).compose := by
  unfold State.ownTick State.tickBlocks
  rw [if_neg (by simp [idle])]

/-- A tick outside QUIET and RUN reports nothing (R39). -/
theorem reports_ownTick_of_idle {s : State} (idle : s.working = false) (supply : Bool) {kinds : List FaultKind} :
    Reports kinds s (s.ownTick supply) := by
  rw [ownTick_of_idle idle]
  exact Reports.after (t := s.advanceTick.countTick) ⟨fun _ _ => rfl, fun _ h => h⟩ (State.compose_fcl _)

theorem reports_raiseHalt (s : State) (k : FaultKind) : Reports (k :: moverKinds) s (s.raiseHalt k) := by
  refine iteInduction (fun _ => .refl s _) fun _ => ?_
  exact (reports_raiseCond s List.mem_cons_self).trans ((reports_haltMovers _).mono (List.subset_cons_self _ _))

theorem reports_enterListenOnly (s : State) (kind : FaultKind) :
    Reports (kind :: moverKinds) s (s.enterListenOnly kind) := by
  unfold State.enterListenOnly
  refine Reports.trans ((reports_raiseHalt _ kind).before ?_) (reports_ownTick_of_idle ?_ false)
  · rfl
  · simp [State.working]

theorem reports_fitAll (s : State) {kinds : List FaultKind} : Reports kinds s s.fitAll := by
  refine reports_of_fcl (fitAll_keeps State.fcl (fun _ _ _ => rfl) (fun u c => ?_) (fun u m => ?_) (fun _ _ => rfl) s)
  · unfold fitChannel
    split <;> rfl
  · unfold fitMover
    dsimp only
    split
    · rfl
    · split <;> rfl

/-- The kinds the end of CALIBRATE reports, with its first tick. -/
def calibrateKinds : List FaultKind := [.senseFault, .countUnknown] ++ tickKinds

theorem reports_reportFitted (s : State) : Reports calibrateKinds s s.reportFitted :=
  ((reports_reportCond s _ (by decide)).trans (reports_reportCond _ _ (by decide))).trans
    ((reports_reportReason _ .pumpFault).mono (by decide))

theorem reports_enterQuiet (s : State) : Reports tickKinds s s.enterQuiet := by
  unfold State.enterQuiet
  refine (reports_ownTick _ _).before ?_
  rw [foldl_keeps State.fcl heldAtStart fun _ _ => rfl]

theorem reports_calibrated (s : State) : Reports calibrateKinds s s.fitAll.reportFitted.enterQuiet := by
  refine (reports_fitAll s).trans ((reports_reportFitted _).trans ((reports_enterQuiet _).mono ?_))
  exact List.subset_append_right _ _

theorem reports_trip (s : State) (c : ChannelId) : Reports [.channelTrip, .channelLockout] s (s.trip c) := by
  have tripped : Reports [.channelTrip, .channelLockout] s ((s.removeEntry (.chan c)).raiseEvent .channelTrip) :=
    (reports_raiseEvent _ (by decide)).before (State.removeEntry_fcl s _)
  unfold State.trip
  dsimp only
  generalize (s.removeEntry (.chan c)).raiseEvent .channelTrip = t at tripped
  split
  · exact (tripped.after (State.onChannel_fcl t c _)).trans (reports_raiseCond _ (by decide))
  · exact tripped.after (State.onChannel_fcl t c _)

theorem acceptImage_fcl (s : State) (cfg : Cfg) (levels : BitVec 32) : (s.acceptImage cfg levels).fcl = s.fcl := by
  unfold State.acceptImage
  rw [foldl_keeps State.fcl (firstSample cfg levels) fun _ _ => rfl]
  rfl

theorem effect_faultsStand {i : Instr} {s t : State} (e : Effect i s t) (on : i ≠ .powerOn) (reset : i ≠ .pinReset) :
    FaultsStand s t := by
  cases e with
  | powerOn => exact absurd rfl on
  | pinReset => exact absurd rfl reset
  | strap straps =>
    unfold State.takeStraps
    split
    · exact ⟨id, fun _ => id⟩
    · exact (reports_enterListenOnly s .badNumber).faultsStand (by decide)
  | accept image levels cfg =>
    exact (reports_of_fcl (kinds := []) (acceptImage_fcl s cfg levels)).faultsStand (by decide)
  | refuse =>
    have entered := (reports_enterListenOnly { s with suc := { s.suc with image := .invalid } } .configInvalid).faultsStand
      (by decide)
    exact ⟨entered.twin, entered.first⟩
  | calibrated => exact (reports_calibrated s).faultsStand (by decide)
  | tick supply => exact (reports_ownTick s supply).faultsStand (by decide)
  | trip c => exact (reports_trip s c).faultsStand (by decide)
  | moves _ _ chain => exact moves_faultsStand chain

/-! ### The start-up's phases -/

theorem enterRun_phase (s : State) : s.enterRun.suc.phase = .run := by
  unfold State.enterRun
  dsimp only
  split
  · rw [State.compose_suc, (acts_aside (acts_beginStandDown _)).suc]
    simp
  · simp

/-- No move but the entry into RUN changes the start-up's phase (R173). -/
theorem move_phase {s t : State} (a : Move s t) :
    t.suc.phase = s.suc.phase ∨ s.suc.phase = .quiet ∧ t.suc.phase = .run := by
  cases move_shape a with
  | run quiet => exact .inr ⟨quiet, enterRun_phase s⟩
  | port | touch | twin | island => left; simp
  | queue h => exact .inl (by rw [h.leaves.suc])
  | peers h => exact .inl (by rw [h.leaves.suc])
  | movers h => exact .inl (by rw [h.suc])
  | beside h => exact .inl (by rw [h.suc])

theorem moves_listenOnly {s t : State} (h : Moves s t) (listen : s.suc.phase = .listenOnly) :
    t.suc.phase = .listenOnly := by
  induction h with
  | refl => exact listen
  | tail _ last ih =>
    obtain same | ⟨quiet, -⟩ := move_phase last
    · exact same.trans ih
    · cases quiet.symm.trans ih

theorem ownTick_suc (s : State) (supply : Bool) : (s.ownTick supply).suc.phase = s.suc.phase := by
  have blocks := (tickBlocks_leaves s supply).suc
  unfold State.ownTick
  rw [State.compose_suc]
  change (s.tickBlocks supply).suc.phase = s.suc.phase
  rw [blocks]

/-- LISTEN_ONLY is left by a reset alone (R174). -/
theorem effect_listenOnly {i : Instr} {s t : State} (e : Effect i s t) (on : i ≠ .powerOn) (reset : i ≠ .pinReset)
    (listen : s.suc.phase = .listenOnly) : t.suc.phase = .listenOnly := by
  have clash {phase : Phase} (h : s.suc.phase = phase) (other : phase ≠ .listenOnly) : False :=
    other (h.symm.trans listen)
  cases e with
  | powerOn => exact absurd rfl on
  | pinReset => exact absurd rfl reset
  | strap straps due => exact (clash (of_decide_eq_true (Bool.and_eq_true_iff.1 due).1) nofun).elim
  | accept image levels cfg load | refuse image levels load => exact (clash load nofun).elim
  | calibrated due => exact (clash (of_decide_eq_true (Bool.and_eq_true_iff.1 due).1) nofun).elim
  | tick supply => exact (ownTick_suc s supply).trans listen
  | trip c => simpa using listen
  | moves _ _ chain => exact moves_listenOnly chain listen

/-! ### Marks that stand -/

theorem enterRun_lcu (s : State) : s.enterRun.lcu = s.lcu := by
  unfold State.enterRun
  dsimp only
  split
  · rw [State.compose_lcu, (aside_beginStandDown _).lcu]
    simp
  · simp

theorem mark_of_lcu {s t : State} (same : t.lcu = s.lcu) (c : ChannelId) :
    (t.lcu.channels[c]).mark = (s.lcu.channels[c]).mark := by rw [same]

/-- A channel that is not TRIPPED keeps its mark through every move. -/
theorem move_mark {s t : State} (a : Move s t) (c : ChannelId) (other : (s.lcu.channels[c]).mark ≠ .tripped) :
    (t.lcu.channels[c]).mark = (s.lcu.channels[c]).mark := by
  cases move_shape a with
  | run => exact mark_of_lcu (enterRun_lcu s) c
  | port | touch | twin | island => exact mark_of_lcu (by simp) c
  | queue h => exact mark_of_lcu h.leaves.lcu c
  | peers h => exact mark_of_lcu (s := s) h.leaves.lcu c
  | movers h => exact mark_of_lcu (s := s) h.lcu c
  | beside h => exact h.mark c other

theorem moves_mark {s t : State} (h : Moves s t) (c : ChannelId) (other : (s.lcu.channels[c]).mark ≠ .tripped) :
    (t.lcu.channels[c]).mark = (s.lcu.channels[c]).mark := by
  induction h with
  | refl => rfl
  | tail _ last ih => exact (move_mark last c (by rwa [ih])).trans ih

theorem ownTick_mark (s : State) (supply : Bool) (c : ChannelId) :
    ((s.ownTick supply).lcu.channels[c]).mark = (s.lcu.channels[c]).mark := by
  have cut (t : State) (d : ChannelId) : ((t.cutChannel d).lcu.channels[c]).mark = (t.lcu.channels[c]).mark := by
    unfold State.cutChannel
    dsimp only
    split
    · rw [onChannel_record]
      split
      · subst c; rfl
      · rfl
    · rfl
  have ticked (t : State) : (t.tickChannels.lcu.channels[c]).mark = (t.lcu.channels[c]).mark := by
    unfold State.tickChannels
    exact foldl_keeps (fun t => (t.lcu.channels[c]).mark) State.tickChannel
      (fun t d => (cut _ d).trans (refreshChannel_mark t d c)) allChannels t
  have blocks : ((s.tickBlocks supply).lcu.channels[c]).mark = (s.lcu.channels[c]).mark := by
    unfold State.tickBlocks
    split
    · have sampled : (s.sampleSupply supply).lcu = s.lcu := by
        unfold State.sampleSupply State.settleSupply
        dsimp only
        split
        · split <;> rfl
        · rfl
      have allotted : ((s.sampleSupply supply).budgetTick).lcu = s.lcu := (State.budgetTick_lcu _).trans sampled
      generalize (s.sampleSupply supply).budgetTick = t at allotted
      exact (mark_of_lcu (acts_aside (Acts.foldl acts_tickMover allMovers _)).lcu c).trans
        ((ticked t).trans (mark_of_lcu allotted c))
    · rfl
  exact (mark_of_lcu (State.compose_lcu _) c).trans blocks

theorem fitAll_unfitted (s : State) (c : ChannelId) (unfitted : (s.lcu.channels[c]).mark = .unfitted) :
    (s.fitAll.lcu.channels[c]).mark = .unfitted := by
  have mover (t : State) (m : MoverId) : (fitMover t m).lcu = t.lcu := by
    unfold fitMover
    dsimp only
    split
    · rfl
    · split <;> rfl
  have channel (l : List ChannelId) (t : State) (h : (t.lcu.channels[c]).mark = .unfitted) :
      ((l.foldl fitChannel t).lcu.channels[c]).mark = .unfitted := by
    induction l generalizing t with
    | nil => exact h
    | cons d l ih =>
      refine ih _ ?_
      unfold fitChannel
      split
      · exact h
      · rw [onChannel_record]
        split
        · rfl
        · exact h
  unfold State.fitAll
  dsimp only
  rw [foldl_keeps State.lcu fitMover mover]
  refine channel allChannels _ ?_
  rw [foldl_keeps State.lcu (takeOffset s.cfg) fun _ _ => rfl]
  exact unfitted

theorem calibrated_mark (s : State) (c : ChannelId) (unfitted : (s.lcu.channels[c]).mark = .unfitted) :
    (s.fitAll.reportFitted.enterQuiet.lcu.channels[c]).mark = .unfitted := by
  have fitted := fitAll_unfitted s c unfitted
  unfold State.enterQuiet
  rw [ownTick_mark, foldl_keeps State.lcu heldAtStart fun _ _ => rfl]
  have reported (t : State) : t.reportFitted.lcu = t.lcu := by simp [State.reportFitted]
  rw [reported]
  exact fitted

theorem enterListenOnly_lcu (s : State) (kind : FaultKind) : (s.enterListenOnly kind).lcu = s.lcu := by
  unfold State.enterListenOnly
  rw [ownTick_of_idle]
  · rw [State.compose_lcu]
    simp [State.advanceTick]
  · simp [State.working]

theorem trip_of_off {s : State} {c : ChannelId} (due : s.tripDue c = true)
    (out : (s.lcu.channels[c]).mark ≠ .inService) (off : (s.lcu.channels[c]).position = 0) : False := by
  unfold State.tripDue overrun tripOwed at due
  rw [off, decide_eq_false out] at due
  simp at due

/-- A channel LOCKED_OUT or UNFITTED with its output off keeps its mark, the end of CALIBRATE aside (R57, R42). -/
theorem effect_mark {i : Instr} {s t : State} (e : Effect i s t) (on : i ≠ .powerOn) (reset : i ≠ .pinReset)
    (c : ChannelId) (mark : (s.lcu.channels[c]).mark = .unfitted ∨
      (s.lcu.channels[c]).mark = .lockedOut ∧ s.suc.phase ≠ .calibrate)
    (off : (s.lcu.channels[c]).position = 0) : (t.lcu.channels[c]).mark = (s.lcu.channels[c]).mark := by
  have out : (s.lcu.channels[c]).mark ≠ .inService ∧ (s.lcu.channels[c]).mark ≠ .tripped := by
    obtain mark | ⟨mark, -⟩ := mark <;> rw [mark] <;> exact ⟨nofun, nofun⟩
  cases e with
  | powerOn => exact absurd rfl on
  | pinReset => exact absurd rfl reset
  | strap straps =>
    unfold State.takeStraps
    split
    · rfl
    · exact mark_of_lcu (enterListenOnly_lcu s _) c
  | accept image levels cfg =>
    refine mark_of_lcu ?_ c
    unfold State.acceptImage
    rw [foldl_keeps State.lcu (firstSample cfg levels) fun _ _ => rfl]
    rfl
  | refuse =>
    have same := enterListenOnly_lcu { s with suc := { s.suc with image := .invalid } } .configInvalid
    exact mark_of_lcu (t := s.refuseImage) same c
  | calibrated due =>
    obtain mark | ⟨-, other⟩ := mark
    · rw [calibrated_mark s c mark, mark]
    · exact absurd (of_decide_eq_true (Bool.and_eq_true_iff.1 due).1) other
  | tick supply => exact ownTick_mark s supply c
  | trip d due =>
    rw [State.trip_channel]
    split
    · subst d
      exact (trip_of_off due out.1 off).elim
    · rfl
  | moves _ _ chain => exact moves_mark chain c out.2

/-- Settles O59: no effect but a reset takes any of it back. -/
theorem someThingsStandUntilReset : Obligations.SomeThingsStandUntilReset := by
  intro s t c answer on reset
  have effect := effect_of_exec answer
  have stand := effect_faultsStand effect on reset
  refine ⟨stand.twin, stand.first, effect_listenOnly effect on reset, fun ch other mark off => ?_, fun ch mark off => ?_⟩
  · rw [effect_mark effect on reset ch (.inr ⟨mark, other⟩) off, mark]
  · rw [effect_mark effect on reset ch (.inl mark) off, mark]

end Sys2Proof.Safety
end

section
/-! PROOFS. The transmit queue, the own slot of the table and line fitness (O25). -/

namespace Sys2Proof.Safety

open Sys2Proof Sys2Proof.Machine

variable {s t : State}

/-! ### The transmit queue -/

theorem QueueOk.keep (h : QueueOk s) (slot : t.liu.slot = s.liu.slot) (fifo : t.liu.fifo = s.liu.fifo)
    (twin : t.active .twin = s.active .twin) : QueueOk t := by
  constructor
  · rw [slot]; exact h.slot
  · rw [fifo]; exact h.depth
  · rw [fifo]; exact h.commands
  · rw [twin, slot, fifo]; exact h.silent

theorem QueueOk.congr (h : QueueOk s) (liu : t.liu = s.liu) (twin : t.active .twin = s.active .twin) : QueueOk t :=
  h.keep (by rw [liu]) (by rw [liu]) twin

/-- A composed ANNOUNCE takes the slot (R157). -/
theorem QueueOk.compose (h : QueueOk s) : QueueOk s.compose := by
  refine iteInduction (fun may => ?_) fun _ => h
  have silent : s.active .twin = false := by simpa using (Bool.and_eq_true_iff.1 may).1
  constructor
  · intro q e
    cases e
    exact ⟨_, _, rfl⟩
  · exact h.depth
  · exact h.commands
  · exact fun twin => absurd (silent.symm.trans twin) Bool.false_ne_true

/-- Frames changed or taken out, each ANNOUNCE staying one and each command staying one. -/
theorem QueueOk.narrow (h : QueueOk s) {slot : Option Queued} {fifo : List Queued} {serial : Nat}
    (announce : ∀ q, slot = some q → ∃ x, s.liu.slot = some x ∧ x.frame = q.frame)
    (depth : fifo.length ≤ s.liu.fifo.length) (commands : ∀ q ∈ fifo, ∃ x ∈ s.liu.fifo, x.frame = q.frame) :
    QueueOk { s with liu := { s.liu with slot := slot, fifo := fifo, serial := serial } } := by
  constructor
  · intro q e
    obtain ⟨x, there, frame⟩ := announce q e
    obtain ⟨src, a, form⟩ := h.slot x there
    exact ⟨src, a, frame ▸ form⟩
  · exact depth.trans h.depth
  · rintro q hq ⟨src, a, form⟩
    obtain ⟨x, hx, frame⟩ := commands q hq
    exact h.commands x hx ⟨src, a, frame.trans form⟩
  · intro twin
    obtain ⟨none, nil⟩ := h.silent twin
    refine ⟨?_, ?_⟩
    · cases slot with
      | none => rfl
      | some q =>
        obtain ⟨x, there, -⟩ := announce q rfl
        cases none.symm.trans there
    · cases fifo with
      | nil => rfl
      | cons q l =>
        rw [nil] at depth
        cases depth

theorem isAnnounceFrame_iff (q : Queued) : isAnnounceFrame q ↔ isAnnounce q.frame = true := by
  unfold isAnnounceFrame
  cases q.frame <;> simp [isAnnounce]

theorem QueueOk.offerFrame (h : QueueOk s) {f : Frame} (command : isAnnounce f = false) : QueueOk (s.offerFrame f) := by
  unfold State.offerFrame
  split
  · exact h
  · next silent =>
    split
    · exact h.congr rfl ((reports_raiseEvent s List.mem_cons_self).active (by decide : _ ∉ [FaultKind.txqFull]))
    · next room =>
      constructor
      · exact h.slot
      · have : Config.fifoDepth = 4 := rfl
        simp only [List.length_append, List.length_cons, List.length_nil]
        omega
      · intro q hq
        rw [isAnnounceFrame_iff]
        obtain hq | hq := List.mem_append.1 hq
        · rw [← isAnnounceFrame_iff]
          exact h.commands q hq
        · obtain rfl := List.mem_singleton.1 hq
          simp [command]
      · exact fun twin => absurd twin silent

theorem QueueOk.ageDrive (h : QueueOk s) : QueueOk s.ageDrive := by
  unfold State.ageDrive
  split
  · exact h
  · next q _ =>
    have aged := h.narrow (fun x e => ⟨x, e, rfl⟩) (serial := s.liu.serial) (slot := s.liu.slot)
      (fifo := s.liu.fifo.filter fun x => x.serial ≠ q.serial) (List.length_filter_le _ _)
      fun x hx => ⟨x, List.mem_of_mem_filter hx, rfl⟩
    dsimp only
    split
    · exact aged
    · exact aged.congr rfl ((reports_raiseEvent _ List.mem_cons_self).active (by decide : _ ∉ [FaultKind.driveStale]))

theorem QueueOk.judgeDepartures (h : QueueOk s) : QueueOk s.judgeDepartures :=
  h.narrow (fun q e => ⟨q, (Option.filter_eq_some_iff.1 e).1, rfl⟩) (List.length_filter_le _ _)
    fun q hq => ⟨q, List.mem_of_mem_filter hq, rfl⟩

theorem QueueOk.onQueued (h : QueueOk s) (serial : Nat) {f : Queued → Queued} (frame : ∀ q, (f q).frame = q.frame) :
    QueueOk (s.onQueued serial f) := by
  have same (q : Queued) : q.frame = (if q.serial = serial then f q else q).frame := by
    split
    · exact (frame q).symm
    · rfl
  refine h.narrow (fun q e => ?_) (by simp) fun q hq => ?_
  · obtain ⟨x, there, rfl⟩ := Option.map_eq_some_iff.1 e
    exact ⟨x, there, same x⟩
  · obtain ⟨x, there, rfl⟩ := List.mem_map.1 hq
    exact ⟨x, there, same x⟩

theorem queueOk_of_empty (slot : s.liu.slot = none) (fifo : s.liu.fifo = []) : QueueOk s := by
  constructor
  · rw [slot]; nofun
  · simp [fifo]
  · simp [fifo]
  · exact fun _ => ⟨slot, fifo⟩

theorem raiseTwin_liu (twin : s.active .twin = false) : s.raiseTwin.liu = s.emptyQueue.liu := by
  unfold State.raiseTwin
  rw [if_neg (by simp [twin])]
  simp

theorem QueueOk.raiseTwin (h : QueueOk s) : QueueOk s.raiseTwin := by
  cases twin : s.active .twin with
  | true => rwa [State.raiseTwin, if_pos twin]
  | false => exact queueOk_of_empty (by rw [raiseTwin_liu twin]; rfl) (by rw [raiseTwin_liu twin]; rfl)

theorem Aside.queueOk {kinds : List FaultKind} (a : Aside kinds s t) (h : QueueOk s) (twin : .twin ∉ kinds) : QueueOk t :=
  h.congr a.liu (a.reports.active twin)

theorem QueueOk.judgeFitness (h : QueueOk s) : QueueOk s.judgeFitness :=
  h.congr (by simp) ((reports_judgeFitness s).active (by decide))

theorem QueueOk.beginStandDown (h : QueueOk s) : QueueOk s.beginStandDown :=
  (aside_beginStandDown s).queueOk (h.congr rfl rfl) (by decide)

theorem QueueOk.enterRun (h : QueueOk s) : QueueOk s.enterRun :=
  enterRun_keeps (h.congr rfl rfl) (fun _ => QueueOk.judgeFitness) (fun _ => QueueOk.beginStandDown)
    fun _ => QueueOk.compose

theorem QueueOk.queueMove (a : QueueMove s t) (h : QueueOk s) : QueueOk t := by
  cases a with
  | compose => exact h.compose
  | depart => exact h.judgeDepartures
  | queued serial f frame => exact h.onQueued serial frame
  | offer f command => exact h.offerFrame command
  | ageDrive => exact h.ageDrive

theorem QueueOk.move (a : Move s t) (h : QueueOk s) : QueueOk t := by
  cases move_shape a with
  | run => exact h.enterRun
  | port p f =>
    refine h.keep ?_ ?_ ((reports_movePort s p f).active (by cases p using Fin.cases <;> decide))
    · simp [State.movePort]
    · simp [State.movePort]
  | touch => exact h.keep rfl rfl rfl
  | twin => exact h.raiseTwin
  | island => exact h.congr (by simp) ((reports_enterIsland s .timer).active (by decide))
  | queue op => exact h.queueMove op
  | peers p => exact p.leaves.queueOk (h.congr rfl rfl) (by decide)
  | movers aside => exact aside.queueOk (h.congr rfl rfl) (by decide)
  | beside b => exact h.congr b.liu (b.reports.active (by decide))

theorem QueueOk.ownTick (h : QueueOk s) (supply : Bool) : QueueOk (s.ownTick supply) := by
  have blocks := tickBlocks_leaves s supply
  unfold State.ownTick
  generalize s.tickBlocks supply = t at blocks
  exact QueueOk.compose (h.congr blocks.liu (blocks.reports.active (by decide)))

theorem QueueOk.enterListenOnly (h : QueueOk s) (kind : FaultKind) (other : kind ≠ .twin) :
    QueueOk (s.enterListenOnly kind) := by
  have stripped : QueueOk (State.startPorts { s with
      cfg := Cfg.unconfigured, suc := { s.suc with phase := .listenOnly, since := s.now, nextTick := some s.now }
      mvu := {} }) := h.keep rfl rfl rfl
  unfold State.enterListenOnly
  refine QueueOk.ownTick (stripped.congr (by simp) ((reports_raiseHalt _ kind).active ?_)) false
  rw [List.mem_cons, not_or]
  exact ⟨Ne.symm other, by decide⟩

theorem firstSamples_liu (cfg : Cfg) (levels : BitVec 32) (s : State) :
    (allPins.foldl (firstSample cfg levels) s).liu = s.liu :=
  foldl_keeps State.liu (firstSample cfg levels) (fun _ _ => rfl) allPins s

theorem fitMover_liu (s : State) (m : MoverId) : (fitMover s m).liu = s.liu := by
  unfold fitMover
  dsimp only
  split
  · rfl
  · split <;> rfl

theorem fitChannel_liu (s : State) (c : ChannelId) : (fitChannel s c).liu = s.liu := by
  unfold fitChannel
  split <;> rfl

theorem fitAll_liu (s : State) : s.fitAll.liu = s.liu :=
  fitAll_keeps State.liu (fun _ _ _ => rfl) fitChannel_liu fitMover_liu (fun _ _ => rfl) s

theorem heldAtStart_keeps {β : Type} (view : State → β) (same : ∀ s ktu, view { s with ktu := ktu } = view s)
    (s : State) : view (allKeys.foldl heldAtStart s) = view s :=
  foldl_keeps view heldAtStart (fun t _ => same t _) allKeys s

theorem reportFitted_liu (s : State) : s.reportFitted.liu = s.liu := by simp [State.reportFitted]

theorem QueueOk.enterQuiet (h : QueueOk s) : QueueOk s.enterQuiet := by
  unfold State.enterQuiet
  refine QueueOk.ownTick (h.congr ?_ ?_) _
  · rw [heldAtStart_keeps State.liu fun _ _ => rfl]
  · unfold State.active
    rw [heldAtStart_keeps State.fcl fun _ _ => rfl]

theorem queue_kept : Kept QueueOk where
  waits _ _ h := h.congr rfl rfl
  passes s h := by
    rw [passTime_eq]
    exact h.congr rfl rfl
  powerOn s _ := queueOk_of_empty rfl rfl
  pinReset s _ := queueOk_of_empty rfl rfl
  strap s v _ h := by
    refine iteInduction (fun _ => h.congr rfl rfl) fun _ => h.enterListenOnly .badNumber nofun
  accept s image cfg levels _ _ h := by
    unfold State.acceptImage
    refine QueueOk.keep h ?_ ?_ ?_
    · rw [firstSamples_liu]; rfl
    · rw [firstSamples_liu]; rfl
    · unfold State.active
      rw [foldl_keeps State.fcl (firstSample cfg levels) fun _ _ => rfl]
      rfl
  refuse s load h :=
    QueueOk.enterListenOnly (s := { s with suc := { s.suc with image := .invalid } }) (h.congr rfl rfl) .configInvalid nofun
  calibrated s _ h := by
    have fitted : QueueOk s.fitAll := h.congr (fitAll_liu s) ((reports_fitAll s (kinds := [])).active (by decide))
    exact (fitted.congr (reportFitted_liu _) ((reports_reportFitted _).active (by decide))).enterQuiet
  tick s supply _ h := h.ownTick supply
  trip s c _ h := h.congr (by simp) ((reports_trip s c).active (by decide))
  move _ _ a h := h.move a

/-! ### The own slot -/

theorem TableOk.keep (h : TableOk s) (number : t.suc.ownNumber = s.suc.ownNumber) (phase : t.suc.phase = s.suc.phase)
    (ptu : t.ptu = s.ptu) : TableOk t := by
  constructor
  · rw [number, ptu]; exact h.own
  · rw [phase, ptu]; exact h.strap

theorem TableOk.congr (h : TableOk s) (suc : t.suc = s.suc) (ptu : t.ptu = s.ptu) : TableOk t :=
  h.keep (by rw [suc]) (by rw [suc]) ptu

/-- The own slot, past STRAP. -/
theorem TableOk.later (h : TableOk s) (number : t.suc.ownNumber = s.suc.ownNumber) (phase : t.suc.phase ≠ .strap)
    (ptu : t.ptu = s.ptu) : TableOk t := by
  constructor
  · rw [number, ptu]; exact h.own
  · exact fun strap => absurd strap phase

/-- A record changed in a slot that is not the own one (R3). -/
theorem TableOk.record (h : TableOk s) {i : SlotId} {r : Option PeerRec} (suc : t.suc = s.suc)
    (ptu : t.ptu = (s.setPeer i r).ptu) (own : ∀ n, s.suc.ownNumber = some n → slotOf n = some i → r = none)
    (strap : s.suc.phase = .strap → r = none) : TableOk t := by
  have record (j : SlotId) : t.ptu.peers[j] = if j = i then r else s.ptu.peers[j] := by
    rw [← State.setPeer_record, ← ptu]
  constructor
  · intro n j number slot
    rw [record]
    rw [suc] at number
    split
    · subst j; exact own n number slot
    · exact h.own n j number slot
  · intro phase j
    rw [record]
    rw [suc] at phase
    split
    · exact strap phase
    · exact h.strap phase j

theorem slotOf_inj {a b : Nat} {i : SlotId} (ha : slotOf a = some i) (hb : slotOf b = some i) : a = b := by
  unfold slotOf at ha hb
  split at ha
  · split at hb
    · have := (Option.some.inj ha).trans (Option.some.inj hb).symm
      simp only [Fin.mk.injEq] at this
      omega
    · cases hb
  · cases ha

theorem PeerMove.ptu {i : SlotId} {r : Option PeerRec} {u : State} {kinds : List FaultKind}
    (h : Aside kinds (s.setPeer i r).reportOrphans u) : u.ptu = (s.setPeer i r).ptu :=
  h.ptu.trans (State.reportOrphans_ptu _)

theorem TableOk.peerMove (a : PeerMove s t) (h : TableOk s) : TableOk t := by
  have suc := a.leaves.suc
  cases a with
  | age n status r known =>
    refine h.record suc (State.reportOrphans_ptu _) (fun k number slot => ?_) fun strap => ?_
    · cases (h.own k n number slot).symm.trans known
    · cases (h.strap strap n).symm.trans known
  | file src i a other slot delivers =>
    have filed := PeerMove.ptu (acts_aside ((Acts.foldl (acts_judgeClash a.claims) allMovers
      (s.setPeer i (some { status := .live, heard := s.now, ann := a })).reportOrphans).append (acts_reexamine _)))
    refine h.record suc filed (fun k number there => ?_) fun strap => ?_
    · exact absurd (slotOf_inj there slot ▸ number) other
    · exact absurd delivers (by simp [State.delivers, State.working, strap])
  | forget i =>
    exact h.record suc (PeerMove.ptu (acts_aside (acts_reexamine _))) (fun _ _ _ => rfl) fun _ => rfl

theorem enterRun_ptu (s : State) : s.enterRun.ptu = s.ptu :=
  enterRun_keeps (I := fun t => t.ptu = s.ptu) rfl (fun t h => (State.judgeFitness_ptu t).trans h)
    (fun t h => (aside_beginStandDown t).ptu.trans h) fun t h => (State.compose_ptu t).trans h

theorem TableOk.move (a : Move s t) (h : TableOk s) : TableOk t := by
  have anchored := anchored_move a
  cases move_shape a with
  | run => exact h.later anchored.number (by rw [enterRun_phase]; nofun) (enterRun_ptu s)
  | port | touch | twin | island => exact h.congr (by simp) (by simp)
  | queue op => exact h.congr op.leaves.suc op.leaves.ptu
  | peers p => exact h.peerMove p
  | movers aside => exact h.keep (by rw [aside.suc]) (by rw [aside.suc]) aside.ptu
  | beside b => exact h.congr b.suc b.ptu

theorem ownTick_ptu (s : State) (supply : Bool) : (s.ownTick supply).ptu = s.ptu := by
  have blocks := tickBlocks_leaves s supply
  unfold State.ownTick
  generalize s.tickBlocks supply = t at blocks
  exact (State.compose_ptu _).trans blocks.ptu

theorem TableOk.ownTick (h : TableOk s) (supply : Bool) : TableOk (s.ownTick supply) :=
  h.keep (anchored_ownTick s supply).number (ownTick_suc s supply) (ownTick_ptu s supply)

theorem enterListenOnly_suc (s : State) (kind : FaultKind) :
    (s.enterListenOnly kind).suc.phase = .listenOnly ∧ (s.enterListenOnly kind).suc.ownNumber = s.suc.ownNumber ∧
      (s.enterListenOnly kind).suc.image = s.suc.image := by
  unfold State.enterListenOnly
  rw [ownTick_suc, (anchored_ownTick _ false).number, (anchored_ownTick _ false).image]
  simp

theorem enterListenOnly_ptu (s : State) (kind : FaultKind) : (s.enterListenOnly kind).ptu = s.ptu := by
  unfold State.enterListenOnly
  rw [ownTick_ptu]
  simp

theorem TableOk.enterListenOnly (h : TableOk s) (kind : FaultKind) : TableOk (s.enterListenOnly kind) := by
  obtain ⟨phase, number, -⟩ := enterListenOnly_suc s kind
  exact h.later number (by rw [phase]; nofun) (enterListenOnly_ptu s kind)

theorem tableOk_of_empty (number : s.suc.ownNumber = none) (ptu : s.ptu = {}) : TableOk s := by
  constructor
  · intro n i e
    cases number.symm.trans e
  · intro _ i
    simp [ptu]

theorem fitMover_ptu (s : State) (m : MoverId) : (fitMover s m).ptu = s.ptu := by
  unfold fitMover
  dsimp only
  split
  · rfl
  · split <;> rfl

theorem fitChannel_ptu (s : State) (c : ChannelId) : (fitChannel s c).ptu = s.ptu := by
  unfold fitChannel
  split <;> rfl

theorem calibrated_ptu (s : State) : s.fitAll.reportFitted.enterQuiet.ptu = s.ptu := by
  have fitted : s.fitAll.ptu = s.ptu :=
    fitAll_keeps State.ptu (fun _ _ _ => rfl) fitChannel_ptu fitMover_ptu (fun _ _ => rfl) s
  have reported (t : State) : t.reportFitted.ptu = t.ptu := by simp [State.reportFitted]
  have entered (t : State) : t.enterQuiet.ptu = t.ptu := by
    unfold State.enterQuiet
    rw [ownTick_ptu, heldAtStart_keeps State.ptu fun _ _ => rfl]
  rw [entered, reported, fitted]

theorem enterQuiet_phase (s : State) : s.enterQuiet.suc.phase = .quiet := by
  unfold State.enterQuiet
  rw [ownTick_suc, heldAtStart_keeps State.suc fun _ _ => rfl]

theorem acceptImage_suc (s : State) (cfg : Cfg) (levels : BitVec 32) :
    (s.acceptImage cfg levels).suc = { s.suc with phase := .calibrate, since := s.now, image := .valid } := by
  unfold State.acceptImage
  rw [foldl_keeps State.suc (firstSample cfg levels) fun _ _ => rfl]
  rfl

theorem acceptImage_ptu (s : State) (cfg : Cfg) (levels : BitVec 32) : (s.acceptImage cfg levels).ptu = s.ptu := by
  unfold State.acceptImage
  rw [foldl_keeps State.ptu (firstSample cfg levels) fun _ _ => rfl]
  rfl

theorem table_kept : Kept TableOk where
  waits _ _ h := h.congr rfl rfl
  passes s h := by
    rw [passTime_eq]
    exact h.congr rfl rfl
  powerOn s _ := tableOk_of_empty rfl rfl
  pinReset s _ := tableOk_of_empty rfl rfl
  strap s v strap h := by
    refine iteInduction (fun _ => ?_) fun _ => h.enterListenOnly .badNumber
    exact ⟨fun n i _ _ => h.strap strap i, fun later => nomatch later⟩
  accept s image cfg levels _ _ h := by
    have suc := acceptImage_suc s cfg levels
    exact h.later (by rw [suc]) (by rw [suc]; nofun) (acceptImage_ptu s cfg levels)
  refuse s load h :=
    TableOk.enterListenOnly (s := { s with suc := { s.suc with image := .invalid } }) (h.keep rfl rfl rfl) .configInvalid
  calibrated s _ h := h.later (anchored_calibrated s).number (by rw [enterQuiet_phase]; nofun) (calibrated_ptu s)
  tick s supply _ h := h.ownTick supply
  trip s c _ h := h.congr (by simp) (by simp)
  move _ _ a h := h.move a

/-! ### Line fitness -/

theorem FitnessOk.keep (h : FitnessOk s) (phase : t.suc.phase = s.suc.phase) (cfg : t.cfg = s.cfg)
    (ports : t.liu.ports = s.liu.ports) (fit : t.active .lineUnfit = s.active .lineUnfit) : FitnessOk t := by
  intro running
  have same : t.lineFit = s.lineFit := by
    unfold State.lineFit State.portFit
    rw [cfg, ports]
  rw [fit, same]
  refine h ?_
  unfold State.running at running ⊢
  rwa [← phase]

theorem Aside.fitnessOk {kinds : List FaultKind} (a : Aside kinds s t) (h : FitnessOk s) (out : .lineUnfit ∉ kinds) :
    FitnessOk t := h.keep (by rw [a.suc]) a.cfg (by rw [a.liu]) (a.reports.active out)

/-- Line fitness once judged is as LINE_UNFIT shows it, whatever stood before (R154). -/
theorem fitnessOk_judgeFitness (s : State) : FitnessOk s.judgeFitness := by
  intro running
  have fit : s.judgeFitness.lineFit = s.lineFit := by simp [State.lineFit, State.portFit]
  have run : s.running = true := by simpa [State.running] using running
  have acted {t u : State} (h : Acts t u) : u.active .lineUnfit = t.active .lineUnfit :=
    (acts_aside h).reports.active (by decide)
  rw [fit]
  unfold State.judgeFitness
  rw [if_pos run]
  cases line : s.lineFit with
  | true =>
    rw [if_pos rfl]
    split
    · unfold State.regainFitness
      rw [acted (acts_reactAll _)]
      unfold State.active
      rw [restartWindows_fcl]
      exact ((reports_leaveIsland _).active (by decide)).trans ((State.clearFlag_active s _ _).trans (if_pos rfl))
    · exact Bool.eq_false_iff.2 ‹_›
  | false =>
    rw [if_neg Bool.false_ne_true]
    split
    · assumption
    · have stopped := acted (Acts.foldl acts_fitnessStop allMovers (s.raiseCond .lineUnfit))
      unfold State.loseFitness
      dsimp only
      generalize allMovers.foldl State.fitnessStop (s.raiseCond .lineUnfit) = t at stopped
      exact stopped.trans ((State.raiseCond_active s _ _).trans (if_pos rfl))

theorem FitnessOk.compose (h : FitnessOk s) : FitnessOk s.compose := by
  have c := onQueue_compose s
  exact h.keep (by rw [c.suc]) c.cfg c.ports (c.reports.active (by decide))

theorem FitnessOk.beginStandDown (h : FitnessOk s) : FitnessOk s.beginStandDown :=
  (aside_beginStandDown s).fitnessOk (h.keep rfl rfl rfl rfl) (by decide)

theorem fitnessOk_enterRun (s : State) : FitnessOk s.enterRun := by
  have judged := fitnessOk_judgeFitness
    { s with suc := { s.suc with phase := .run, since := s.now, runEntry := some s.now } }
  unfold State.enterRun
  dsimp only
  split
  · exact judged.beginStandDown.compose
  · exact judged.compose

theorem onPort_record (s : State) (p q : PortId) (f : Port → Port) :
    (s.onPort p f).liu.ports[q] = if q = p then f s.liu.ports[p] else s.liu.ports[q] :=
  modifyAt_get s.liu.ports p q f

/-- A port that stays in its state moves no line fitness. -/
theorem onPort_lineFit {p : PortId} {f : Port → Port} (state : (f s.liu.ports[p]).state = (s.liu.ports[p]).state) :
    (s.onPort p f).lineFit = s.lineFit := by
  have same (q : PortId) : (s.onPort p f).portFit q = s.portFit q := by
    unfold State.portFit
    rw [onPort_record]
    split
    · subst q; rw [state]
    · rfl
  unfold State.lineFit
  rw [same, same]
  rfl

theorem FitnessOk.move (a : Move s t) (h : FitnessOk s) : FitnessOk t := by
  cases move_shape a with
  | run => exact fitnessOk_enterRun s
  | port p f => exact fitnessOk_judgeFitness _
  | touch p f state =>
    intro running
    rw [onPort_lineFit state]
    exact h running
  | twin =>
    exact h.keep (by simp) (by simp) (by unfold State.raiseTwin; split <;> simp [State.emptyQueue])
      ((reports_raiseTwin s).active (by decide))
  | island => exact h.keep (by simp) (by simp) (by simp) ((reports_enterIsland s .timer).active (by decide))
  | queue op =>
    have l := op.leaves
    exact h.keep (by rw [l.suc]) l.cfg l.ports (l.reports.active (by decide))
  | peers p => exact p.leaves.fitnessOk (h.keep rfl rfl rfl rfl) (by decide)
  | movers aside => exact aside.fitnessOk (h.keep rfl rfl rfl rfl) (by decide)
  | beside b => exact h.keep (by rw [b.suc]) b.cfg (by rw [b.liu]) (b.reports.active (by decide))

theorem fitnessOk_of_phase {phase : Phase} (h : s.suc.phase = phase) (other : phase ≠ .run) : FitnessOk s := by
  intro running
  exact absurd (h.symm.trans (of_decide_eq_true running)) other

theorem FitnessOk.ownTick (h : FitnessOk s) (supply : Bool) : FitnessOk (s.ownTick supply) := by
  have blocks := tickBlocks_leaves s supply
  unfold State.ownTick
  generalize s.tickBlocks supply = t at blocks
  have ticked : FitnessOk t := h.keep (by rw [blocks.suc]) blocks.cfg (by rw [blocks.liu]) (blocks.reports.active (by decide))
  exact FitnessOk.compose (ticked.keep rfl rfl rfl rfl)

theorem fitness_kept : Kept FitnessOk where
  waits _ _ h := h.keep rfl rfl rfl rfl
  passes s h := by
    rw [passTime_eq]
    exact h.keep rfl rfl rfl rfl
  powerOn s _ := fitnessOk_of_phase (s := s.afterReset) (phase := .strap) rfl nofun
  pinReset s _ := fitnessOk_of_phase (s := s.pinReset) (phase := .strap) rfl nofun
  strap s v strap h := by
    refine iteInduction (fun _ => ?_) fun _ => fitnessOk_of_phase (enterListenOnly_suc s .badNumber).1 nofun
    exact fitnessOk_of_phase (phase := .load) rfl nofun
  accept s image cfg levels _ _ _ :=
    fitnessOk_of_phase (phase := .calibrate) (by rw [acceptImage_suc]) nofun
  refuse s load _ := fitnessOk_of_phase (s := s.refuseImage) (enterListenOnly_suc _ .configInvalid).1 nofun
  calibrated s _ _ := fitnessOk_of_phase (enterQuiet_phase _) nofun
  tick s supply _ h := h.ownTick supply
  trip s c _ h := h.keep (by simp) (by simp) (by simp) ((reports_trip s c).active (by decide))
  move _ _ a h := h.move a

/-- Settles O25: each of the three is kept by every effect and every millisecond. -/
theorem stepKeepsQueueTableAndFitness : Obligations.StepKeepsQueueTableAndFitness :=
  ⟨fun _ _ => queue_kept.step, fun _ _ => table_kept.step, fun _ _ => fitness_kept.step⟩

end Sys2Proof.Safety
end

section
/-! PROOFS. The station after a reset (O4, O5, O39). -/

namespace Sys2Proof.Safety

open Sys2Proof Sys2Proof.Machine

theorem reset_inactive (k : FaultKind) : State.reset.active k = false := by simp [State.active, State.reset]

theorem reset_records : State.reset.records = [] := by
  refine List.eq_nil_iff_forall_not_mem.2 fun r h => ?_
  obtain ⟨i, e⟩ := (State.mem_records _ r).1 h
  simp [State.reset] at e

theorem reset_mover (m : MoverId) : State.reset.mover m = none := by simp [State.mover, State.reset]

theorem reset_claim (m : MoverId) : State.reset.claim m = .unclaimed := by simp [State.claim, State.reset]

/-- Settles O4: each block of the reset state, read off. -/
theorem resetGivesEveryBlockItsValue : Obligations.ResetGivesEveryBlockItsValue := by
  refine ⟨rfl, fun i => ?_, rfl, rfl, rfl, rfl, rfl, fun k => ?_, fun c => ?_, fun m => ⟨reset_claim m, reset_mover m⟩,
    fun p => ⟨?_, rfl⟩, fun k => ?_, fun cs => ?_, fun p => ?_, rfl, rfl, fun k => ?_, rfl, rfl, ?_, ?_, rfl, rfl⟩
  case refine_9 => simp [State.alert, State.reportedActive, reset_inactive]
  case refine_10 => simp [State.peerAlert, reset_records]
  all_goals simp [State.reset]

theorem afterReset_fpr (s : State) (p : PinId) :
    (s.afterReset.fpr.pins[p]) = { level := (s.fpr.pins[p]).level, delivered := false, candidate := none } := by
  simp [State.afterReset]

theorem afterReset_csa (s : State) (cs : SenseId) :
    s.afterReset.csa.inputs[cs] = { raw := (s.csa.inputs[cs]).raw, sum := 0, offset := none, faulty := false } := by
  simp [State.afterReset]

theorem retain_of_none {s : State} {m : MoverId} (none : s.mover m = none) : s.retain m = s.mvu.retained[m] := by
  unfold State.retain
  rw [none]

theorem pinReset_retained (s : State) (m : MoverId) : s.pinReset.mvu.retained[m] = s.retain m := by
  obtain rfl | rfl := mover_cases m <;> rfl

/-- Settles O5: both resets give the reset state, with the outside's levels and PIN_RESET's counts. -/
theorem resetsRestartTheStation : Obligations.ResetsRestartTheStation := by
  intro s restarted
  refine ⟨⟨_, rfl, ⟨rfl, rfl, afterReset_fpr s, afterReset_csa s⟩⟩,
    _, rfl, ⟨rfl, rfl, afterReset_fpr s, afterReset_csa s⟩, fun m => ⟨fun r here windlass => ?_, fun r here other => ?_,
      fun none => ?_⟩⟩
  · rw [pinReset_retained, State.retain, here]
    exact if_pos windlass
  · rw [pinReset_retained, State.retain, here]
    exact if_neg other
  · rw [pinReset_retained, retain_of_none none]

end Sys2Proof.Safety
end

section
/-! PROOFS. What the conditions of movers read of a record: that it is in force, the reason it is FAULTED with, whether it
is a fitted mover whose count is not known. Acts change it only by a fault and a CLEAR. -/

namespace Sys2Proof.Safety

open Sys2Proof Sys2Proof.Machine

variable {s t : State}

/-! ### Signs of a record -/

/-- What the conditions read of a record. -/
def signOf (r : Mover) : Option FaultReason × Bool :=
  (if r.phase = .faulted then r.faultReason else none, decide (r.phase ≠ .unfitted) && !r.known)

/-- What the conditions read of mover m. -/
def State.sign (s : State) (m : MoverId) : Option (Option FaultReason × Bool) := (s.mover m).map signOf

theorem sign_of_mvu (same : t.mvu = s.mvu) (x : MoverId) : State.sign t x = State.sign s x := by
  unfold State.sign State.mover
  rw [same]

theorem signOf_motion {r : Mover} (motion : r.phase.inMotion = true) : signOf r = (none, !r.known) := by
  unfold signOf
  cases phase : r.phase <;> simp_all [MoverPhase.inMotion]

theorem sign_isSome (s : State) (m : MoverId) : (State.sign s m).isSome = (s.mover m).isSome := by
  simp [State.sign]

theorem onMover_sign {m : MoverId} {f : Mover → Mover} (same : ∀ r, s.mover m = some r → signOf (f r) = signOf r)
    (x : MoverId) : State.sign (s.onMover m f) x = State.sign s x := by
  unfold State.sign
  rw [State.onMover_mover]
  split
  · subst x
    cases here : s.mover m with
    | none => rfl
    | some r => exact congrArg some (same r here)
  · rfl

/-- A mover in motion that stays in motion shows the same signs. -/
theorem onMover_sign_motion {m : MoverId} {r : Mover} {f : Mover → Mover} (here : s.mover m = some r)
    (motion : r.phase.inMotion = true) (after : (f r).phase.inMotion = true) (known : (f r).known = r.known)
    (x : MoverId) : State.sign (s.onMover m f) x = State.sign s x := by
  refine onMover_sign (fun y there => ?_) x
  obtain rfl : r = y := Option.some.inj (here.symm.trans there)
  rw [signOf_motion motion, signOf_motion after, known]

theorem proceed_sign {m : MoverId} {r : Mover} (here : s.mover m = some r) (phase : r.phase = .requesting)
    (x : MoverId) : State.sign (s.proceed m) x = State.sign s x := by
  have motion : r.phase.inMotion = true := by rw [phase]; rfl
  have running : State.sign (s.enterRunning m) x = State.sign s x := onMover_sign_motion here motion rfl rfl x
  unfold State.proceed
  split
  · split
    · unfold State.enterUnlocking
      split
      · exact running
      · exact onMover_sign_motion here motion rfl rfl x
    · exact running
  · rfl

theorem lookAgain_sign (s : State) (m x : MoverId) : State.sign (s.lookAgain m) x = State.sign s x := by
  unfold State.lookAgain
  split
  · split
    · next r here on => exact proceed_sign here on.1 x
    · rfl
  · rfl

/-- Entry into IDLE or FAULTED gives up the entry and the claim, and the other mover looks again: only the record itself
shows other signs. -/
theorem leave_sign (s : State) (m x : MoverId) (f : Mover → Mover) :
    State.sign ((((s.onMover m f).removeEntry (.mover m)).releaseClaim m)) x =
      if x = m then (s.mover m).map (signOf ∘ f) else State.sign s x := by
  have same : State.sign (((s.onMover m f).removeEntry (.mover m)).releaseClaim m) x = State.sign (s.onMover m f) x :=
    sign_of_mvu (by simp) x
  rw [same]
  unfold State.sign
  rw [State.onMover_mover]
  split
  · subst x; rw [Option.map_map]
  · rfl

theorem enterFaulted_sign (s : State) (m x : MoverId) (reason : FaultReason) :
    State.sign (s.enterFaulted m reason) x =
      if x = m then (s.mover m).map fun r => (some reason, !r.known) else State.sign s x := by
  unfold State.enterFaulted
  rw [lookAgain_sign, sign_of_mvu (State.reportReason_mvu _ reason), leave_sign]
  rfl

theorem enterIdle_sign {m : MoverId} {r : Mover} (here : s.mover m = some r) (motion : r.phase.inMotion = true)
    (code : RefusalCode) (x : MoverId) : State.sign (s.enterIdle m code) x = State.sign s x := by
  unfold State.enterIdle
  rw [lookAgain_sign, leave_sign]
  split
  · subst x
    unfold State.sign
    rw [here, Option.map_some, Option.map_some, signOf_motion motion]
    rfl
  · rfl

/-- A CLEAR takes its mover's reason away and leaves every other sign (R111). -/
theorem clearFault_sign {m : MoverId} {r : Mover} (here : s.mover m = some r) (x : MoverId) :
    State.sign (s.clearFault m r) x = if x = m then some (none, !r.known) else State.sign s x := by
  have cleared : State.sign (s.onMover m fun y => { y with phase := .idle, faultReason := none, lastRefusal := .clear }) x =
      if x = m then some (none, !r.known) else State.sign s x := by
    unfold State.sign
    rw [State.onMover_mover]
    split
    · subst x; rw [here]; rfl
    · rfl
  unfold State.clearFault
  dsimp only
  split
  · rw [sign_of_mvu (State.reportReason_mvu _ _), cleared]
  · exact cleared

theorem enterRequesting_sign {m : MoverId} {r : Mover} (here : s.mover m = some r) (phase : r.phase = .idle) (src : Nat)
    (d : Dir) (x : MoverId) : State.sign (s.enterRequesting m src d) x = State.sign s x := by
  unfold State.enterRequesting
  rw [lookAgain_sign, sign_of_mvu (State.newIntent_mvu _ m), sign_of_mvu (State.createEntry_mvu _ _ _ _ _)]
  refine onMover_sign (fun y there => ?_) x
  obtain rfl : r = y := Option.some.inj (here.symm.trans there)
  simp [signOf, phase]

/-- Acts leave every sign, and report a refusal at most, a fault and a CLEAR aside. -/
theorem act_sign (a : Act s t) :
    ((∀ x, State.sign t x = State.sign s x) ∧ Reports [.driveRefused] s t) ∨
    (∃ m reason r, s.mover m = some r ∧ r.phase.inMotion = true ∧ reason ≠ .pumpFault ∧ t = s.enterFaulted m reason) ∨
    ∃ m r, s.mover m = some r ∧ r.phase = .faulted ∧ t = s.clearFault m r := by
  have silent (same : ∀ x, State.sign t x = State.sign s x) (fcl : t.fcl = s.fcl) :
      (∀ x, State.sign t x = State.sign s x) ∧ Reports [.driveRefused] s t := ⟨same, reports_of_fcl fcl⟩
  cases a with
  | idle m code r here motion => exact .inl (silent (enterIdle_sign here motion code) (by simp))
  | fault m reason r here motion own => exact .inr (.inl ⟨m, reason, r, here, motion, own, rfl⟩)
  | clear m r here phase => exact .inr (.inr ⟨m, r, here, phase, rfl⟩)
  | request m src d r here phase => exact .inl (silent (enterRequesting_sign here phase src d) (by simp))
  | start m r here phase => exact .inl (silent (proceed_sign here phase) (by simp))
  | opened m r here phase | lock m timer r here phase =>
    exact .inl (silent (onMover_sign_motion here (by rw [phase]; rfl) rfl rfl) rfl)
  | stop m reason mark r here phase => exact .inl (silent (onMover_sign_motion here (by rw [phase]; rfl) rfl rfl) rfl)
  | reverse m d r here phase =>
    have motion : r.phase.inMotion = true := by rw [phase]; rfl
    refine .inl (silent (fun x => ?_) rfl)
    have turned : (s.onMover m fun y => { y with direction := some d }).mover m = some { r with direction := some d } := by
      simp [here]
    exact (onMover_sign_motion turned motion rfl rfl x).trans (onMover_sign_motion here motion motion rfl x)
  | note m f phase reason count known =>
    exact .inl (silent (onMover_sign fun r _ => by unfold signOf; rw [phase, reason, known]) rfl)
  | refuse m code =>
    have noted := onMover_sign (s := s) (m := m) (f := fun r => { r with lastRefusal := code }) fun _ _ => rfl
    refine .inl ⟨fun x => (sign_of_mvu (State.raiseEvent_mvu _ _) x).trans (noted x), ?_⟩
    exact (reports_raiseEvent _ List.mem_cons_self).before rfl
  | examine => exact .inl (silent (sign_of_mvu (by simp)) (by simp))

/-! ### Records in force -/

theorem act_records (a : Act s t) (m : MoverId) : (t.mover m).isSome = (s.mover m).isSome := by
  rw [← sign_isSome, ← sign_isSome]
  obtain ⟨same, -⟩ | ⟨x, reason, r, here, -, -, rfl⟩ | ⟨x, r, here, -, rfl⟩ := act_sign a
  · rw [same]
  · rw [enterFaulted_sign]
    split
    · subst m; rw [Option.isSome_map, sign_isSome]
    · rfl
  · rw [clearFault_sign here]
    split
    · subst m; rw [sign_isSome, here]; rfl
    · rfl

/-! ### The reasons -/

/-- The condition a reason names holds (R107): some mover is FAULTED with it, and for PUMP_FAULT also an active input. -/
def State.reasonHolds (s : State) (reason : FaultReason) : Bool :=
  (decide (reason = .pumpFault) && s.anyPowerFault) || s.anyFaulted reason

/-- The kind a reason names stands as the reason does. -/
def ReasonShown (reason : FaultReason) (s : State) : Prop :=
  ∀ k, reason.kind = some k → s.active k = State.reasonHolds s reason

theorem mem_allMovers (m : MoverId) : m ∈ allMovers := by
  revert m
  decide

theorem anyFaulted_iff (s : State) (reason : FaultReason) :
    s.anyFaulted reason = true ↔ ∃ m b, State.sign s m = some (some reason, b) := by
  unfold State.anyFaulted
  rw [List.any_eq_true]
  constructor
  · rintro ⟨m, -, h⟩
    split at h
    · next r here =>
      simp only [Bool.and_eq_true, decide_eq_true_eq] at h
      exact ⟨m, _, by rw [State.sign, here, Option.map_some, signOf, if_pos h.1, h.2]⟩
    · cases h
  · rintro ⟨m, b, h⟩
    obtain ⟨r, here, sign⟩ := Option.map_eq_some_iff.1 h
    refine ⟨m, mem_allMovers m, ?_⟩
    rw [here]
    have fault := congrArg Prod.fst sign
    unfold signOf at fault
    dsimp only at fault
    split at fault
    · simp [*]
    · cases fault

theorem anyFaulted_congr (same : ∀ x, (State.sign t x).map Prod.fst = (State.sign s x).map Prod.fst)
    (reason : FaultReason) : t.anyFaulted reason = s.anyFaulted reason := by
  have fst (u : State) : u.anyFaulted reason = true ↔ ∃ m, (State.sign u m).map Prod.fst = some (some reason) := by
    rw [anyFaulted_iff]
    refine exists_congr fun m => ?_
    cases State.sign u m <;> simp [Prod.ext_iff]
  rw [Bool.eq_iff_iff, fst, fst]
  simp only [same]

theorem anyPowerFault_congr (cfg : t.cfg = s.cfg) (fpr : t.fpr = s.fpr)
    (records : ∀ m, (t.mover m).isSome = (s.mover m).isSome) : t.anyPowerFault = s.anyPowerFault := by
  unfold State.anyPowerFault State.moverCfg State.input
  rw [cfg, fpr]
  congr 1
  funext m
  have := records m
  cases here : t.mover m <;> cases there : s.mover m <;> simp_all

/-- One mover changes its reason: every other reason holds as before. -/
theorem anyFaulted_other {m : MoverId} {reason : FaultReason}
    (others : ∀ x, x ≠ m → State.sign t x = State.sign s x) (before : ∀ b, State.sign s m ≠ some (some reason, b))
    (after : ∀ b, State.sign t m ≠ some (some reason, b)) : t.anyFaulted reason = s.anyFaulted reason := by
  rw [Bool.eq_iff_iff, anyFaulted_iff, anyFaulted_iff]
  refine exists_congr fun x => exists_congr fun b => ?_
  by_cases same : x = m
  · subst x
    exact iff_of_false (after b) (before b)
  · rw [others x same]

theorem kind_inj {a b : FaultReason} {k : FaultKind} (ha : a.kind = some k) (hb : b.kind = some k) : a = b := by
  have injective : ∀ a b : FaultReason, a.kind = b.kind → a.kind ≠ none → a = b := by
    intro a b
    cases a <;> cases b <;> decide
  exact injective a b (ha.trans hb.symm) (by rw [ha]; nofun)

theorem kind_mover {reason : FaultReason} {k : FaultKind} (h : reason.kind = some k) :
    k ∈ moverKinds ∧ k ≠ .driveRefused := by
  cases reason <;> cases h <;> decide

theorem reportReason_active (s : State) {reason : FaultReason} {k : FaultKind} (kind : reason.kind = some k)
    (j : FaultKind) : (s.reportReason reason).active j = if j = k then State.reasonHolds s reason else s.active j := by
  cases reason <;> cases kind <;> exact State.reportCond_active s _ j _

theorem reasonHolds_congr {reason : FaultReason} (power : t.anyPowerFault = s.anyPowerFault)
    (faulted : t.anyFaulted reason = s.anyFaulted reason) : State.reasonHolds t reason = State.reasonHolds s reason := by
  unfold State.reasonHolds
  rw [power, faulted]

theorem ReasonShown.keep {reason : FaultReason} (h : ReasonShown reason s)
    (active : ∀ k, reason.kind = some k → t.active k = s.active k)
    (holds : State.reasonHolds t reason = State.reasonHolds s reason) : ReasonShown reason t := by
  intro k kind
  rw [active k kind, holds]
  exact h k kind

/-- A reason reported shows as it holds (R107). -/
theorem reasonShown_reportReason (s : State) (reason : FaultReason) : ReasonShown reason (s.reportReason reason) := by
  intro k kind
  rw [reportReason_active s kind, if_pos rfl]
  refine (reasonHolds_congr ?_ ?_).symm
  · exact anyPowerFault_congr (by simp) (by simp) fun m => by simp
  · exact anyFaulted_congr (fun x => by rw [sign_of_mvu (State.reportReason_mvu s _)]) reason

/-- The report of one reason leaves every other as it is shown. -/
theorem ReasonShown.reportReason {reason : FaultReason} (h : ReasonShown reason s) (other : FaultReason) :
    ReasonShown reason (s.reportReason other) := by
  by_cases same : other = reason
  · subst other; exact reasonShown_reportReason s reason
  refine h.keep (fun k kind => ?_) (reasonHolds_congr (anyPowerFault_congr (by simp) (by simp) fun m => by simp)
    (anyFaulted_congr (fun x => by rw [sign_of_mvu (State.reportReason_mvu s _)]) reason))
  cases named : other.kind with
  | none =>
    unfold State.reportReason
    rw [named]
  | some j => rw [reportReason_active s named, if_neg fun e => same (kind_inj named (by rw [← e]; exact kind))]

/-- A mover in motion that is FAULTED shows its reason, and no other (R107). -/
theorem ReasonShown.enterFaulted {reason : FaultReason} {m : MoverId} {r : Mover} (h : ReasonShown reason s)
    (here : s.mover m = some r) (motion : r.phase.inMotion = true) (other : FaultReason) :
    ReasonShown reason (s.enterFaulted m other) := by
  unfold State.enterFaulted
  have looked (u : State) (x : MoverId) (shown : ReasonShown reason u) : ReasonShown reason (u.lookAgain x) :=
    shown.keep (fun k _ => by unfold State.active; rw [State.lookAgain_fcl])
      (reasonHolds_congr (anyPowerFault_congr (by simp) (by simp) fun y => by
          rw [← sign_isSome, ← sign_isSome, lookAgain_sign])
        (anyFaulted_congr (fun y => by rw [lookAgain_sign u x]) reason))
  refine looked _ _ ?_
  by_cases same : other = reason
  · subst other; exact reasonShown_reportReason _ reason
  refine ReasonShown.reportReason (h.keep (fun k _ => by unfold State.active; simp) (reasonHolds_congr ?_ ?_)) other
  · refine anyPowerFault_congr (by simp) (by simp) fun y => ?_
    rw [← sign_isSome, ← sign_isSome, leave_sign]
    split
    · subst y; simp [sign_isSome]
    · rfl
  · refine anyFaulted_other (m := m) (fun x ne => ?_) (fun b => ?_) fun b => ?_
    · rw [leave_sign, if_neg ne]
    · rw [State.sign, here, Option.map_some, signOf_motion motion]
      simp
    · rw [leave_sign, if_pos rfl, here]
      simp [signOf, same]

theorem ReasonShown.clearFault {reason : FaultReason} {m : MoverId} {r : Mover} (h : ReasonShown reason s)
    (here : s.mover m = some r) (phase : r.phase = .faulted) : ReasonShown reason (s.clearFault m r) := by
  have sign : State.sign s m = some (r.faultReason, !r.known) := by simp [State.sign, here, signOf, phase]
  generalize cleared : (s.onMover m fun y => { y with phase := .idle, faultReason := none, lastRefusal := .clear }) = u
  have signs (x : MoverId) : State.sign u x = if x = m then some (none, !r.known) else State.sign s x := by
    rw [← cleared]
    unfold State.sign
    rw [State.onMover_mover]
    split
    · subst x; rw [here]; rfl
    · rfl
  have others (other : r.faultReason ≠ some reason) : ReasonShown reason u := by
    refine h.keep (fun k _ => by rw [← cleared]; rfl) (reasonHolds_congr ?_ ?_)
    · refine anyPowerFault_congr (by rw [← cleared]; rfl) (by rw [← cleared]; rfl) fun y => ?_
      rw [← sign_isSome, ← sign_isSome, signs]
      split
      · subst y; rw [sign]; rfl
      · rfl
    · refine anyFaulted_other (m := m) (fun x ne => by rw [signs, if_neg ne]) (fun b => ?_) fun b => ?_
      · rw [sign]; simp [other]
      · rw [signs, if_pos rfl]; simp
  unfold State.clearFault
  rw [cleared]
  dsimp only
  split
  · next named why =>
    by_cases same : named = reason
    · subst named; exact reasonShown_reportReason u reason
    · exact (others (by rw [why]; simpa using same)).reportReason named
  · next why => exact others (by rw [why]; nofun)

theorem ReasonShown.act {reason : FaultReason} (a : Act s t) (h : ReasonShown reason s) : ReasonShown reason t := by
  obtain ⟨same, reports⟩ | ⟨m, other, r, here, motion, -, rfl⟩ | ⟨m, r, here, phase, rfl⟩ := act_sign a
  · refine h.keep (fun k kind => reports.active ?_) (reasonHolds_congr ?_ (anyFaulted_congr (fun x => by rw [same]) reason))
    · rw [List.mem_singleton]; exact (kind_mover kind).2
    · exact anyPowerFault_congr (act_aside a).cfg (act_aside a).fpr (act_records a)
  · exact h.enterFaulted here motion other
  · exact h.clearFault here phase

end Sys2Proof.Safety
end

section
/-! PROOFS. The refutation of O38: a channel LOCKED_OUT whose output is on can trip again. -/

namespace Sys2Proof.Safety

open Sys2Proof Sys2Proof.Machine

/-- A station in RUN whose channel 0 is LOCKED_OUT with its output still on and 100 ms over its threshold; CHANNEL_LOCKOUT
is active for it. -/
def lockedOn : State where
  now := 100
  suc := { phase := .run }
  liu := { ports := Vector.replicate 2 { carrier := some 0 } }
  lcu := { channels := (Vector.replicate 12 {}).set 0 { mark := .lockedOut, position := 256, overTime := some 0 } }
  fcl := { flags := (Vector.replicate 26 {}).set FaultKind.channelLockout.idx { active := true } }
  pending := [.channelTrip 0]

theorem lockedOn_conditions : ConditionsOk lockedOn where
  dark := by decide
  unfit := by decide
  island := rfl
  lockJam := rfl
  travel := rfl
  overload := rfl
  stall := rfl
  clash := rfl
  count := rfl
  lockout := ⟨fun _ => ⟨0, rfl⟩, fun _ => rfl⟩
  sense := by decide
  config := by decide
  number := by decide
  supply := nofun
  strap := nofun
  load := nofun
  early := nofun

/-- The trip takes the channel to TRIPPED and leaves CHANNEL_LOCKOUT active. -/
theorem lockedOn_step : ∃ t, step lockedOn = .next t ∧ t.active .channelLockout = true ∧
    ∀ c : ChannelId, (t.lcu.channels[c]).mark ≠ .lockedOut :=
  ⟨State.trip { lockedOn with pending := [] } 0, rfl, rfl, by decide⟩

/-- Refutes O38: ConditionsOk does not say that a LOCKED_OUT channel's output is off (LevelsOk does), and a channel
LOCKED_OUT with its output on trips into TRIPPED, with CHANNEL_LOCKOUT left active and no channel locked out. -/
theorem not_stepKeepsTheConditions : ¬ Obligations.StepKeepsTheConditions := by
  rintro ⟨keeps, -⟩
  obtain ⟨t, answer, flag, none⟩ := lockedOn_step
  obtain ⟨c, locked⟩ := (keeps _ t lockedOn_conditions answer).lockout.1 flag
  exact none c locked

end Sys2Proof.Safety
end

section
/-! PROOFS. The configuration an accepted image gives: each field where the sections have it, and every consumer bound to
a pin of its own function (R133, R172). -/

namespace Sys2Proof.Safety

open Sys2Proof Sys2Proof.Machine

/-! ### The fields of the configuration read -/

theorem readImage_occupancy (img : List Byte) (z : Fin 16) :
    (readImage img).occupancy[z] = readBinding (byteAt (sectionOf img 1) (18 + z.val)) := by
  fin_cases z <;> rfl

theorem readImage_pin (img : List Byte) (p : PinId) : (readImage img).pins[p] = readPin (sectionOf img 3) p.val := by
  fin_cases p <;> rfl

theorem readImage_mover (img : List Byte) (m : MoverId) :
    (readImage img).movers[m] = readMoverCfg (moverBytes (sectionOf img 5) m.val) := by
  fin_cases m <;> rfl

theorem readImage_key (img : List Byte) (k : KeyId) :
    (readImage img).keys[k] = readKey (keyBytes (sectionOf img 6) k.val) := by
  fin_cases k <;> rfl

theorem readImage_scene (img : List Byte) (n : Fin 32) :
    (readImage img).scenes[n] = readScene (sectionOf img 7) n.val := by
  fin_cases n <;> rfl

/-! ### What an accepted image keeps -/

/-- The checks of the fields, one for each section and entry (R172). -/
structure FieldsOk (img : List Byte) : Prop where
  station : stationOk (sectionOf img 1) (sectionOf img 3) = true
  ports : portsOk (sectionOf img 2) = true
  pins : ∀ p : PinId, pinOk (sectionOf img 3) p.val = true
  channels : ∀ c : ChannelId, channelOk (sectionOf img 4) c.val = true
  movers : ∀ m : MoverId, moverOk (sectionOf img 3) (moverBytes (sectionOf img 5) m.val) = true
  keys : ∀ k : KeyId, keyOk (sectionOf img 3) (keyBytes (sectionOf img 6) k.val) = true
  scenes : ∀ n : Fin 32, sceneOk (sectionOf img 7) n.val = true
  pairs : pairTotal (sectionOf img 7) ≤ 128
  essential : essentialTotal (sectionOf img 4) (sectionOf img 5) ≤ 4095

theorem all_range_iff {n : Nat} {f : Nat → Bool} : (List.range n).all f = true ↔ ∀ i : Fin n, f i.val = true := by
  rw [List.all_eq_true]
  exact ⟨fun h i => h i.val (List.mem_range.2 i.isLt), fun h i on => h ⟨i, List.mem_range.1 on⟩⟩

theorem fieldsOk_iff (img : List Byte) : fieldsOk img = true ↔ FieldsOk img := by
  unfold fieldsOk
  simp only [Bool.and_eq_true, decide_eq_true_eq, all_range_iff]
  constructor
  · rintro ⟨⟨⟨⟨⟨⟨⟨⟨station, ports⟩, pins⟩, channels⟩, movers⟩, keys⟩, scenes⟩, pairs⟩, essential⟩
    exact ⟨station, ports, pins, channels, movers, keys, scenes, pairs, essential⟩
  · rintro ⟨station, ports, pins, channels, movers, keys, scenes, pairs, essential⟩
    exact ⟨⟨⟨⟨⟨⟨⟨⟨station, ports⟩, pins⟩, channels⟩, movers⟩, keys⟩, scenes⟩, pairs⟩, essential⟩

/-- LOAD takes an image exactly where its frame and its fields stand, and then with the configuration read (R172). -/
theorem judgeImage_iff {memory : List Byte} {cfg : Cfg} : judgeImage memory = some cfg ↔
    imageRead memory ≠ [] ∧ frameOfImageOk (imageRead memory) = true ∧ FieldsOk (imageRead memory) ∧
      readImage (imageRead memory) = cfg := by
  rw [← fieldsOk_iff]
  unfold judgeImage
  dsimp only
  split
  · next ok =>
    simp only [Bool.and_eq_true, Bool.not_eq_true', List.isEmpty_eq_false_iff] at ok
    obtain ⟨⟨read, frame⟩, fields⟩ := ok
    exact ⟨fun e => ⟨read, frame, fields, Option.some.inj e⟩, fun ⟨_, _, _, e⟩ => congrArg Option.some e⟩
  · next refused =>
    refine ⟨nofun, fun ⟨read, frame, fields, _⟩ => absurd ?_ refused⟩
    simp only [Bool.and_eq_true, Bool.not_eq_true', List.isEmpty_eq_false_iff]
    exact ⟨⟨read, frame⟩, fields⟩

/-! ### Bindings -/

theorem readBinding_some {b : Nat} {p : PinId} (h : readBinding b = some p) : b = p.val := by
  unfold readBinding at h
  split at h
  · cases h; rfl
  · cases h

/-- An allowed binding that names a pin names one of the consumer's own function (R133). -/
theorem fn_of_bindingOk {pins : List Byte} {fn : PinFn} {b : Nat} {p : PinId} (ok : bindingOk pins fn b = true)
    (bound : readBinding b = some p) : (readPin pins p.val).fn = fn := by
  obtain rfl := readBinding_some bound
  simp only [bindingOk, Bool.or_eq_true, Bool.and_eq_true, decide_eq_true_eq] at ok
  obtain unbound | ⟨-, fn⟩ := ok
  · have := p.isLt
    omega
  · exact fn

theorem bindings_of_fields {img : List Byte} (h : FieldsOk img) : BindingsOk (readImage img) := by
  have station := h.station
  simp only [stationOk, Bool.and_eq_true, all_range_iff] at station
  obtain ⟨⟨⟨⟨-, occupancy⟩, supply⟩, standby⟩, -⟩ := station
  refine ⟨fun z p bound => ?_, fun p bound => ?_, fun p bound => ?_, fun k p bound => ?_, fun m c p configured => ?_⟩
  · rw [readImage_pin]
    exact fn_of_bindingOk (occupancy z) ((readImage_occupancy img z).symm.trans bound)
  · rw [readImage_pin]
    exact fn_of_bindingOk supply bound
  · rw [readImage_pin]
    exact fn_of_bindingOk standby bound
  · rw [readImage_pin]
    rw [readImage_key] at bound
    unfold readKey at bound
    split at bound
    · cases bound
    · next used =>
      have key := h.keys k
      simp only [keyOk, Bool.or_eq_true, Bool.and_eq_true, decide_eq_true_eq, used, false_or] at key
      exact fn_of_bindingOk key.2 bound
  · rw [readImage_mover] at configured
    unfold readMoverCfg at configured
    split at configured
    · cases configured
    · next used =>
      have mover := h.movers m
      simp only [moverOk, Bool.or_eq_true, Bool.and_eq_true, decide_eq_true_eq, used, false_or, all_range_iff,
        Bool.not_eq_true'] at mover
      obtain rfl := Option.some.inj configured
      have bindings (i : Fin 7) (bound : moverBinding (moverBytes (sectionOf img 5) m.val) i.val = some p) :
          ((readImage img).pins[p]).fn = bindingFn i.val := by
        unfold moverBinding at bound
        split at bound
        · next used =>
          rw [readImage_pin]
          exact fn_of_bindingOk ((mover.2 i).resolve_left (by simp [used])) bound
        · cases bound
      exact ⟨bindings 0, bindings 1, bindings 2, bindings 3, bindings 4, bindings 5, bindings 6⟩

theorem judgeImage_bindings {memory : List Byte} {cfg : Cfg} (accepted : judgeImage memory = some cfg) :
    BindingsOk cfg := by
  obtain ⟨-, -, fields, rfl⟩ := judgeImage_iff.1 accepted
  exact bindings_of_fields fields

end Sys2Proof.Safety
end

section
/-! PROOFS. Entry into LISTEN_ONLY, said once: its own kind, two fresh ports, no mover (R174). -/

namespace Sys2Proof.Safety

open Sys2Proof Sys2Proof.Machine

variable {s t : State}

theorem haltMovers_of_none (none : ∀ m, s.mover m = none) : s.haltMovers = s := by
  simp [State.haltMovers, allMovers, State.faultInMotion, none]

/-- What LISTEN_ONLY is entered with: its own kind, two fresh ports, no mover (R174). -/
structure Listens (kind : FaultKind) (s t : State) : Prop where
  active : ∀ k, t.active k = if k = kind then true else s.active k
  ports : t.liu.ports = Vector.replicate 2 (freshPort Cfg.unconfigured s.now)
  movers : ∀ m, t.mover m = none
  cfg : t.cfg = Cfg.unconfigured
  lcu : t.lcu = s.lcu
  csa : t.csa = s.csa
  island : t.sbu.island = s.sbu.island
  phase : t.suc.phase = .listenOnly
  number : t.suc.ownNumber = s.suc.ownNumber
  image : t.suc.image = s.suc.image

theorem listens_enterListenOnly (s : State) (kind : FaultKind) : Listens kind s (s.enterListenOnly kind) := by
  unfold State.enterListenOnly
  generalize entered : State.startPorts
      { s with
        cfg := Cfg.unconfigured
        suc := { s.suc with phase := .listenOnly, since := s.now, nextTick := some s.now }
        mvu := {} } = u
  have start : Listens kind s u ↔ ∀ k, s.active k = if k = kind then true else s.active k := by
    subst u
    refine ⟨fun h k => h.active k, fun h => ⟨h, rfl, fun m => ?_, rfl, rfl, rfl, rfl, rfl, rfl, rfl⟩⟩
    simp [State.startPorts, State.mover]
  have none (m : MoverId) : u.mover m = none := by
    subst u
    simp [State.startPorts, State.mover]
  have flags (k : FaultKind) : u.active k = s.active k := by subst u; rfl
  have raised : Listens kind s (u.raiseHalt kind) := by
    unfold State.raiseHalt
    split
    · next on =>
      refine start.2 fun k => ?_
      split
      · subst k; exact (flags kind).symm.trans on
      · rfl
    · have still (m : MoverId) : (u.raiseCond kind).mover m = Option.none := by
        unfold State.mover
        rw [State.raiseCond_mvu]
        exact none m
      rw [haltMovers_of_none still]
      refine ⟨fun k => ?_, ?_, still, ?_, ?_, ?_, ?_, ?_, ?_, ?_⟩
      · rw [State.raiseCond_active, flags]
      all_goals subst u; simp [State.startPorts]
  generalize u.raiseHalt kind = v at raised
  have idle : v.working = false := by simp [State.working, raised.phase]
  rw [ownTick_of_idle idle]
  have composed := onQueue_compose v.advanceTick.countTick
  have flagged (k : FaultKind) : (v.advanceTick.countTick).compose.active k = v.active k := by
    unfold State.active
    rw [State.compose_fcl]
    rfl
  generalize (v.advanceTick.countTick).compose = w at composed flagged
  exact ⟨fun k => (flagged k).trans (raised.active k), composed.ports.trans raised.ports,
    fun m => (congrArg (fun x : Mvu => x.movers[m]) composed.mvu).trans (raised.movers m), composed.cfg.trans raised.cfg,
    composed.lcu.trans raised.lcu, composed.csa.trans raised.csa, composed.island.trans raised.island,
    (congrArg Suc.phase composed.suc).trans raised.phase, (congrArg Suc.ownNumber composed.suc).trans raised.number,
    (congrArg Suc.image composed.suc).trans raised.image⟩

end Sys2Proof.Safety
end

section
/-! PROOFS. Every step keeps movers safe (O37). Acts take a mover into motion only where its zones are clear, its entry is
granted and the line is fit; whatever takes one of these away stops the mover at that instant. -/

namespace Sys2Proof.Safety

open Sys2Proof Sys2Proof.Machine

variable {s t : State} {m x : MoverId}

/-! ### Phases -/

/-- The phase of a mover whose record is in force. -/
def phaseOf (s : State) (m : MoverId) : Option MoverPhase := (s.mover m).map fun r => r.phase

/-- A mover is UNLOCKING or RUNNING. -/
def Moving (s : State) (m : MoverId) : Prop := phaseOf s m = some .unlocking ∨ phaseOf s m = some .running

/-- A mover is in a phase of motion. -/
def InMotion (s : State) (m : MoverId) : Prop := ∃ p, phaseOf s m = some p ∧ p.inMotion = true

theorem Moving.inMotion (h : Moving s m) : InMotion s m := by
  obtain h | h := h
  · exact ⟨_, h, rfl⟩
  · exact ⟨_, h, rfl⟩

theorem Moving.of_phase (same : phaseOf t m = phaseOf s m) (h : Moving t m) : Moving s m := by
  unfold Moving at h ⊢
  rwa [← same]

theorem InMotion.of_phase (same : phaseOf t m = phaseOf s m) (h : InMotion t m) : InMotion s m := by
  unfold InMotion at h ⊢
  rwa [← same]

theorem phaseOf_of_mvu (same : t.mvu = s.mvu) (m : MoverId) : phaseOf t m = phaseOf s m := by
  unfold phaseOf State.mover
  rw [same]

theorem onMover_phaseOf (s : State) (x m : MoverId) (f : Mover → Mover) :
    phaseOf (s.onMover x f) m = if m = x then (s.mover m).map fun r => (f r).phase else phaseOf s m := by
  unfold phaseOf
  rw [State.onMover_mover]
  split
  · rw [Option.map_map]; rfl
  · rfl

theorem onMover_phaseOf_other {f : Mover → Mover} (other : m ≠ x) : phaseOf (s.onMover x f) m = phaseOf s m := by
  rw [onMover_phaseOf, if_neg other]

/-- A record whose phase an update leaves. -/
theorem onMover_phaseOf_keep {f : Mover → Mover} (keep : ∀ r, (f r).phase = r.phase) :
    phaseOf (s.onMover x f) m = phaseOf s m := by
  rw [onMover_phaseOf]
  split
  · simp only [keep]; rfl
  · rfl

/-- A mover sent into a phase that is not one of motion proper does not move there. -/
theorem not_moving_onMover {f : Mover → Mover} {p : MoverPhase} (phase : ∀ r, (f r).phase = p) (still : p ≠ .unlocking)
    (stopped : p ≠ .running) : ¬Moving (s.onMover x f) x := by
  unfold Moving
  rw [onMover_phaseOf, if_pos rfl]
  simp only [phase]
  cases s.mover x <;> simp [still, stopped]

/-! ### Into motion -/

/-- What a mover may go to motion by: its standing, its entry and line fitness (R97, R105). -/
def Cleared (s : State) (m : MoverId) : Prop := s.standing m = .cleared ∧ s.granted m = true ∧ s.lineFit = true

theorem cleared_onMover {f : Mover → Mover} (h : Cleared s m) : Cleared (s.onMover x f) m := h

theorem proceed_cases (s : State) (m : MoverId) :
    s.proceed m = s ∨ Cleared s m ∧ ∃ f, s.proceed m = s.onMover m f := by
  unfold State.proceed State.enterUnlocking
  split
  · next clear =>
    simp only [Bool.and_eq_true, decide_eq_true_eq] at clear
    obtain ⟨⟨standing, granted⟩, fit⟩ := clear
    refine .inr ⟨⟨standing, granted, fit⟩, ?_⟩
    split
    · split
      · exact ⟨_, rfl⟩
      · exact ⟨_, rfl⟩
    · exact ⟨_, rfl⟩
  · exact .inl rfl

theorem lookAgain_cases (s : State) (m : MoverId) :
    s.lookAgain m = s ∨ Cleared s m ∧ ∃ f, s.lookAgain m = s.onMover m f := by
  unfold State.lookAgain
  split
  · split
    · exact proceed_cases s m
    · exact .inl rfl
  · exact .inl rfl

/-- A mover found moving after an update of another's record was moving before, or its own update cleared it. -/
theorem moving_of_cases (h : t = s ∨ Cleared s x ∧ ∃ f, t = s.onMover x f) (moving : Moving t m) :
    Moving s m ∨ Cleared t m := by
  obtain rfl | ⟨clear, f, rfl⟩ := h
  · exact .inl moving
  · by_cases same : m = x
    · subst m
      exact .inr (cleared_onMover clear)
    · exact .inl (moving.of_phase (onMover_phaseOf_other same))

/-- A mover moves that moved before with the same entry, or it is cleared to. -/
def Cause (s t : State) (m : MoverId) : Prop :=
  Moving s m ∧ t.demandOf (.mover m) = s.demandOf (.mover m) ∨ Cleared t m

theorem cause_of_mvu (mvu : t.mvu = s.mvu) (sbu : t.sbu = s.sbu) (moving : Moving t m) : Cause s t m :=
  .inl ⟨moving.of_phase (phaseOf_of_mvu mvu m), State.demandOf_congr sbu _⟩

/-- A mover that leaves its motion gives up its own entry alone; the other one may be cleared by it. -/
theorem cause_leave {f : Mover → Mover} {p : MoverPhase} (phase : ∀ r, (f r).phase = p) (still : p.inMotion = false)
    {u : State} (mvu : u.mvu = (s.onMover x f).mvu) (sbu : u.sbu = (s.removeEntry (.mover x)).sbu)
    (moving : Moving (u.lookAgain (otherMover x)) m) : Cause s (u.lookAgain (otherMover x)) m := by
  obtain before | clear := moving_of_cases (lookAgain_cases u (otherMover x)) moving
  · have moved := before.of_phase (phaseOf_of_mvu mvu m)
    by_cases same : m = x
    · subst m
      refine absurd moved (not_moving_onMover phase ?_ ?_) <;> rintro rfl <;> cases still
    · refine .inl ⟨moved.of_phase (onMover_phaseOf_other same), ?_⟩
      rw [State.demandOf_congr (t := u.lookAgain (otherMover x)) (s := s.removeEntry (.mover x))
        ((State.lookAgain_sbu u _).trans sbu), State.removeEntry_demandOf, if_neg (by simpa using same)]
  · exact .inr clear

theorem cause_enterIdle (code : RefusalCode) (moving : Moving (s.enterIdle x code) m) :
    Cause s (s.enterIdle x code) m :=
  cause_leave (f := fun r => { dropMotion r with phase := .idle, lastRefusal := code }) (p := .idle) (fun _ => rfl) rfl
    rfl rfl moving

theorem cause_enterFaulted (reason : FaultReason) (moving : Moving (s.enterFaulted x reason) m) :
    Cause s (s.enterFaulted x reason) m :=
  cause_leave (p := .faulted)
    (f := fun r => { dropMotion r with phase := .faulted, faultReason := some reason, lastRefusal := reason.refusal })
    (fun _ => rfl) rfl (State.reportReason_mvu _ reason) (State.reportReason_sbu _ reason) moving

theorem cause_enterRequesting (src : Nat) (d : Dir) (moving : Moving (s.enterRequesting x src d) m) :
    Cause s (s.enterRequesting x src d) m := by
  unfold State.enterRequesting at moving ⊢
  generalize request : (fun r : Mover => { r with
    phase := .requesting
    driver := some src
    direction := some d
    lastDrive := some s.now
    timer := some (s.now + Config.requestLimit)
    lastRefusal := .clear }) = f at moving ⊢
  generalize entered : ((s.onMover x f).createEntry (.mover x) (s.moverCfg x).cls (s.moverCfg x).rank
    (s.moverCfg x).runRating).newIntent x = u at moving ⊢
  obtain before | clear := moving_of_cases (lookAgain_cases u (otherMover x)) moving
  · have moved : Moving (s.onMover x f) m := before.of_phase (by subst entered; rfl)
    by_cases same : m = x
    · subst m
      exact absurd moved (not_moving_onMover (p := .requesting) (fun _ => by rw [← request]) nofun nofun)
    · refine .inl ⟨moved.of_phase (onMover_phaseOf_other same), ?_⟩
      refine (State.demandOf_congr (State.lookAgain_sbu u _) _).trans ?_
      subst entered
      refine (State.createEntry_demandOf (s.onMover x f) _ _ _ _ _).trans ?_
      rw [if_neg (by simpa using same)]
      rfl
  · exact .inr clear

/-- A mover sent to rest: what moves is another, as before. -/
theorem moving_of_still {f : Mover → Mover} {p : MoverPhase} (phase : ∀ r, (f r).phase = p) (still : p ≠ .unlocking)
    (stopped : p ≠ .running) (moving : Moving (s.onMover x f) m) : Moving s m := by
  by_cases same : m = x
  · subst m
    exact absurd moving (not_moving_onMover phase still stopped)
  · exact moving.of_phase (onMover_phaseOf_other same)

theorem cleared_of_reversal {d : Dir} (free : s.reversalRefusal m d = none) : Cleared s m := by
  unfold State.reversalRefusal at free
  split at free
  · cases free
  · split at free
    · cases free
    · split at free
      · cases free
      · split at free
        · cases free
        · simp_all [Cleared]

theorem clearFault_phaseOf (s : State) (x m : MoverId) (r : Mover) : phaseOf (s.clearFault x r) m =
    phaseOf (s.onMover x fun y => { y with phase := .idle, faultReason := none, lastRefusal := .clear }) m := by
  unfold State.clearFault
  dsimp only
  split
  · exact phaseOf_of_mvu (State.reportReason_mvu _ _) m
  · rfl

/-- An act takes a mover into motion only where it is cleared (R97, R101, R105). -/
theorem act_cause (a : Act s t) (moving : Moving t m) : Cause s t m := by
  cases a with
  | idle x code => exact cause_enterIdle code moving
  | fault x reason => exact cause_enterFaulted reason moving
  | request x src d => exact cause_enterRequesting src d moving
  | start x =>
    have sbu : (s.proceed x).demandOf (.mover m) = s.demandOf (.mover m) := State.demandOf_congr (State.proceed_sbu s x) _
    exact (moving_of_cases (proceed_cases s x) moving).imp (fun before => ⟨before, sbu⟩) id
  | opened x r here unlocking =>
    refine .inl ⟨?_, rfl⟩
    by_cases same : m = x
    · subst m
      exact .inl (by rw [phaseOf, here, Option.map_some, unlocking])
    · exact moving.of_phase (onMover_phaseOf_other same)
  | stop x reason mark =>
    exact .inl ⟨moving_of_still (p := .stopping) (fun _ => rfl) nofun nofun moving, rfl⟩
  | reverse x d r here stopping free =>
    by_cases same : m = x
    · subst m
      exact .inr (cleared_onMover (cleared_onMover (cleared_of_reversal free)))
    · exact .inl ⟨(moving.of_phase (onMover_phaseOf_other same)).of_phase (onMover_phaseOf_other same), rfl⟩
  | lock x timer =>
    exact .inl ⟨moving_of_still (p := .locking) (fun _ => rfl) nofun nofun moving, rfl⟩
  | note x f same =>
    exact .inl ⟨moving.of_phase (onMover_phaseOf_keep same), rfl⟩
  | refuse x code =>
    refine .inl ⟨moving.of_phase ?_, State.demandOf_congr (State.raiseEvent_sbu _ _) _⟩
    exact (phaseOf_of_mvu (State.raiseEvent_mvu _ _) m).trans (onMover_phaseOf_keep fun _ => rfl)
  | clear x r =>
    exact .inl ⟨moving_of_still (p := .idle) (fun _ => rfl) nofun nofun (moving.of_phase (clearFault_phaseOf s x m r)),
      State.demandOf_congr (by simp) _⟩
  | examine => exact cause_of_mvu (by simp) (by simp) moving

/-! ### Motion begins with a request -/

theorem proceed_inMotion {r : Mover} (here : s.mover x = some r) (requesting : r.phase = .requesting)
    (moving : InMotion (s.proceed x) m) : InMotion s m := by
  obtain e | ⟨-, f, e⟩ := proceed_cases s x
  · rwa [e] at moving
  · by_cases same : m = x
    · subst m
      exact ⟨_, by rw [phaseOf, here, Option.map_some, requesting], rfl⟩
    · rw [e] at moving
      exact moving.of_phase (onMover_phaseOf_other same)

theorem lookAgain_inMotion (moving : InMotion (s.lookAgain x) m) : InMotion s m := by
  unfold State.lookAgain at moving
  split at moving
  · next r here =>
    split at moving
    · next on => exact proceed_inMotion here on.1 moving
    · exact moving
  · exact moving

/-- A mover sent out of motion: what is in motion is another, as before. -/
theorem inMotion_of_still {f : Mover → Mover} {p : MoverPhase} (phase : ∀ r, (f r).phase = p) (still : p.inMotion = false)
    (moving : InMotion (s.onMover x f) m) : m ≠ x ∧ InMotion s m := by
  by_cases same : m = x
  · subst m
    obtain ⟨q, found, motion⟩ := moving
    rw [onMover_phaseOf, if_pos rfl] at found
    obtain ⟨r, -, rfl⟩ := Option.map_eq_some_iff.1 found
    rw [phase, still] at motion
    cases motion
  · exact ⟨same, moving.of_phase (onMover_phaseOf_other same)⟩

theorem inMotion_leave {f : Mover → Mover} {p : MoverPhase} (phase : ∀ r, (f r).phase = p) (still : p.inMotion = false)
    {u : State} (moving : InMotion (u.lookAgain (otherMover x)) m) (mvu : u.mvu = (s.onMover x f).mvu) :
    m ≠ x ∧ InMotion s m :=
  inMotion_of_still phase still ((lookAgain_inMotion moving).of_phase (phaseOf_of_mvu mvu m))

theorem enterIdle_inMotion {code : RefusalCode} (moving : InMotion (s.enterIdle x code) m) : m ≠ x ∧ InMotion s m :=
  inMotion_leave (f := fun r => { dropMotion r with phase := .idle, lastRefusal := code }) (p := .idle) (fun _ => rfl)
    rfl moving rfl

theorem enterFaulted_inMotion {reason : FaultReason} (moving : InMotion (s.enterFaulted x reason) m) :
    m ≠ x ∧ InMotion s m :=
  inMotion_leave (p := .faulted)
    (f := fun r => { dropMotion r with phase := .faulted, faultReason := some reason, lastRefusal := reason.refusal })
    (fun _ => rfl) rfl moving (State.reportReason_mvu _ reason)

/-- A mover in motion keeps in motion under an update between phases of motion. -/
theorem onMover_inMotion {f : Mover → Mover} {r : Mover} (here : s.mover x = some r) (motion : r.phase.inMotion = true)
    (moving : InMotion (s.onMover x f) m) : InMotion s m := by
  by_cases same : m = x
  · subst m
    exact ⟨_, by rw [phaseOf, here]; rfl, motion⟩
  · exact moving.of_phase (onMover_phaseOf_other same)

/-- An act takes a mover into motion only from IDLE, by a DIR that nothing refuses (R93). -/
theorem act_inMotion (a : Act s t) (moving : InMotion t m) :
    InMotion s m ∨ ∃ (x : MoverId) (r : Mover) (d : Dir), s.mover x = some r ∧ s.dirRefusal x d = none := by
  cases a with
  | idle => exact .inl (enterIdle_inMotion moving).2
  | fault => exact .inl (enterFaulted_inMotion moving).2
  | request x src d r here phase free => exact .inr ⟨x, r, d, here, free⟩
  | start x r here phase => exact .inl (proceed_inMotion here phase moving)
  | opened x r here phase | lock x timer r here phase => exact .inl (onMover_inMotion here (by rw [phase]; rfl) moving)
  | stop x reason mark r here phase => exact .inl (onMover_inMotion here (by rw [phase]; rfl) moving)
  | reverse x d r here phase =>
    have motion : r.phase.inMotion = true := by rw [phase]; rfl
    have turned : (s.onMover x fun y => { y with direction := some d }).mover x = some { r with direction := some d } := by
      simp [here]
    exact .inl (onMover_inMotion here motion (onMover_inMotion turned motion moving))
  | note x f phase => exact .inl (moving.of_phase (onMover_phaseOf_keep phase))
  | refuse x code =>
    refine .inl (moving.of_phase ?_)
    exact (phaseOf_of_mvu (State.raiseEvent_mvu _ _) m).trans (onMover_phaseOf_keep fun _ => rfl)
  | clear x r =>
    exact .inl (inMotion_of_still (p := .idle) (fun _ => rfl) rfl (moving.of_phase (clearFault_phaseOf s x m r))).2
  | examine => exact .inl (moving.of_phase (phaseOf_of_mvu (by simp) m))

/-! ### HALT -/

/-- The HALT kinds but PUMP_FAULT, which no act reports. -/
def haltKinds : List FaultKind := [.twin, .configInvalid, .badNumber]

theorem haltActive_of {pump : t.active .pumpFault = true → s.active .pumpFault = true}
    (others : ∀ k ∈ haltKinds, t.active k = s.active k) (halt : t.haltActive = true) : s.haltActive = true := by
  unfold State.haltActive at halt ⊢
  rw [others .twin (by decide), others .configInvalid (by decide), others .badNumber (by decide)] at halt
  simp only [Bool.or_eq_true] at halt ⊢
  tauto

theorem halt_of_reports {kinds : List FaultKind} (reports : Reports kinds s t) (pump : .pumpFault ∉ kinds)
    (others : ∀ k ∈ haltKinds, k ∉ kinds := by decide) (halt : t.haltActive = true) : s.haltActive = true :=
  haltActive_of (pump := fun on => (reports.active pump).symm.trans on) (fun k on => reports.active (others k on)) halt

theorem pumpActive_iff (h : ReasonShown .pumpFault s) : s.active .pumpFault = State.reasonHolds s .pumpFault := h _ rfl

/-- An act faults no mover with PUMP_FAULT. -/
theorem act_pumpFaulted (a : Act s t) (faulted : t.anyFaulted .pumpFault = true) : s.anyFaulted .pumpFault = true := by
  rw [anyFaulted_iff] at faulted ⊢
  obtain ⟨m, b, sign⟩ := faulted
  refine ⟨m, b, ?_⟩
  obtain ⟨same, -⟩ | ⟨x, reason, r, here, -, own, rfl⟩ | ⟨x, r, here, -, rfl⟩ := act_sign a
  · rwa [same] at sign
  · rw [enterFaulted_sign] at sign
    split at sign
    · rw [← ‹m = x›, ‹m = x›, here] at sign
      simp [own] at sign
    · exact sign
  · rw [clearFault_sign here] at sign
    split at sign
    · simp at sign
    · exact sign

/-- No act brings a HALT fault about. -/
theorem act_halt (a : Act s t) (pump : ReasonShown .pumpFault s) (halt : t.haltActive = true) : s.haltActive = true := by
  have others : ∀ k ∈ haltKinds, k ∉ moverKinds := by decide
  refine haltActive_of (fun k on => (reports_act a).active (others k on)) halt (pump := fun on => ?_)
  · rw [pumpActive_iff (pump.act a)] at on
    rw [pumpActive_iff pump]
    unfold State.reasonHolds at on ⊢
    simp only [Bool.or_eq_true, Bool.and_eq_true] at on ⊢
    rw [anyPowerFault_congr (act_aside a).cfg (act_aside a).fpr (act_records a)] at on
    exact on.imp id (act_pumpFaulted a)

/-! ### Motion in RUN with no HALT fault -/

/-- A mover is in motion only in RUN with no HALT fault active (R109, R116). -/
def Free (s : State) : Prop := ∀ m, InMotion s m → s.haltActive = false ∧ s.running = true

/-- No mover is in motion. -/
def Still (s : State) : Prop := ∀ m, ¬InMotion s m

theorem Still.free (h : Still s) : Free s := fun m motion => absurd motion (h m)

/-- What acts keep of a station, its motion in step: the movers free to move, PUMP_FAULT as shown. -/
structure Sound (s : State) : Prop where
  motion : MotionOk s
  free : Free s
  pump : ReasonShown .pumpFault s

theorem running_of_dir {d : Dir} {r : Mover} (h : MotionOk s) (here : s.mover x = some r)
    (free : s.dirRefusal x d = none) : s.haltActive = false ∧ s.running = true := by
  have working := h.working here
  unfold State.dirRefusal at free
  split at free
  · cases free
  · split at free
    · cases free
    · next notQuiet =>
      split at free
      · cases free
      · split at free
        · cases free
        · next halt =>
          refine ⟨Bool.eq_false_iff.2 halt, ?_⟩
          simpa [State.working, notQuiet, State.running] using working

theorem Sound.act (a : Act s t) (h : Sound s) : Sound t := by
  refine ⟨h.motion.act a, fun m moving => ?_, h.pump.act a⟩
  have same : t.running = s.running := by unfold State.running; rw [(act_aside a).suc]
  have before : s.haltActive = false ∧ s.running = true := by
    obtain before | ⟨x, r, d, here, free⟩ := act_inMotion a moving
    · exact h.free m before
    · exact running_of_dir h.motion here free
  rw [same]
  refine ⟨Bool.eq_false_iff.2 fun halt => ?_, before.2⟩
  rw [act_halt a h.pump halt] at before
  cases before.1

theorem Sound.acts (h : Sound s) (a : Acts s t) : Sound t := acts_keep (fun _ _ => Sound.act) a h

end Sys2Proof.Safety
end

section
/-! PROOFS. Every step keeps movers safe (O37): what each move does to the zones in view, the entries and line fitness, and
how the movers stop where one of these is lost. -/

namespace Sys2Proof.Safety

open Sys2Proof Sys2Proof.Machine

variable {s t : State} {m x : MoverId}

/-! ### What a moving mover needs -/

/-- A need of a moving mover: whatever clears it to move gives it, and it reads no block that acts change but its own
entry. -/
structure Need (Q : State → MoverId → Prop) : Prop where
  start : ∀ s m, Cleared s m → Q s m
  keep : ∀ s t m, t.cfg = s.cfg → t.suc = s.suc → t.liu = s.liu → t.ptu = s.ptu → t.fpr = s.fpr →
    t.demandOf (.mover m) = s.demandOf (.mover m) → Q s m → Q t m

/-- A mover that moves has what it needs. -/
def Meets (Q : State → MoverId → Prop) (s : State) (m : MoverId) : Prop := Moving s m → Q s m

/-- No zone of the mover is occupied. -/
def ZonesFree (s : State) (m : MoverId) : Prop := s.zoneOccupied m = false

/-- The mover's entry draws what it wants. -/
def Granted (s : State) (m : MoverId) : Prop := s.granted m = true

/-- Line fitness holds. -/
def LineFit (s : State) (_ : MoverId) : Prop := s.lineFit = true

/-- The zones every record shows occupied. -/
def peersOccupied (s : State) : List ZoneSet := s.records.map fun r => r.ann.occupied

/-- The occupied view goes by the records' zones and the own OCCUPANCY inputs (R67, R68). -/
theorem zoneOccupied_of_view (cfg : t.cfg = s.cfg) (phase : t.suc.phase = s.suc.phase)
    (peers : peersOccupied t = peersOccupied s)
    (inputs : ∀ z : Fin 16, t.input s.cfg.occupancy[z] = s.input s.cfg.occupancy[z]) :
    t.zoneOccupied m = s.zoneOccupied m := by
  have view (u : State) : u.occupiedView = (peersOccupied u).foldl (fun acc z => acc ||| z) u.ownOccupied := by
    rw [peersOccupied, List.foldl_map]
    rfl
  have own : t.ownOccupied = s.ownOccupied := by
    unfold State.ownOccupied
    rw [working_congr phase, cfg]
    simp only [inputs]
  unfold State.zoneOccupied State.zonesOf
  rw [view, view, own, peers, cfg]

theorem peersOccupied_of_ptu (ptu : t.ptu = s.ptu) : peersOccupied t = peersOccupied s := by
  unfold peersOccupied State.records
  rw [ptu]

theorem input_of_fpr (fpr : t.fpr = s.fpr) (pin : Option PinId) : t.input pin = s.input pin := by
  unfold State.input
  rw [fpr]

theorem zoneOccupied_congr (cfg : t.cfg = s.cfg) (phase : t.suc.phase = s.suc.phase) (ptu : t.ptu = s.ptu)
    (fpr : t.fpr = s.fpr) : t.zoneOccupied m = s.zoneOccupied m :=
  zoneOccupied_of_view cfg phase (peersOccupied_of_ptu ptu) fun _ => input_of_fpr fpr _

theorem granted_of_demand (same : t.demandOf (.mover m) = s.demandOf (.mover m)) : t.granted m = s.granted m := by
  unfold State.granted
  rw [same]

theorem lineFit_of_ports (cfg : t.cfg = s.cfg) (ports : t.liu.ports = s.liu.ports) : t.lineFit = s.lineFit := by
  unfold State.lineFit State.portFit
  rw [cfg, ports]

theorem need_zones : Need ZonesFree where
  start s m clear := by
    obtain ⟨standing, -, -⟩ := clear
    unfold State.standing at standing
    unfold ZonesFree
    split at standing
    · cases standing
    · cases standing
    · split at standing <;> cases standing
    · split at standing
      · cases standing
      · exact Bool.eq_false_iff.2 ‹_›
  keep s t m cfg suc _ ptu fpr _ h := (zoneOccupied_congr cfg (by rw [suc]) ptu fpr).trans h

theorem need_granted : Need Granted where
  start _ _ clear := clear.2.1
  keep _ _ _ _ _ _ _ _ demand h := (granted_of_demand demand).trans h

theorem need_lineFit : Need LineFit where
  start _ _ clear := clear.2.2
  keep _ _ _ cfg _ liu _ _ _ h := (lineFit_of_ports cfg (by rw [liu])).trans h

theorem faultInMotion_keeps {I : State → Prop} {reason : FaultReason}
    (fault : ∀ (s : State) (m : MoverId) (r : Mover), s.mover m = some r → r.phase.inMotion = true → I s →
      I (s.enterFaulted m reason)) (m : MoverId) (start : I s) : I (s.faultInMotion m reason) := by
  unfold State.faultInMotion
  split
  · next r here => exact iteInduction (fun motion => fault s m r here motion start) fun _ => start
  · exact start

section Need

variable {Q : State → MoverId → Prop}

theorem Meets.cause (need : Need Q) (cfg : t.cfg = s.cfg) (suc : t.suc = s.suc) (liu : t.liu = s.liu)
    (ptu : t.ptu = s.ptu) (fpr : t.fpr = s.fpr) (cause : Moving t m → Cause s t m) (h : Meets Q s m) : Meets Q t m := by
  intro moving
  obtain ⟨before, demand⟩ | clear := cause moving
  · exact need.keep s t m cfg suc liu ptu fpr demand (h before)
  · exact need.start t m clear

theorem Meets.act (need : Need Q) (a : Act s t) (h : Meets Q s m) : Meets Q t m := by
  have aside := act_aside a
  exact h.cause need aside.cfg aside.suc aside.liu aside.ptu aside.fpr (act_cause a)

theorem Meets.acts (need : Need Q) (a : Acts s t) (h : Meets Q s m) : Meets Q t m :=
  acts_keep (I := fun u => Meets Q u m) (fun _ _ a h => Meets.act need a h) a h

theorem Meets.faultInMotion (need : Need Q) (x : MoverId) (reason : FaultReason) (h : Meets Q s m) :
    Meets Q (s.faultInMotion x reason) m :=
  faultInMotion_keeps (I := fun u => Meets Q u m)
    (fun u y r _ _ begun => begun.cause need (by simp) (by simp) (by simp) (by simp) (by simp) (cause_enterFaulted reason)) x h

theorem meets_of_still (still : ¬Moving s m) : Meets Q s m := fun moving => absurd moving still

end Need

/-- The movers that move have their zones free, their entries granted and the line fit. -/
structure Clear (s : State) : Prop where
  zones : ∀ m, Meets ZonesFree s m
  granted : ∀ m, Meets Granted s m
  line : ∀ m, Meets LineFit s m

theorem Clear.acts (a : Acts s t) (h : Clear s) : Clear t :=
  ⟨fun m => (h.zones m).acts need_zones a, fun m => (h.granted m).acts need_granted a,
    fun m => (h.line m).acts need_lineFit a⟩

theorem Still.clear (h : Still s) : Clear s := by
  have still (m : MoverId) : ¬Moving s m := fun moving => h m moving.inMotion
  exact ⟨fun m => meets_of_still (still m), fun m => meets_of_still (still m), fun m => meets_of_still (still m)⟩

/-! ### Halts -/

theorem faultInMotion_inMotion {reason : FaultReason} (moving : InMotion (s.faultInMotion x reason) m) :
    m ≠ x ∧ InMotion s m := by
  unfold State.faultInMotion at moving
  split at moving
  · next r here =>
    split at moving
    · exact enterFaulted_inMotion moving
    · next out =>
      refine ⟨?_, moving⟩
      rintro rfl
      obtain ⟨p, found, motion⟩ := moving
      rw [phaseOf, here] at found
      cases found
      exact out motion
  · next none =>
    refine ⟨?_, moving⟩
    rintro rfl
    obtain ⟨p, found, -⟩ := moving
    rw [phaseOf, none] at found
    cases found

/-- A HALT leaves no mover in motion (R109). -/
theorem still_haltMovers (s : State) : Still s.haltMovers := by
  intro m moving
  obtain ⟨second, moving⟩ := faultInMotion_inMotion (s := s.faultInMotion 0 .halted) (x := 1) moving
  obtain ⟨first, -⟩ := faultInMotion_inMotion moving
  obtain rfl | rfl := mover_cases m
  · exact first rfl
  · exact second rfl

/-! ### Moves beside the movers -/

/-- Motion, RUN, the HALT faults and PUMP_FAULT stand in t as in s. -/
structure Like (s t : State) : Prop where
  phases : ∀ m, phaseOf t m = phaseOf s m
  running : t.running = s.running
  halt : t.haltActive = true → s.haltActive = true
  pump : ReasonShown .pumpFault s → ReasonShown .pumpFault t

/-- What the movers read of a station stands in t as in s. -/
structure Similar (s t : State) : Prop extends Like s t where
  zones : ∀ m, t.zoneOccupied m = s.zoneOccupied m
  granted : ∀ m, t.granted m = s.granted m
  line : t.lineFit = s.lineFit

theorem Like.moving (same : Like s t) (moving : Moving t m) : Moving s m := moving.of_phase (same.phases m)

theorem Similar.trans {u : State} (h : Similar s t) (k : Similar t u) : Similar s u where
  phases m := (k.phases m).trans (h.phases m)
  running := k.running.trans h.running
  zones m := (k.zones m).trans (h.zones m)
  granted m := (k.granted m).trans (h.granted m)
  line := k.line.trans h.line
  halt e := h.halt (k.halt e)
  pump e := k.pump (h.pump e)

theorem Similar.clear (same : Similar s t) (h : Clear s) : Clear t where
  zones m moving := (same.zones m).trans (h.zones m (same.moving moving))
  granted m moving := (same.granted m).trans (h.granted m (same.moving moving))
  line m moving := same.line.trans (h.line m (same.moving moving))

theorem Like.free (same : Like s t) (h : Free s) : Free t := by
  intro m motion
  obtain ⟨halt, running⟩ := h m (motion.of_phase (same.phases m))
  refine ⟨Bool.eq_false_iff.2 fun on => ?_, same.running.trans running⟩
  rw [same.halt on] at halt
  cases halt

theorem Like.sound (same : Like s t) (motion : MotionOk t) (h : Sound s) : Sound t :=
  ⟨motion, same.free h.free, same.pump h.pump⟩

/-- The inputs movers are safe by stand: OCCUPANCY of every zone and POWER_FAULT of every mover. -/
structure SameInputs (s t : State) : Prop where
  occupancy : ∀ z : Fin 16, t.input s.cfg.occupancy[z] = s.input s.cfg.occupancy[z]
  power : ∀ m, t.input (s.moverCfg m).powerFault = s.input (s.moverCfg m).powerFault

theorem sameInputs_of_fpr (fpr : t.fpr = s.fpr) : SameInputs s t :=
  ⟨fun _ => input_of_fpr fpr _, fun _ => input_of_fpr fpr _⟩

theorem anyPowerFault_of_inputs (cfg : t.cfg = s.cfg) (records : ∀ m, (t.mover m).isSome = (s.mover m).isSome)
    (power : ∀ m, t.input (s.moverCfg m).powerFault = s.input (s.moverCfg m).powerFault) :
    t.anyPowerFault = s.anyPowerFault := by
  have same (m : MoverId) : t.moverCfg m = s.moverCfg m := by unfold State.moverCfg; rw [cfg]
  unfold State.anyPowerFault
  congr 1
  funext m
  have := records m
  rw [same, power]
  cases here : t.mover m <;> cases there : s.mover m <;> simp_all

theorem like_of {kinds : List FaultKind} (mvu : t.mvu = s.mvu) (cfg : t.cfg = s.cfg) (phase : t.suc.phase = s.suc.phase)
    (power : ∀ m, t.input (s.moverCfg m).powerFault = s.input (s.moverCfg m).powerFault) (reports : Reports kinds s t)
    (quiet : ∀ k ∈ .pumpFault :: haltKinds, k ∉ kinds := by decide) : Like s t where
  phases m := phaseOf_of_mvu mvu m
  running := by unfold State.running; rw [phase]
  halt := halt_of_reports reports (quiet _ (by decide)) fun k on => quiet k (List.mem_cons_of_mem _ on)
  pump h := h.keep (fun k kind => by cases kind; exact reports.active (quiet _ (by decide)))
    (reasonHolds_congr
      (anyPowerFault_of_inputs cfg (fun m => by rw [← sign_isSome, ← sign_isSome, sign_of_mvu mvu]) power)
      (anyFaulted_congr (fun m => by rw [sign_of_mvu mvu]) _))

/-- A move that leaves the movers' blocks, with the kinds it reports. -/
theorem similar_of {kinds : List FaultKind} (mvu : t.mvu = s.mvu) (cfg : t.cfg = s.cfg)
    (phase : t.suc.phase = s.suc.phase) (peers : peersOccupied t = peersOccupied s) (inputs : SameInputs s t)
    (ports : t.liu.ports = s.liu.ports) (granted : ∀ m, t.granted m = s.granted m) (reports : Reports kinds s t)
    (quiet : ∀ k ∈ .pumpFault :: haltKinds, k ∉ kinds := by decide) : Similar s t :=
  { like_of mvu cfg phase inputs.power reports quiet with
    zones := fun _ => zoneOccupied_of_view cfg phase peers inputs.occupancy
    granted := granted
    line := lineFit_of_ports cfg ports }

/-- A move beside the demand list, the records and the pins, too. -/
theorem similar_of_blocks {kinds : List FaultKind} (mvu : t.mvu = s.mvu) (cfg : t.cfg = s.cfg)
    (phase : t.suc.phase = s.suc.phase) (ptu : t.ptu = s.ptu) (fpr : t.fpr = s.fpr) (ports : t.liu.ports = s.liu.ports)
    (demands : t.sbu.demands = s.sbu.demands) (reports : Reports kinds s t)
    (quiet : ∀ k ∈ .pumpFault :: haltKinds, k ∉ kinds := by decide) : Similar s t :=
  similar_of mvu cfg phase (peersOccupied_of_ptu ptu) (sameInputs_of_fpr fpr) ports
    (fun m => granted_of_demand (by unfold State.demandOf; rw [demands])) reports quiet

/-- Entries that keep their drawings and amounts leave every mover as granted as it was. -/
theorem granted_of_view
    (same : t.sbu.demands.map (fun d => (d.source, decide (d.drawing = d.want))) =
      s.sbu.demands.map fun d => (d.source, decide (d.drawing = d.want))) (m : MoverId) : t.granted m = s.granted m := by
  have view := demandIn_view (fun d => decide (d.drawing = d.want)) same (.mover m)
  have read (u : State) : u.granted m = ((demandIn u.sbu.demands (.mover m)).map fun d => decide (d.drawing = d.want)).getD false := by
    unfold State.granted State.demandOf
    cases demandIn u.sbu.demands (.mover m) <;> rfl
  rw [read, read, view]

theorem granted_of_map {f : Demand → Demand}
    (keeps : ∀ d, (f d).source = d.source ∧ (f d).drawing = d.drawing ∧ (f d).want = d.want)
    (demands : t.sbu.demands = s.sbu.demands.map f) (m : MoverId) : t.granted m = s.granted m := by
  refine granted_of_view ?_ m
  rw [demands, List.map_map]
  exact List.map_congr_left fun d _ => by
    obtain ⟨source, drawing, want⟩ := keeps d
    simp [source, drawing, want]

/-! ### The demand list -/

theorem granted_enterIsland (s : State) (cause : IslandCause) (m : MoverId) :
    (s.enterIsland cause).granted m = s.granted m :=
  granted_of_map (f := islandEntry) (fun _ => ⟨rfl, rfl, rfl⟩) (by rw [State.enterIsland, State.raiseCond_sbu]) m

theorem granted_leaveIsland (s : State) (m : MoverId) : s.leaveIsland.granted m = s.granted m := by
  unfold State.leaveIsland
  split
  · exact granted_of_map (f := islandLeave) (fun _ => ⟨rfl, rfl, rfl⟩) (by rw [State.clearFlag_sbu]) m
  · rfl

theorem granted_settle (s : State) (src : Source) (now q : Nat) (m : MoverId) :
    (s.setDemands (mapSource src (settleEntry now q) s.sbu.demands)).granted m = s.granted m := by
  refine granted_of_map (fun d => ?_) (State.setDemands_demands s _) m
  split
  · obtain e | ⟨x, -, e⟩ := settleEntry_cases now q d <;> rw [e] <;> exact ⟨rfl, rfl, rfl⟩
  · exact ⟨rfl, rfl, rfl⟩

theorem granted_takeOffers (s : State) (m : MoverId) : s.takeOffers.granted m = s.granted m := by
  have pended (offers : List (Source × Nat)) (u : State) :
      (u.setDemands (offers.foldl (pend s.now) u.sbu.demands)).granted m = u.granted m := by
    induction offers generalizing u with
    | nil => rfl
    | cons o offers ih =>
      refine (ih (u.setDemands (pend s.now u.sbu.demands o))).trans ?_
      refine granted_of_map (fun d => ?_) (State.setDemands_demands u _) m
      split
      · dsimp only
        split <;> exact ⟨rfl, rfl, rfl⟩
      · exact ⟨rfl, rfl, rfl⟩
  exact pended s.sbu.offers s

theorem alignEntry_demandOf_mover (s : State) (c : ChannelId) (old new : Nat) (m : MoverId) :
    (s.alignEntry c old new).demandOf (.mover m) = s.demandOf (.mover m) := by
  unfold State.alignEntry
  dsimp only
  split
  · rfl
  · split
    · rw [State.removeEntry_demandOf, if_neg nofun]
    · split
      · rw [State.createEntry_demandOf, if_neg nofun]
      · rw [State.changeEntry_demandOf, if_neg nofun]

theorem applyLevel_demandOf_mover (s : State) (c : ChannelId) (level : Nat) (m : MoverId) :
    (s.applyLevel c level).demandOf (.mover m) = s.demandOf (.mover m) := by
  unfold State.applyLevel
  dsimp only
  split
  · rfl
  · rfl
  · split
    · rfl
    · exact (State.demandOf_congr (State.refreshChannel_sbu _ c) _).trans (alignEntry_demandOf_mover _ c _ _ m)
  · exact (State.demandOf_congr (State.refreshChannel_sbu _ c) _).trans (alignEntry_demandOf_mover _ c _ _ m)

/-! ### The pins -/

theorem input_deliverPin_other {p : PinId} {active : Bool} {pin : Option PinId} (other : pin ≠ some p) :
    (s.deliverPin p active).input pin = s.input pin := by
  cases pin with
  | none => rfl
  | some q =>
    have ne : q ≠ p := fun e => other (congrArg some e)
    unfold State.input State.deliverPin
    dsimp only
    rw [State.onPin_pins]
    exact congrArg Pin.delivered ((modifyAt_get s.fpr.pins p q _).trans (if_neg ne))

theorem moverCfg_powerFault {p : PinId} (bound : BindingsOk s.cfg) (h : (s.moverCfg m).powerFault = some p) :
    (s.cfg.pins[p]).fn = .powerFault := by
  unfold State.moverCfg at h
  cases configured : s.cfg.movers[m] with
  | none =>
    rw [configured] at h
    cases h
  | some c =>
    rw [configured] at h
    obtain ⟨-, -, -, -, -, -, power⟩ := bound.movers m c p configured
    exact power h

/-- A change of a pin of another function leaves the inputs movers are safe by (R133). -/
theorem sameInputs_deliverPin (bound : BindingsOk s.cfg) {p : PinId} (active : Bool)
    (occupancy : (s.cfg.pins[p]).fn ≠ .occupancy) (power : (s.cfg.pins[p]).fn ≠ .powerFault) :
    SameInputs s (s.deliverPin p active) where
  occupancy z := input_deliverPin_other fun e => occupancy (bound.occupancy z p e)
  power _ := input_deliverPin_other fun e => power (moverCfg_powerFault bound e)

theorem similar_deliverPin (bound : BindingsOk s.cfg) {p : PinId} (active : Bool)
    (occupancy : (s.cfg.pins[p]).fn ≠ .occupancy) (power : (s.cfg.pins[p]).fn ≠ .powerFault) :
    Similar s (s.deliverPin p active) :=
  similar_of (kinds := []) rfl rfl rfl rfl (sameInputs_deliverPin bound active occupancy power) rfl (fun _ => rfl)
    (reports_of_fcl rfl)

/-- A press or a release of a key delivers its pin, which is a KEY pin (R133, R139). -/
theorem similar_hold (bound : BindingsOk s.cfg) (k : KeyId) (active : Bool) : Similar s (s.hold k active) := by
  unfold State.hold
  dsimp only
  have held : Similar s (s.onKey k fun x => { x with held := active }) :=
    similar_of_blocks (kinds := []) rfl rfl rfl rfl rfl rfl rfl (reports_of_fcl rfl)
  generalize e : (s.onKey k fun x => { x with held := active }) = t at held
  have cfg : t.cfg = s.cfg := by subst e; rfl
  split
  · next p here =>
    have key : (t.cfg.pins[p]).fn = .key := by rw [cfg]; exact bound.keys k p here
    exact held.trans (similar_deliverPin (cfg ▸ bound) active (by rw [key]; nofun) (by rw [key]; nofun))
  · exact held

end Sys2Proof.Safety
end

section
/-! PROOFS. Settles the statement that every step keeps movers safe (O37): the moves one by one, then the start-up. -/

namespace Sys2Proof.Safety

open Sys2Proof Sys2Proof.Machine

variable {s t : State} {m x : MoverId}

/-- The invariant of O37 without line fitness as LINE_UNFIT shows it, which is an invariant of its own (O25). -/
structure Safe (s : State) : Prop where
  sound : Sound s
  clear : Clear s
  bound : BindingsOk s.cfg

theorem Safe.similar (h : Safe s) (same : Similar s t) (motion : MotionOk t) (cfg : t.cfg = s.cfg) : Safe t :=
  ⟨same.toLike.sound motion h.sound, same.clear h.clear, cfg ▸ h.bound⟩

theorem Safe.acts (h : Safe s) (a : Acts s t) : Safe t :=
  ⟨h.sound.acts a, h.clear.acts a, (acts_aside a).cfg ▸ h.bound⟩

/-! ### What stops a mover -/

theorem not_moving_enterIdle (code : RefusalCode) : ¬Moving (s.enterIdle x code) x :=
  fun moving => (enterIdle_inMotion moving.inMotion).1 rfl

theorem not_moving_enterStopping (reason : StopReason) (mark : Option Dir) : ¬Moving (s.enterStopping x reason mark) x :=
  not_moving_onMover (p := .stopping) (fun _ => rfl) nofun nofun

theorem moving_iff : Moving s m ↔ ∃ r, s.mover m = some r ∧ (r.phase = .unlocking ∨ r.phase = .running) := by
  unfold Moving phaseOf
  cases s.mover m <;> simp

/-- A mover whose own operation stops it where its need is not met. -/
theorem meets_of_stop {Q : State → MoverId → Prop} (need : Need Q) (a : Acts s t)
    (stop : Moving s m → Meets Q t m) : Meets Q t m := by
  by_cases moving : Moving s m
  · exact stop moving
  · exact (meets_of_still moving).acts need a

/-- Each mover meets its need by its own operation, and the other's is an act. -/
theorem meets_both {Q : State → MoverId → Prop} (need : Need Q) {f : State → MoverId → State} {ok : State → Prop}
    (acts : ∀ s m, Acts s (f s m)) (keeps : ∀ s m, ok s → ok (f s m)) (meet : ∀ s m, ok s → Meets Q (f s m) m)
    (start : ok s) (m : MoverId) : Meets Q (f (f s 0) 1) m := by
  obtain rfl | rfl := mover_cases m
  · exact (meet s 0 start).acts need (acts _ 1)
  · exact meet _ 1 (keeps s 0 start)

theorem tickMover_granted (s : State) (m : MoverId) : Meets Granted (s.tickMover m) m := by
  refine meets_of_stop need_granted (acts_tickMover s m) fun moving => ?_
  obtain ⟨r, here, phase⟩ := moving_iff.1 moving
  unfold State.tickMover
  rw [here]
  obtain phase | phase := phase <;> dsimp only <;> rw [phase] <;> dsimp only <;> split
  · next granted => exact fun _ => granted
  · exact meets_of_still (not_moving_enterIdle _)
  · next granted => exact fun _ => granted
  · exact meets_of_still (not_moving_enterStopping _ _)

theorem fitnessStop_line (s : State) (m : MoverId) : Meets LineFit (s.fitnessStop m) m := by
  refine meets_of_stop need_lineFit (acts_fitnessStop s m) fun moving => ?_
  obtain ⟨r, here, phase⟩ := moving_iff.1 moving
  unfold State.fitnessStop
  rw [here]
  obtain phase | phase := phase <;> dsimp only <;> rw [phase]
  · exact meets_of_still (not_moving_enterIdle _)
  · exact meets_of_still (not_moving_enterStopping _ _)

/-- A HELD claim that does not stand OCCUPIED has its zones free (Table 4-2). -/
theorem zonesFree_of_standing (held : s.claim m = .held) (free : s.standing m ≠ .occupied) : ZonesFree s m := by
  unfold State.standing at free
  rw [held] at free
  dsimp only at free
  split at free
  · exact absurd rfl free
  · exact Bool.eq_false_iff.2 ‹_›

theorem react_zones (h : MotionOk s) (m : MoverId) : Meets ZonesFree (s.react m) m := by
  refine meets_of_stop need_zones (acts_react s m) fun moving => ?_
  obtain ⟨r, here, phase⟩ := moving_iff.1 moving
  have held : s.claim m = .held := by
    refine h.held m r here ?_
    obtain phase | phase := phase <;> rw [phase] <;> rfl
  unfold State.react
  rw [here]
  obtain phase | phase := phase <;> dsimp only <;> rw [phase] <;> dsimp only <;> split
  · next clear => exact fun _ => zonesFree_of_standing held (by rw [clear]; nofun)
  · exact meets_of_still (not_moving_enterIdle _)
  · exact meets_of_still (not_moving_enterStopping _ _)
  · next clear => exact fun _ => zonesFree_of_standing held clear

theorem reactAll_zones (h : MotionOk s) (m : MoverId) : Meets ZonesFree s.reactAll m :=
  meets_both need_zones acts_react (fun u y ok => ok.acts (acts_react u y)) (fun _ y ok => react_zones ok y) h m

/-- The view has changed: the movers stop by what it shows now (R71). -/
theorem Sound.reexamine (h : Sound s) (granted : ∀ m, Meets Granted s m) (line : ∀ m, Meets LineFit s m)
    (bound : BindingsOk s.cfg) : Safe s.reexamine := by
  have examined : Acts s s.examineClaims := .of .examine
  have acts := acts_reexamine s
  exact ⟨h.acts acts, ⟨reactAll_zones (h.motion.acts examined), fun m => (granted m).acts need_granted acts,
    fun m => (line m).acts need_lineFit acts⟩, (acts_aside acts).cfg ▸ bound⟩

/-! ### Line fitness -/

theorem restartWindows_keep {β : Type} (view : State → β) (same : ∀ u m c, view (State.setClaim u m c) = view u) (s : State) :
    view (allMovers.foldl State.restartWindow s) = view s := by
  refine foldl_keeps view State.restartWindow (fun u m => ?_) allMovers s
  unfold State.restartWindow
  split
  · exact same u m _
  all_goals rfl

/-- Line fitness regained: island mode may be left and windows run afresh, and a mover's records stand (R76, R38). -/
theorem similar_regain (s : State) :
    Similar s (allMovers.foldl State.restartWindow (s.clearFlag .lineUnfit).leaveIsland) := by
  have cleared : Similar s (s.clearFlag .lineUnfit) :=
    similar_of_blocks rfl rfl rfl rfl rfl rfl rfl (reports_clearFlag s (List.mem_singleton_self _))
  have left : Similar (s.clearFlag .lineUnfit) (s.clearFlag .lineUnfit).leaveIsland :=
    similar_of (by simp) (by simp) (by simp) (peersOccupied_of_ptu (by simp)) (sameInputs_of_fpr (by simp)) (by simp)
      (granted_leaveIsland _) (reports_leaveIsland _)
  generalize (s.clearFlag .lineUnfit).leaveIsland = u at left
  refine (cleared.trans left).trans ?_
  exact similar_of_blocks (kinds := []) (restartWindows_keep State.mvu (fun _ _ _ => rfl) u)
    (restartWindows_keep State.cfg (fun _ _ _ => rfl) u) (restartWindows_keep (fun v => v.suc.phase) (fun _ _ _ => rfl) u)
    (restartWindows_keep State.ptu (fun _ _ _ => rfl) u) (restartWindows_keep State.fpr (fun _ _ _ => rfl) u)
    (restartWindows_keep (fun v => v.liu.ports) (fun _ _ _ => rfl) u)
    (restartWindows_keep (fun v => v.sbu.demands) (fun _ _ _ => rfl) u)
    (reports_of_fcl (restartWindows_keep State.fcl (fun _ _ _ => rfl) u))

/-- Line fitness judged: where it is lost the movers stop (R100, R102, R154). -/
theorem Sound.judgeFitness (h : Sound s) (zones : ∀ m, Meets ZonesFree s m) (granted : ∀ m, Meets Granted s m)
    (bound : BindingsOk s.cfg) (stopped : s.lineFit = false → s.active .lineUnfit = true → ∀ m, ¬Moving s m) :
    Safe s.judgeFitness := by
  have whole (line : ∀ m, Meets LineFit s m) : Safe s := ⟨h, ⟨zones, granted, line⟩, bound⟩
  unfold State.judgeFitness
  split
  · split
    · next line =>
      split
      · have regained := similar_regain s
        have motion : MotionOk (allMovers.foldl State.restartWindow (s.clearFlag .lineUnfit).leaveIsland) := by
          have cleared : MotionOk (s.clearFlag .lineUnfit).leaveIsland := h.motion.keep (by simp [KeepsMotion])
          exact (cleared.restartWindow 0).restartWindow 1
        have cfg : (allMovers.foldl State.restartWindow (s.clearFlag .lineUnfit).leaveIsland).cfg = s.cfg :=
          (restartWindows_keep State.cfg (fun _ _ _ => rfl) _).trans (by simp)
        have safe := (whole fun _ _ => line).similar regained motion cfg
        unfold State.regainFitness
        generalize allMovers.foldl State.restartWindow (s.clearFlag .lineUnfit).leaveIsland = u at safe
        exact safe.acts (acts_reactAll u)
      · exact whole fun _ _ => line
    · next line =>
      split
      · next on => exact whole fun m => meets_of_still (stopped (Bool.eq_false_iff.2 line) on m)
      · have raised : Similar s (s.raiseCond .lineUnfit) :=
          similar_of_blocks (by simp) (by simp) (by simp) (by simp) (by simp) (by simp) (by simp)
            (reports_raiseCond s (List.mem_singleton_self _))
        have acts := Acts.foldl acts_fitnessStop allMovers (s.raiseCond .lineUnfit)
        have sound := (raised.toLike.sound (h.motion.keep (by simp [KeepsMotion])) h).acts acts
        have lost : Safe (allMovers.foldl State.fitnessStop (s.raiseCond .lineUnfit)) := by
          refine ⟨sound, ⟨fun m => ?_, fun m => ?_, fun m => ?_⟩, ?_⟩
          · exact Meets.acts need_zones acts fun moving => (raised.zones m).trans (zones m (raised.moving moving))
          · exact Meets.acts need_granted acts fun moving => (raised.granted m).trans (granted m (raised.moving moving))
          · exact meets_both need_lineFit (ok := fun _ => True) acts_fitnessStop (fun _ _ _ => trivial)
              (fun u y _ => fitnessStop_line u y) trivial m
          · rw [(acts_aside acts).cfg, State.raiseCond_cfg]
            exact bound
        unfold State.loseFitness
        dsimp only
        generalize allMovers.foldl State.fitnessStop (s.raiseCond .lineUnfit) = u at lost
        exact lost.similar (similar_of_blocks (kinds := []) rfl rfl rfl rfl rfl rfl rfl (reports_of_fcl rfl))
          (lost.sound.motion.keep ⟨rfl, rfl, rfl, rfl, rfl⟩) rfl
  · next out =>
    refine whole fun m => meets_of_still fun moving => out ?_
    exact (h.free m moving.inMotion).2

/-! ### HALT faults -/

theorem Still.sound (h : Still s) (motion : MotionOk s) (pump : ReasonShown .pumpFault s) : Sound s :=
  ⟨motion, h.free, pump⟩

theorem Still.safe (h : Still s) (motion : MotionOk s) (pump : ReasonShown .pumpFault s) (bound : BindingsOk s.cfg) :
    Safe s := ⟨h.sound motion pump, h.clear, bound⟩

/-- PUMP_FAULT stands where neither its flag, the inputs nor the records change. -/
theorem pumpShown_keep (h : ReasonShown .pumpFault s) (active : t.active .pumpFault = s.active .pumpFault)
    (mvu : t.mvu = s.mvu) (cfg : t.cfg = s.cfg) (fpr : t.fpr = s.fpr) : ReasonShown .pumpFault t :=
  h.keep (fun k kind => by cases kind; exact active)
    (reasonHolds_congr (anyPowerFault_congr cfg fpr fun m => by rw [← sign_isSome, ← sign_isSome, sign_of_mvu mvu])
      (anyFaulted_congr (fun m => by rw [sign_of_mvu mvu]) _))

theorem Safe.raiseTwin (h : Safe s) : Safe s.raiseTwin := by
  have motion := h.sound.motion.raiseTwin
  unfold State.raiseTwin at motion ⊢
  split at motion
  · next twin => rwa [if_pos twin]
  · next twin =>
    rw [if_neg twin]
    have emptied : MotionOk s.emptyQueue := h.sound.motion.keep ⟨rfl, rfl, rfl, rfl, rfl⟩
    have raised : MotionOk (s.emptyQueue.raiseCond .twin) := emptied.keep (by simp [KeepsMotion])
    have halts := acts_haltMovers (s.emptyQueue.raiseCond .twin)
    have off : s.emptyQueue.active .twin ≠ true := twin
    have halted : s.emptyQueue.raiseHalt .twin = (s.emptyQueue.raiseCond .twin).haltMovers := if_neg off
    have pump : ReasonShown .pumpFault (s.emptyQueue.raiseCond .twin) :=
      pumpShown_keep h.sound.pump ((State.raiseCond_active _ _ _).trans (if_neg nofun)) (by simp [State.emptyQueue])
        (by simp [State.emptyQueue]) (by simp [State.emptyQueue])
    rw [halted] at motion ⊢
    have still := still_haltMovers (s.emptyQueue.raiseCond .twin)
    have shown := acts_keep (I := ReasonShown .pumpFault) (fun _ _ a h => h.act a) halts pump
    have cfg : (s.emptyQueue.raiseCond .twin).haltMovers.cfg = s.cfg := (acts_aside halts).cfg.trans (by simp [State.emptyQueue])
    generalize (s.emptyQueue.raiseCond .twin).haltMovers = u at motion still shown cfg
    refine Still.safe (fun m moving => still m (moving.of_phase (phaseOf_of_mvu (by simp) m))) motion ?_ ?_
    · exact pumpShown_keep shown ((reports_enterIsland u .twin).active (by decide)) (by simp) (by simp) (by simp)
    · rw [State.enterIsland_cfg, cfg]
      exact h.bound

theorem pumpFault_inMotion {p : PinId} (moving : InMotion (State.pumpFault p s x) m) : InMotion s m := by
  unfold State.pumpFault at moving
  split at moving
  · exact (faultInMotion_inMotion moving).2
  · exact moving

/-- A HALT on PUMP_FAULT: the pin's movers and, where it is the first HALT, the other are FAULTED (R108, R109). -/
theorem powerFailed_free (h : Free s) (p : PinId) : Free (State.powerFailed p s) := by
  unfold State.powerFailed
  dsimp only
  generalize faulted : (allMovers.foldl (State.pumpFault p) s).reportReason .pumpFault = t
  have motion (m : MoverId) (moving : InMotion t m) : InMotion s m := by
    subst faulted
    exact pumpFault_inMotion (pumpFault_inMotion (moving.of_phase (phaseOf_of_mvu (State.reportReason_mvu _ _) m)))
  have running : t.running = s.running := by
    subst faulted
    have suc : (allMovers.foldl (State.pumpFault p) s).suc = s.suc :=
      (aside_foldl (aside_pumpFault p) allMovers s).suc
    unfold State.running
    rw [State.reportReason_suc, suc]
  split
  · exact (still_haltMovers t).free
  · next quiet =>
    intro m moving
    obtain ⟨halt, run⟩ := h m (motion m moving)
    simpa [halt, running, run] using quiet

theorem powerFailed_clear (h : Clear s) (p : PinId) : Clear (State.powerFailed p s) := by
  have meets {Q : State → MoverId → Prop} (need : Need Q) (keep : ∀ u : State, ∀ m, Q u m → Q (u.reportReason .pumpFault) m)
      (begun : ∀ m, Meets Q s m) (m : MoverId) : Meets Q (State.powerFailed p s) m := by
    have one (u : State) (y : MoverId) (begun : Meets Q u m) : Meets Q (State.pumpFault p u y) m :=
      iteInduction (motive := fun v => Meets Q v m) (fun _ => begun.faultInMotion need y _) fun _ => begun
    have faulted := one _ 1 (one s 0 (begun m))
    have reported : Meets Q ((allMovers.foldl (State.pumpFault p) s).reportReason .pumpFault) m := fun moving =>
      keep _ m (faulted (moving.of_phase (phaseOf_of_mvu (State.reportReason_mvu _ _) m)))
    unfold State.powerFailed
    dsimp only
    split
    · exact reported.acts need (acts_haltMovers _)
    · exact reported
  refine ⟨meets need_zones (fun u m q => ?_) h.zones, meets need_granted (fun u m q => ?_) h.granted,
    meets need_lineFit (fun u m q => ?_) h.line⟩
  · exact (zoneOccupied_congr (by simp) (by simp) (by simp) (by simp)).trans q
  · exact (granted_of_demand (State.demandOf_congr (by simp) _)).trans q
  · exact (lineFit_of_ports (by simp) (by simp)).trans q

theorem input_deliverPin_inactive {p : PinId} {pin : Option PinId} (on : (s.deliverPin p false).input pin = true) :
    s.input pin = true := by
  by_cases same : pin = some p
  · subst pin
    unfold State.input State.deliverPin at on
    dsimp only at on
    rw [State.onPin_pins, Fin.getElem_fin, modifyAt_same] at on
    cases on
  · rwa [input_deliverPin_other same] at on

/-- The end of a power fault brings no HALT about (R108). -/
theorem pumpActive_of_inactive (h : ReasonShown .pumpFault s) {p : PinId}
    (on : ((s.deliverPin p false).reportReason .pumpFault).active .pumpFault = true) : s.active .pumpFault = true := by
  rw [reportReason_active _ rfl, if_pos rfl] at on
  rw [pumpActive_iff h]
  unfold State.reasonHolds at on ⊢
  simp only [Bool.or_eq_true, Bool.and_eq_true] at on ⊢
  refine on.imp (fun power => ⟨power.1, ?_⟩) id
  obtain ⟨-, power⟩ := power
  unfold State.anyPowerFault at power ⊢
  rw [List.any_eq_true] at power ⊢
  obtain ⟨m, on, input⟩ := power
  refine ⟨m, on, ?_⟩
  have same : (s.deliverPin p false).mover m = s.mover m := rfl
  rw [same] at input
  cases here : s.mover m with
  | none => rw [here] at input; exact input
  | some r =>
    rw [here] at input
    exact input_deliverPin_inactive input

theorem Safe.powerFault (h : Safe s) {pin : PinId} (active : Bool) (fn : (s.cfg.pins[pin]).fn = .powerFault) :
    Safe (State.powerFaultNow pin active (s.deliverPin pin active)) := by
  have motion : MotionOk (State.powerFaultNow pin active (s.deliverPin pin active)) :=
    (h.sound.motion.deliverPin pin active).powerFaultNow pin active
  have zones (m : MoverId) : (s.deliverPin pin active).zoneOccupied m = s.zoneOccupied m :=
    zoneOccupied_of_view rfl rfl rfl fun z => input_deliverPin_other fun e => by
      have := h.bound.occupancy z pin e
      rw [fn] at this
      cases this
  have clear : Clear (s.deliverPin pin active) :=
    ⟨fun m moving => (zones m).trans (h.clear.zones m moving), h.clear.granted, h.clear.line⟩
  have cfg := (aside_powerFaultNow pin active (s.deliverPin pin active)).cfg
  cases active with
  | true =>
    have free : Free (State.powerFailed pin (s.deliverPin pin true)) := powerFailed_free (s := s.deliverPin pin true) h.sound.free pin
    refine ⟨⟨motion, free, ?_⟩, powerFailed_clear clear pin, cfg ▸ h.bound⟩
    have shown := reasonShown_reportReason (allMovers.foldl (State.pumpFault pin) (s.deliverPin pin true)) .pumpFault
    unfold State.powerFaultNow State.powerFailed
    dsimp only
    generalize (allMovers.foldl (State.pumpFault pin) (s.deliverPin pin true)).reportReason .pumpFault = u at shown
    rw [if_pos rfl]
    split
    · exact acts_keep (I := ReasonShown .pumpFault) (fun _ _ a h => h.act a) (acts_haltMovers u) shown
    · exact shown
  | false =>
    unfold State.powerFaultNow at motion ⊢
    rw [if_neg Bool.false_ne_true] at motion ⊢
    have phases (m : MoverId) : phaseOf ((s.deliverPin pin false).reportReason .pumpFault) m = phaseOf s m :=
      phaseOf_of_mvu (State.reportReason_mvu _ _) m
    refine ⟨⟨motion, fun m moving => ?_, reasonShown_reportReason _ _⟩, ⟨?_, ?_, ?_⟩, by rw [State.reportReason_cfg]; exact h.bound⟩
    · obtain ⟨halt, running⟩ := h.sound.free m (moving.of_phase (phases m))
      refine ⟨Bool.eq_false_iff.2 fun on => ?_, ?_⟩
      · have only : ∀ k ∈ haltKinds, ((s.deliverPin pin false).reportReason .pumpFault).active k = s.active k := by
          intro k on
          rw [reportReason_active _ rfl, if_neg (by rintro rfl; revert on; decide)]
          rfl
        rw [haltActive_of (pump := pumpActive_of_inactive h.sound.pump) only on] at halt
        cases halt
      · rw [← running]
        unfold State.running
        rw [State.reportReason_suc]
        rfl
    · intro m moving
      exact (zoneOccupied_congr (s := s.deliverPin pin false) (by simp) (by simp) (by simp) (by simp)).trans
        (clear.zones m (moving.of_phase (phases m)))
    · intro m moving
      exact (granted_of_demand (State.demandOf_congr (State.reportReason_sbu _ _) _)).trans
        (clear.granted m (moving.of_phase (phases m)))
    · intro m moving
      exact (lineFit_of_ports (s := s.deliverPin pin false) (by simp) (by simp)).trans
        (clear.line m (moving.of_phase (phases m)))

/-! ### Peers -/

theorem Safe.filePeer (h : Safe s) (i : SlotId) (r : Option PeerRec) :
    Sound (s.setPeer i r).reportOrphans ∧ (∀ m, Meets Granted (s.setPeer i r).reportOrphans m) ∧
      (∀ m, Meets LineFit (s.setPeer i r).reportOrphans m) ∧ BindingsOk (s.setPeer i r).reportOrphans.cfg := by
  have like : Like s (s.setPeer i r).reportOrphans :=
    like_of (by simp) (by simp) (by simp) (fun _ => input_of_fpr (by simp) _)
      ((reports_reportOrphans _).before (State.setPeer_fcl s i r))
  refine ⟨like.sound (h.sound.motion.keep (by simp [KeepsMotion])) h.sound, fun m moving => ?_, fun m moving => ?_, ?_⟩
  · exact (granted_of_demand (State.demandOf_congr (by simp) _)).trans (h.clear.granted m (like.moving moving))
  · exact (lineFit_of_ports (by simp) (by simp)).trans (h.clear.line m (like.moving moving))
  · rw [State.reportOrphans_cfg]
    exact h.bound

theorem Safe.fileAnnounce (h : Safe s) (i : SlotId) (a : Announce) : Safe (s.fileAnnounce i a) := by
  obtain ⟨sound, granted, line, bound⟩ := h.filePeer i (some { status := .live, heard := s.now, ann := a })
  unfold State.fileAnnounce
  generalize (s.setPeer i (some { status := .live, heard := s.now, ann := a })).reportOrphans = u at sound granted line bound
  have clashes := Acts.foldl (acts_judgeClash a.claims) allMovers u
  refine Sound.reexamine (sound.acts clashes) (fun m => (granted m).acts need_granted clashes)
    (fun m => (line m).acts need_lineFit clashes) ?_
  rw [(acts_aside clashes).cfg]
  exact bound

/-- A record that ages shows the same zones (R8). -/
theorem peersOccupied_age (s : State) (n : SlotId) (status : PeerStatus) :
    peersOccupied (s.ageTo n status) = peersOccupied s := by
  have shown (u : State) : peersOccupied u = (u.ptu.peers.map (Option.map fun r => r.ann.occupied)).toList.filterMap id := by
    unfold peersOccupied State.records
    rw [List.map_filterMap, Vector.toList_map, List.filterMap_map]
    exact List.filterMap_congr fun x _ => by cases x <;> rfl
  rw [shown, shown]
  unfold State.ageTo
  rw [State.reportOrphans_ptu, State.setPeer_peers, Vector.map_set, Option.map_map]
  congr 2
  apply Vector.ext
  intro j hj
  rw [Vector.getElem_set]
  split
  · subst j
    rw [Vector.getElem_map]
    cases s.ptu.peers[n] <;> rfl
  · rfl

theorem similar_age (s : State) (n : SlotId) (status : PeerStatus) : Similar s (s.ageTo n status) :=
  similar_of (by simp) (by simp) (by simp) (peersOccupied_age s n status) (sameInputs_of_fpr (by simp)) (by simp)
    (fun _ => granted_of_demand (State.demandOf_congr (by simp) _))
    ((reports_reportOrphans _).before (State.setPeer_fcl s n _))

/-! ### Phases and inputs -/

theorem Safe.beginStandDown (h : Safe s) : Safe s.beginStandDown := by
  have down : Safe { s with suc := { s.suc with standDown := true } } :=
    h.similar (similar_of_blocks (kinds := []) rfl rfl rfl rfl rfl rfl rfl (reports_of_fcl rfl))
      (h.sound.motion.keep ⟨rfl, rfl, rfl, rfl, rfl⟩) rfl
  exact down.acts (acts_beginStandDown s)

theorem similar_compose (s : State) : Similar s s.compose := by
  have c := onQueue_compose s
  exact similar_of_blocks c.mvu c.cfg (by rw [c.suc]) c.ptu c.fpr c.ports c.demands c.reports

theorem Safe.compose (h : Safe s) : Safe s.compose :=
  h.similar (similar_compose s) h.sound.motion.compose (onQueue_compose s).cfg

/-- RUN is entered with every mover at rest (R116, R173). -/
theorem Safe.enterRun (h : Safe s) (quiet : s.suc.phase = .quiet) : Safe s.enterRun := by
  have still : Still { s with suc := { s.suc with phase := .run, since := s.now, runEntry := some s.now } } := by
    intro m moving
    have run := (h.sound.free m (moving.of_phase rfl)).2
    rw [State.running, quiet] at run
    cases run
  have begun := still.safe (h.sound.motion.work ⟨rfl, rfl, rfl, rfl⟩ rfl) (pumpShown_keep h.sound.pump rfl rfl rfl rfl) h.bound
  have judged := begun.sound.judgeFitness begun.clear.zones begun.clear.granted begun.bound
    fun _ _ m moving => still m moving.inMotion
  unfold State.enterRun
  dsimp only
  generalize State.judgeFitness _ = u at judged
  split
  · exact judged.beginStandDown.compose
  · exact judged.compose

theorem similar_atHome (s : State) (m : MoverId) : Similar s (s.atHome m) where
  phases x := onMover_phaseOf_keep fun _ => rfl
  running := rfl
  halt := id
  pump h := h.keep (fun _ _ => rfl) (reasonHolds_congr (anyPowerFault_congr rfl rfl fun x => by
      unfold State.atHome
      rw [State.onMover_mover]
      split
      · rw [Option.isSome_map]
      · rfl)
    (anyFaulted_congr (fun x => by
      unfold State.sign State.atHome
      rw [State.onMover_mover]
      split
      · cases s.mover x <;> rfl
      · rfl) _))
  zones _ := rfl
  granted _ := rfl
  line := rfl

theorem Safe.homed (h : Safe s) (p : PinId) (m : MoverId) : Safe (State.homed p s m) := by
  have zero : Safe (s.atHome m) :=
    h.similar (similar_atHome s m)
      (h.sound.motion.onMover fun r here => ⟨rfl, h.sound.motion.held m r here, Nat.zero_le _⟩) rfl
  unfold State.homed
  split
  · exact h
  · refine iteInduction (fun _ => ?_) fun _ => h
    exact iteInduction (fun _ => zero.acts (acts_reachEnd _ m)) fun _ => zero

theorem Safe.homeNow (h : Safe s) (p : PinId) (active : Bool) : Safe (State.homeNow p active s) := by
  refine iteInduction (fun _ => ?_) fun _ => h
  have homed : Safe (allMovers.foldl (State.homed p) s) := (h.homed p 0).homed p 1
  generalize allMovers.foldl (State.homed p) s = u at homed
  refine homed.similar ?_ (homed.sound.motion.keep (by simp [KeepsMotion])) (by simp)
  exact similar_of_blocks (kinds := [.countUnknown]) (by simp) (by simp) (by simp) (by simp) (by simp) (by simp) (by simp)
    (reports_reportCond u _ (List.mem_singleton_self _))

theorem similar_onSense (s : State) (cs : SenseId) (f : Sense → Sense) : Similar s (s.onSense cs f) :=
  similar_of_blocks (kinds := []) rfl rfl rfl rfl rfl rfl rfl (reports_of_fcl rfl)

theorem Safe.convert (h : Safe s) (cs : SenseId) (raw : Int) : Safe (s.convert cs raw) := by
  have sampled (u : State) (f : Sense → Sense) (begun : Safe u) : Safe (u.onSense cs f) :=
    begun.similar (similar_onSense u cs f) (begun.sound.motion.keep ⟨rfl, rfl, rfl, rfl, rfl⟩) rfl
  have delivered (u : State) (begun : Safe u) (reading : Nat) : Safe (u.deliverReading cs reading) := by
    unfold State.deliverReading
    split
    · exact begun.similar (similar_of_blocks (kinds := []) rfl rfl rfl rfl rfl rfl rfl (reports_of_fcl rfl))
        (begun.sound.motion.keep ⟨rfl, rfl, rfl, rfl, rfl⟩) rfl
    · split
      · exact begun.acts (acts_moverReading u 0 reading)
      · exact begun.acts (acts_moverReading u 1 reading)
  unfold State.convert
  dsimp only
  split
  · split
    · exact sampled _ _ (sampled _ _ h)
    · split
      · split
        · exact delivered _ (sampled _ _ h) _
        · exact sampled _ _ h
      · exact sampled _ _ h
  · exact sampled _ _ h

/-- A port's change of state: line fitness is judged by what the ports show now (R154). -/
theorem Safe.movePort (h : Safe s) (fit : FitnessOk s) (p : PortId) (f : Port → Port) : Safe (s.movePort p f) := by
  have dark : darkKind p ∈ portKinds := by revert p; decide
  have unfit : unfitKind p ∈ portKinds := by revert p; decide
  have reports : Reports portKinds s ((s.onPort p f).reportPort p) :=
    ((reports_reportCond _ _ dark).before (State.onPort_fcl s p f)).trans (reports_reportCond _ _ unfit)
  have same : Like s ((s.onPort p f).reportPort p) :=
    like_of (by simp) (by simp) (by simp) (fun _ => input_of_fpr (by simp) _) reports
  refine Sound.judgeFitness (same.sound (h.sound.motion.keep (by simp [KeepsMotion])) h.sound) (fun m moving => ?_)
    (fun m moving => ?_) (by rw [State.reportPort_cfg]; exact h.bound) fun _ on m moving => ?_
  · exact (zoneOccupied_congr (by simp) (by simp) (by simp) (by simp)).trans (h.clear.zones m (same.moving moving))
  · exact (granted_of_demand (State.demandOf_congr (by simp) _)).trans (h.clear.granted m (same.moving moving))
  · have before := same.moving moving
    have line : s.lineFit = true := h.clear.line m before
    rw [reports.active (by decide), fit (h.sound.free m before.inMotion).2, line] at on
    cases on

theorem Safe.move (a : Move s t) (fit : FitnessOk s) (h : Safe s) : Safe t := by
  have motion := h.sound.motion.move a
  have beside {pin : PinId} (active : Bool) (occupancy : (s.cfg.pins[pin]).fn ≠ .occupancy)
      (power : (s.cfg.pins[pin]).fn ≠ .powerFault) : Safe (s.deliverPin pin active) :=
    h.similar (similar_deliverPin h.bound active occupancy power) (h.sound.motion.deliverPin pin active) rfl
  cases a with
  | run quiet => exact h.enterRun quiet
  | port p f => exact h.movePort fit p f
  | twin => exact h.raiseTwin
  | compose => exact h.compose
  | event k event =>
    exact h.similar (similar_of_blocks rfl rfl rfl rfl rfl rfl rfl (reports_raiseEvent s (mem_eventKinds event))) motion rfl
  | expire k event =>
    exact h.similar (similar_of_blocks rfl rfl rfl rfl rfl rfl rfl (reports_clearFlag s (mem_eventKinds event))) motion rfl
  | blink =>
    exact h.similar (similar_of (kinds := []) rfl rfl rfl rfl ⟨fun _ => rfl, fun _ => rfl⟩ rfl (fun _ => rfl)
      (reports_of_fcl rfl)) motion rfl
  | stopTimer | channel | key | depart | queued =>
    exact h.similar (similar_of_blocks (kinds := []) rfl rfl rfl rfl rfl rfl rfl (reports_of_fcl rfl)) motion rfl
  | touch p f state =>
    have same : Like s (s.onPort p f) := like_of (kinds := []) rfl rfl rfl (fun _ => rfl) (reports_of_fcl rfl)
    refine h.similar { same with zones := fun _ => rfl, granted := fun _ => rfl, line := onPort_lineFit state } motion rfl
  | offer f =>
    have q := onQueue_offerFrame s f
    exact h.similar (similar_of_blocks q.mvu q.cfg (by rw [q.suc]) q.ptu q.fpr q.ports q.demands q.reports) motion q.cfg
  | ageDrive =>
    have q := onQueue_ageDrive s
    exact h.similar (similar_of_blocks q.mvu q.cfg (by rw [q.suc]) q.ptu q.fpr q.ports q.demands q.reports) motion q.cfg
  | takeOffers =>
    exact h.similar (similar_of (kinds := []) rfl rfl rfl rfl (sameInputs_of_fpr rfl) rfl (granted_takeOffers s)
      (reports_of_fcl rfl)) motion rfl
  | settle src =>
    exact h.similar (similar_of (kinds := []) rfl rfl rfl rfl (sameInputs_of_fpr rfl) rfl (granted_settle s src _ _)
      (reports_of_fcl rfl)) motion rfl
  | island =>
    exact h.similar (similar_of (by simp) (by simp) (by simp) (peersOccupied_of_ptu (by simp)) (sameInputs_of_fpr (by simp))
      (by simp) (granted_enterIsland s .timer) (reports_enterIsland s .timer)) motion (by simp)
  | age n status => exact h.similar (similar_age s n status) motion (by simp)
  | file src i a => exact h.fileAnnounce i a
  | forget i =>
    obtain ⟨sound, granted, line, bound⟩ := h.filePeer i none
    exact sound.reexamine granted line bound
  | level c level =>
    exact h.similar (similar_of (kinds := []) (by simp) (by simp) (by simp) (peersOccupied_of_ptu (by simp))
      (sameInputs_of_fpr (by simp)) (by simp) (fun m => granted_of_demand (applyLevel_demandOf_mover s c level m))
      (reports_of_fcl (by simp))) motion (by simp)
  | beat c =>
    exact h.similar (similar_of_blocks (kinds := []) (by simp) (by simp) (by simp) (by simp) (by simp) (by simp) (by simp)
      (reports_of_fcl (by simp))) motion (by simp)
  | convert cs raw => exact h.convert cs raw
  | drive src m mot => exact h.acts (acts_deliverDrive s src m mot)
  | reexamine => exact h.acts (acts_reexamine s)
  | hold m => exact h.acts (acts_holdExpired s m)
  | idle m code r here moves => exact h.acts (.of (.idle m code r here moves))
  | fault m reason r here moves own => exact h.acts (.of (.fault m reason r here moves own))
  | dwell m r here stopping => exact h.acts (acts_dwellOver here stopping)
  | unguard m => exact h.acts (.of (Act.note_plain m _ fun _ => ⟨rfl, rfl, rfl, rfl⟩))
  | occupancy pin active sampling fn =>
    have like : Like s (s.deliverPin pin active) := by
      refine like_of (kinds := []) rfl rfl rfl (fun m => input_deliverPin_other fun e => ?_) (reports_of_fcl rfl)
      cases fn.symm.trans (moverCfg_powerFault h.bound e)
    exact Sound.reexamine (like.sound (h.sound.motion.deliverPin pin active) h.sound) h.clear.granted h.clear.line h.bound
  | lockOpen pin active sampling fn =>
    exact (beside active (by rw [fn]; nofun) (by rw [fn]; nofun)).acts (acts_inputNow (acts_lockOpened pin) active _)
  | lockClosed pin active sampling fn =>
    exact (beside active (by rw [fn]; nofun) (by rw [fn]; nofun)).acts (acts_inputNow (acts_lockShut pin) active _)
  | endSwitch pin active sampling fn =>
    refine (beside active ?_ ?_).acts (acts_inputNow (acts_endSwitch pin) active _) <;>
      obtain fn | fn := fn <;> rw [fn] <;> nofun
  | gypsy pin active sampling fn =>
    exact (beside active (by rw [fn]; nofun) (by rw [fn]; nofun)).acts (acts_inputNow (acts_gypsy pin) active _)
  | powerFault pin active sampling fn => exact h.powerFault active fn
  | home pin active sampling fn => exact (beside active (by rw [fn]; nofun) (by rw [fn]; nofun)).homeNow pin active
  | standby pin sampling fn =>
    have delivered := beside true (by rw [fn]; nofun) (by rw [fn]; nofun)
    exact iteInduction (fun _ => delivered.beginStandDown) fun _ => delivered
  | resume pin sampling fn =>
    have delivered := beside false (by rw [fn]; nofun) (by rw [fn]; nofun)
    exact delivered.similar (similar_of_blocks (kinds := []) rfl rfl rfl rfl rfl rfl rfl (reports_of_fcl rfl)) motion rfl
  | holdKey k active => exact h.similar (similar_hold h.bound k active) motion (anchored_move (.holdKey k active ‹_›)).cfg

/-! ### The millisecond -/

/-- Sampling delivers no OCCUPANCY and no POWER_FAULT of itself: their changes are commands (R134). -/
theorem samplePin_delivered (s : State) (p q : PinId)
    (fn : (s.cfg.pins[q]).fn = .occupancy ∨ (s.cfg.pins[q]).fn = .powerFault) :
    ((s.samplePin p).fpr.pins[q]).delivered = (s.fpr.pins[q]).delivered := by
  have record : (s.samplePin p).fpr.pins[q] =
      if q = p then
        if pinDelivers s.cfg.pins[p] s.now s.fpr.pins[p] &&
            (changeCommands s p (pinActive s.cfg.pins[p] s.fpr.pins[p])).isEmpty then
          { s.fpr.pins[p] with delivered := pinActive s.cfg.pins[p] s.fpr.pins[p], candidate := none }
        else { s.fpr.pins[p] with candidate := nextCandidate s.cfg.pins[p] s.now s.fpr.pins[p] }
      else s.fpr.pins[q] := modifyAt_get s.fpr.pins p q _
  rw [record]
  split
  · subst q
    have some (active : Bool) : (changeCommands s p active).isEmpty = false := by
      unfold changeCommands
      obtain fn | fn := fn <;> rw [fn] <;> rfl
    rw [some, Bool.and_false, if_neg Bool.false_ne_true]
  · rfl

theorem samplePins_delivered (l : List PinId) (s : State) (q : PinId)
    (fn : (s.cfg.pins[q]).fn = .occupancy ∨ (s.cfg.pins[q]).fn = .powerFault) :
    ((l.foldl State.samplePin s).fpr.pins[q]).delivered = (s.fpr.pins[q]).delivered := by
  induction l generalizing s with
  | nil => rfl
  | cons p l ih => exact (ih (s.samplePin p) fn).trans (samplePin_delivered s p q fn)

theorem similar_passTime (bound : BindingsOk s.cfg) : Similar s s.passTime := by
  have inputs (q : PinId) (fn : (s.cfg.pins[q]).fn = .occupancy ∨ (s.cfg.pins[q]).fn = .powerFault) :
      (s.passTime.fpr.pins[q]).delivered = (s.fpr.pins[q]).delivered :=
    samplePins_delivered _ { s with now := s.now + 1 } q fn
  rw [passTime_eq]
  refine similar_of (kinds := []) rfl rfl rfl rfl ⟨fun z => ?_, fun m => ?_⟩ rfl (fun _ => rfl) (reports_of_fcl rfl)
  · cases pin : s.cfg.occupancy[z] with
    | none => rfl
    | some q => exact inputs q (.inl (bound.occupancy z q pin))
  · cases pin : (s.moverCfg m).powerFault with
    | none => rfl
    | some q => exact inputs q (.inr (moverCfg_powerFault bound pin))

/-! ### The tick -/

theorem similar_sampleSupply (bound : BindingsOk s.cfg) (supply : Bool) : Similar s (s.sampleSupply supply) := by
  have profiled (u : State) (same : Similar s u) (b : Bool) : Similar s { u with sbu := { u.sbu with profile := b } } :=
    same.trans (similar_of_blocks (kinds := []) rfl rfl rfl rfl rfl rfl rfl (reports_of_fcl rfl))
  have refl : Similar s s := similar_of_blocks (kinds := []) rfl rfl rfl rfl rfl rfl rfl (reports_of_fcl rfl)
  unfold State.sampleSupply
  split
  · next p pin =>
    refine profiled _ ?_ supply
    have fn := bound.supply p pin
    unfold State.settleSupply
    split
    · exact refl
    · exact similar_deliverPin bound supply (by rw [fn]; nofun) (by rw [fn]; nofun)
  · exact profiled s refl false

/-- A tick stops the movers whose entries lose their grant (R29, R100, R102). -/
theorem Safe.ownTick (h : Safe s) (supply : Bool) : Safe (s.ownTick supply) := by
  have blocks : Safe (s.tickBlocks supply) := by
    refine iteInduction (fun _ => ?_) fun _ => h
    have sampled : Safe (s.sampleSupply supply) :=
      h.similar (similar_sampleSupply h.bound supply) (h.sound.motion.keep (sampleSupply_keepsMotion s supply))
        (sampleSupply_leaves s supply).cfg
    generalize s.sampleSupply supply = u at sampled
    have motion : MotionOk u.budgetTick.tickChannels := sampled.sound.motion.keep (by simp [KeepsMotion])
    have reports : Reports [.supplyShort] u u.budgetTick.tickChannels :=
      (Reports.after (reports_reportCond u _ (List.mem_singleton_self _)) rfl).after (State.tickChannels_fcl _)
    have same : Like u u.budgetTick.tickChannels :=
      like_of (by simp) (by simp) (by simp) (fun _ => input_of_fpr (by simp) _) reports
    have cfg : u.budgetTick.tickChannels.cfg = u.cfg := by simp
    have zones (m : MoverId) : u.budgetTick.tickChannels.zoneOccupied m = u.zoneOccupied m :=
      zoneOccupied_congr cfg (by simp) (by simp) (by simp)
    have line : u.budgetTick.tickChannels.lineFit = u.lineFit := lineFit_of_ports cfg (by simp)
    generalize u.budgetTick.tickChannels = v at motion same cfg zones line
    have acts := Acts.foldl acts_tickMover allMovers v
    refine ⟨(same.sound motion sampled.sound).acts acts, ⟨fun m => ?_, fun m => ?_, fun m => ?_⟩, ?_⟩
    · exact Meets.acts need_zones acts fun moving => (zones m).trans (sampled.clear.zones m (same.moving moving))
    · exact meets_both need_granted (ok := fun _ => True) acts_tickMover (fun _ _ _ => trivial)
        (fun u y _ => tickMover_granted u y) trivial m
    · exact Meets.acts need_lineFit acts fun moving => line.trans (sampled.clear.line m (same.moving moving))
    · rw [(acts_aside acts).cfg, cfg]
      exact sampled.bound
  have counted : Safe (s.tickBlocks supply).advanceTick.countTick :=
    blocks.similar (t := (s.tickBlocks supply).advanceTick.countTick)
      (similar_of_blocks (kinds := []) rfl rfl rfl rfl rfl rfl rfl ⟨fun _ _ => rfl, fun _ e => e⟩)
      (blocks.sound.motion.keep ⟨rfl, rfl, rfl, rfl, rfl⟩) rfl
  exact counted.compose

/-! ### The start-up -/

theorem still_of_none (none : ∀ m, s.mover m = none) : Still s := by
  rintro m ⟨p, found, -⟩
  rw [phaseOf, none m] at found
  cases found

theorem reasonHolds_of_none (none : ∀ m, s.mover m = none) (reason : FaultReason) :
    State.reasonHolds s reason = false := by
  simp [State.reasonHolds, State.anyPowerFault, State.anyFaulted, none]

/-- Before QUIET, with no record in force (R116). -/
theorem safe_of_none (none : ∀ m, t.mover m = none) (motion : MotionOk t) (pump : t.active .pumpFault = false)
    (bound : BindingsOk t.cfg) : Safe t := by
  refine (still_of_none none).safe motion (fun k kind => ?_) bound
  cases kind
  rw [reasonHolds_of_none none]
  exact pump

theorem Safe.pumpOff (h : Safe s) (none : ∀ m, s.mover m = none) : s.active .pumpFault = false := by
  rw [pumpActive_iff h.sound.pump, reasonHolds_of_none none]

theorem bindings_unconfigured : BindingsOk {} := by
  refine ⟨fun z p h => ?_, nofun, nofun, fun k p h => ?_, fun m c p h => ?_⟩
  · simp at h
  · simp at h
  · simp at h

/-- A record comes into force at rest (R88, R117). -/
theorem still_fitMover (h : Still s) (x : MoverId) : Still (fitMover s x) := by
  unfold fitMover
  split
  · exact h
  · next c here =>
    have placed : Still { s with mvu := { s.mvu with movers := s.mvu.movers.set x (some (s.newMover x c)) } } := by
      intro m moving
      have record : State.mover { s with mvu := { s.mvu with movers := s.mvu.movers.set x (some (s.newMover x c)) } } m =
          if m = x then some (s.newMover x c) else s.mover m := set_get s.mvu.movers x m _
      obtain ⟨p, found, motion⟩ := moving
      rw [phaseOf, record] at found
      split at found
      · cases found
        have rest : (s.newMover x c).phase.inMotion = false := by
          unfold State.newMover
          dsimp only
          split <;> rfl
        rw [rest] at motion
        cases motion
      · exact h m ⟨p, found, motion⟩
    dsimp only
    split
    · exact fun m moving => placed m (moving.of_phase ((similar_atHome _ x).phases m))
    · exact placed

theorem still_fitAll (none : ∀ m, s.mover m = none) : Still s.fitAll := by
  have channel (t : State) (c : ChannelId) : (fitChannel t c).mvu = t.mvu := by
    unfold fitChannel
    split <;> rfl
  have mvu : (allChannels.foldl fitChannel (allSenses.foldl (takeOffset s.cfg) s)).mvu = s.mvu := by
    rw [foldl_keeps State.mvu fitChannel channel, foldl_keeps State.mvu (takeOffset s.cfg) fun _ _ => rfl]
  unfold State.fitAll
  generalize allChannels.foldl fitChannel (allSenses.foldl (takeOffset s.cfg) s) = u at mvu
  have begun : Still u := fun m moving => still_of_none none m (moving.of_phase (phaseOf_of_mvu mvu m))
  exact fun m moving => still_fitMover (still_fitMover begun 0) 1 m (moving.of_phase rfl)

/-- CALIBRATE ends with every mover at rest and PUMP_FAULT as its inputs show it (R88, R117). -/
theorem Safe.calibrated (h : Safe s) (out : s.working = false) : Safe s.fitAll.reportFitted.enterQuiet := by
  have none := h.sound.motion.early out
  have steady : Steady s.fitAll.reportFitted :=
    (h.sound.motion.steady.fitAll none).keep (by simp [KeepsMotion, State.reportFitted])
  have still : Still s.fitAll.reportFitted := fun m moving =>
    still_fitAll none m (moving.of_phase (phaseOf_of_mvu (by simp [State.reportFitted]) m))
  have shown : ReasonShown .pumpFault s.fitAll.reportFitted := reasonShown_reportReason _ _
  have cfg : s.fitAll.reportFitted.cfg = s.cfg := by
    have fitted := (anchored_fitAll s).cfg
    generalize s.fitAll = u at fitted
    simpa [State.reportFitted] using fitted
  generalize s.fitAll.reportFitted = t at steady still shown cfg
  unfold State.enterQuiet
  refine Safe.ownTick ?_ _
  generalize entered : ({ t with suc := { t.suc with phase := .quiet, since := t.now, nextTick := some t.now } } : State) = q
  have quiet : MotionOk q := by
    subst entered
    exact (motionOk_iff _).2 ⟨⟨steady.each, steady.apart, steady.retained⟩, fun out => absurd out (by simp [State.working])⟩
  have keys := foldl_keepsMotion (f := heldAtStart) (fun _ _ => ⟨rfl, rfl, rfl, rfl, rfl⟩) allKeys q
  refine Still.safe (fun m moving => still m (moving.of_phase (phaseOf_of_mvu ?_ m))) (quiet.keep keys) ?_ ?_
  · rw [heldAtStart_keeps State.mvu fun _ _ => rfl]; subst entered; rfl
  · refine pumpShown_keep shown ?_ ?_ ?_ ?_
    · unfold State.active; rw [heldAtStart_keeps State.fcl fun _ _ => rfl]; subst entered; rfl
    · rw [heldAtStart_keeps State.mvu fun _ _ => rfl]; subst entered; rfl
    · rw [heldAtStart_keeps State.cfg fun _ _ => rfl]; subst entered; rfl
    · rw [heldAtStart_keeps State.fpr fun _ _ => rfl]; subst entered; rfl
  · rw [heldAtStart_keeps State.cfg fun _ _ => rfl]; subst entered; exact cfg ▸ h.bound

theorem Safe.enterListenOnly (h : Safe s) (none : ∀ m, s.mover m = none) {kind : FaultKind} (other : kind ≠ .pumpFault)
    (motion : MotionOk (s.enterListenOnly kind)) : Safe (s.enterListenOnly kind) := by
  have listens := listens_enterListenOnly s kind
  refine safe_of_none listens.movers motion ?_ (listens.cfg ▸ bindings_unconfigured)
  rw [listens.active, if_neg other.symm]
  exact h.pumpOff none

theorem acceptImage_mover (s : State) (cfg : Cfg) (levels : BitVec 32) (m : MoverId) :
    (s.acceptImage cfg levels).mover m = s.mover m := by
  unfold State.acceptImage State.mover
  rw [foldl_keeps State.mvu (firstSample cfg levels) fun _ _ => rfl]
  rfl

theorem acceptImage_cfg (s : State) (cfg : Cfg) (levels : BitVec 32) : (s.acceptImage cfg levels).cfg = cfg := by
  unfold State.acceptImage
  rw [foldl_keeps State.cfg (firstSample cfg levels) fun _ _ => rfl]
  rfl

/-- The invariant whole: the movers safe and LINE_UNFIT as line fitness is. -/
def SafeAndShown (s : State) : Prop := Safe s ∧ FitnessOk s

theorem safe_kept : Kept SafeAndShown where
  waits s rest h := by
    refine ⟨h.1.similar ?_ (motion_kept.waits s rest h.1.sound.motion) rfl, fitness_kept.waits s rest h.2⟩
    exact similar_of_blocks (kinds := []) rfl rfl rfl rfl rfl rfl rfl (reports_of_fcl rfl)
  passes s h := by
    refine ⟨h.1.similar (similar_passTime h.1.bound) (motion_kept.passes s h.1.sound.motion) ?_, fitness_kept.passes s h.2⟩
    rw [passTime_eq]
  powerOn s h := by
    refine ⟨safe_of_none (fun m => ?_) (motion_kept.powerOn s h.1.sound.motion) ?_ bindings_unconfigured,
      fitness_kept.powerOn s h.2⟩
    · exact reset_mover m
    · exact reset_inactive _
  pinReset s h := by
    refine ⟨safe_of_none (fun m => ?_) (motion_kept.pinReset s h.1.sound.motion) ?_ bindings_unconfigured,
      fitness_kept.pinReset s h.2⟩
    · exact reset_mover m
    · exact reset_inactive _
  strap s v strap h := by
    have motion := motion_kept.strap s v strap h.1.sound.motion
    refine ⟨?_, fitness_kept.strap s v strap h.2⟩
    have none := h.1.sound.motion.early (out_of_phase strap nofun nofun)
    unfold State.takeStraps at motion ⊢
    split at motion
    · next valid =>
      rw [if_pos valid]
      exact safe_of_none none motion (h.1.pumpOff none) h.1.bound
    · next invalid =>
      rw [if_neg invalid]
      exact h.1.enterListenOnly none nofun motion
  accept s image cfg levels load accepted h := by
    have motion := motion_kept.accept s image cfg levels load accepted h.1.sound.motion
    have none := h.1.sound.motion.early (out_of_phase load nofun nofun)
    refine ⟨safe_of_none (fun m => ?_) motion ?_ ?_, fitness_kept.accept s image cfg levels load accepted h.2⟩
    · rw [acceptImage_mover, none]
    · unfold State.active
      rw [acceptImage_fcl]
      exact h.1.pumpOff none
    · rw [acceptImage_cfg]
      exact judgeImage_bindings accepted
  refuse s load h := by
    have motion := motion_kept.refuse s load h.1.sound.motion
    have none := h.1.sound.motion.early (out_of_phase load nofun nofun)
    refine ⟨?_, fitness_kept.refuse s load h.2⟩
    have unread : Safe { s with suc := { s.suc with image := .invalid } } :=
      h.1.similar (similar_of_blocks (kinds := []) rfl rfl rfl rfl rfl rfl rfl (reports_of_fcl rfl))
        (h.1.sound.motion.keep ⟨rfl, rfl, rfl, rfl, rfl⟩) rfl
    exact unread.enterListenOnly none nofun motion
  calibrated s calibrate h :=
    ⟨h.1.calibrated (out_of_phase calibrate nofun nofun), fitness_kept.calibrated s calibrate h.2⟩
  tick s supply due h := ⟨h.1.ownTick supply, fitness_kept.tick s supply due h.2⟩
  trip s c due h := by
    refine ⟨h.1.similar ?_ (motion_kept.trip s c due h.1.sound.motion) (by simp), fitness_kept.trip s c due h.2⟩
    refine similar_of (by simp) (by simp) (by simp) (peersOccupied_of_ptu (by simp)) (sameInputs_of_fpr (by simp)) (by simp)
      (fun m => granted_of_demand ?_) (reports_trip s c)
    rw [State.demandOf_congr (trip_sbu s c), State.removeEntry_demandOf, if_neg nofun]
  move s t a h := ⟨h.1.move a h.2, fitness_kept.move s t a h.2⟩

theorem haltActive_halted (h : Free s) (halt : s.haltActive = true) {r : Mover} (here : s.mover m = some r) :
    r.phase.inMotion = false := by
  refine Bool.eq_false_iff.2 fun motion => ?_
  obtain ⟨off, -⟩ := h m ⟨r.phase, by rw [phaseOf, here]; rfl, motion⟩
  rw [off] at halt
  cases halt

theorem moversSafe_iff (s : State) : MoversSafe s ∧ MotionOk s ↔ SafeAndShown s := by
  constructor
  · rintro ⟨safe, motion⟩
    have moving {m : MoverId} (h : Moving s m) : ZonesFree s m ∧ Granted s m ∧ LineFit s m := by
      obtain ⟨r, here, phase⟩ := moving_iff.1 h
      obtain ⟨-, zones, granted, line, -⟩ := safe.moving m r here phase
      exact ⟨zones, granted, line⟩
    refine ⟨⟨⟨motion, fun m ⟨p, found, inMotion⟩ => ?_, fun k kind => ?_⟩,
      ⟨fun m h => (moving h).1, fun m h => (moving h).2.1, fun m h => (moving h).2.2⟩, safe.bound⟩, safe.fitness⟩
    · obtain ⟨r, here, rfl⟩ := Option.map_eq_some_iff.1 found
      refine ⟨Bool.eq_false_iff.2 fun halt => ?_, safe.inRun m r here inMotion⟩
      rw [safe.halted halt m r here] at inMotion
      cases inMotion
    · cases kind
      exact safe.pump
  · rintro ⟨⟨⟨motion, free, pump⟩, clear, bound⟩, fitness⟩
    refine ⟨⟨fun m r here phase => ?_, fun halt m r here => haltActive_halted free halt here, fun m r here inMotion => ?_,
      motion.early, fitness, pump _ rfl, bound⟩, motion⟩
    · have moving : Moving s m := moving_iff.2 ⟨r, here, phase⟩
      have held : s.claim m = .held := by
        refine motion.held m r here ?_
        obtain phase | phase := phase <;> rw [phase] <;> rfl
      have granted : s.granted m = true := clear.granted m moving
      refine ⟨held, clear.zones m moving, granted, clear.line m moving, ?_⟩
      unfold State.granted at granted
      split at granted
      · next d found => exact ⟨d, found, (of_decide_eq_true granted).trans (motion.want m d found).1⟩
      · cases granted
    · exact (free m ⟨r.phase, by rw [phaseOf, here]; rfl, inMotion⟩).2

/-- Settles O37: acts clear a mover to move, and each move that takes something from it stops it. -/
theorem stepKeepsMoversSafe : Obligations.StepKeepsMoversSafe := by
  intro s t safe motion stepped
  exact ((moversSafe_iff t).2 (safe_kept.step ((moversSafe_iff s).1 ⟨safe, motion⟩) stepped)).1

end Sys2Proof.Safety
end

section
/-! PROOFS. The reset state meets every invariant (O39): the base case of the step lemmas. -/

namespace Sys2Proof.Safety

open Sys2Proof Sys2Proof.Machine

theorem reset_motion : MotionOk State.reset :=
  (atRest_of_reset rfl rfl rfl fun m x e => by simp [State.reset] at e).motionOk

theorem reset_fitness : FitnessOk State.reset := fitnessOk_of_phase (phase := .strap) rfl nofun

theorem reset_safe : MoversSafe State.reset :=
  ((moversSafe_iff _).2 ⟨safe_of_none reset_mover reset_motion (reset_inactive _) bindings_unconfigured, reset_fitness⟩).1

theorem reset_conditions : ConditionsOk State.reset where
  dark p := reset_inactive _
  unfit p := reset_inactive _
  island := reset_inactive _
  lockJam := rfl
  travel := rfl
  overload := rfl
  stall := rfl
  clash := rfl
  count := rfl
  lockout := by rw [reset_inactive]; simp [State.reset]
  sense := by rw [reset_inactive]; simp [State.reset, State.senseFaulty]
  config := by rw [reset_inactive]; simp [State.reset]
  number := by rw [reset_inactive]; simp [State.reset]
  supply _ := reset_inactive _
  strap _ := ⟨rfl, rfl⟩
  load := nofun
  early _ := ⟨reset_mover, fun c => by simp [State.reset]⟩

/-- Settles O39: each invariant of the reset state. -/
theorem resetMeetsEveryInvariant : Obligations.ResetMeetsEveryInvariant :=
  ⟨budgetOk_of_empty rfl, reset_motion, queueOk_of_empty rfl rfl, tableOk_of_empty rfl rfl, reset_fitness,
    levelsOk_of_reset rfl rfl rfl, reset_safe, orphansShown_of_reset rfl rfl, reset_conditions⟩

end Sys2Proof.Safety
end

section
/-! PROOFS. The commands that move one port alone (O15) or clear one field at its instant (O56). -/

namespace Sys2Proof.Safety

open Sys2Proof Sys2Proof.Machine

variable {s t : State}

theorem hears_of {p : PortId} (operate : s.portsOperate = true) (awake : (s.liu.ports[p]).state ≠ .dark)
    (listens : (s.liu.ports[p]).attempt = none) : s.hears p = true := by
  rw [State.hears, operate, listens, decide_eq_true awake]
  rfl

theorem pulseDue_of {p : PortId} (permitted : s.mayTransmit = true) (idle : (s.liu.ports[p]).attempt = none)
    (gap : (s.liu.ports[p]).lastTransition + 1 ≤ s.now) : s.pulseDue p = true := by
  rw [State.pulseDue, permitted, idle]
  exact decide_eq_true gap

theorem windowDue_of {p : PortId} {w : Nat} (operate : s.portsOperate = true) (fit : (s.liu.ports[p]).state = .fit)
    (window : (s.liu.ports[p]).windowEnd = some w) (past : w ≤ s.now) : s.windowDue p = true := by
  rw [State.windowDue, State.portFit, operate, fit, window]
  exact decide_eq_true past

/-- Settles O15: each row's own test holds, and its update of the port is the one stated. -/
theorem portEventsMoveOnlyTheirPort : Obligations.PortEventsMoveOnlyTheirPort := by
  intro p s
  refine ⟨fun permitted idle gap => ?_, fun w operate fit window past => ?_, fun a sending => ?_,
    fun operate awake listens => ?_⟩
  · exact congrArg Host.Outcome.next (if_pos (pulseDue_of permitted idle gap))
  · refine congrArg Host.Outcome.next ((if_pos (windowDue_of operate fit window past)).trans (State.onPort_congr ?_))
    rw [nextWindow, window]
    rfl
  · exact congrArg Host.Outcome.next (if_pos (by rw [sending]; rfl))
  · have hears := hears_of operate awake listens
    exact ⟨congrArg Host.Outcome.next (if_pos hears), congrArg Host.Outcome.next (if_pos hears),
      congrArg Host.Outcome.next (if_pos hears)⟩

theorem due_some (n now : Nat) : due (some n) now = decide (n ≤ now) := rfl

/-- A command that acts at the instant its timer gives, and else changes nothing. -/
theorem next_of_due {b : Bool} {n now : Nat} {s t u : State} (due : b = decide (n ≤ now)) (same : t = u) :
    (Host.Outcome.next (if b = true then t else s) : Result) = .next (if n ≤ now then u else s) := by
  subst same
  rw [due]
  simp only [decide_eq_true_eq]

/-- At a half second BEACON_BLINK lights the beacon for the first half of each second. -/
theorem beacon_blinks {lit : Bool} (half : s.now % 500 = 0) (phase : decide (s.now % 1000 < 500) = lit) :
    exec .beaconBlink s = .next { s with fpr := { s.fpr with blinkLit := lit } } := by
  subst phase
  exact congrArg Host.Outcome.next (if_pos half)

/-- Settles O56: each command tests its own timer and clears its own field. -/
theorem expiriesClearTheirOwnField : Obligations.ExpiriesClearTheirOwnField := by
  intro s n
  refine ⟨fun c memory => ?_, fun m r src here guard => ?_, fun k ack => ?_, fun kind event hold => ?_, fun full => ?_,
    fun half => ?_, fun off => ?_⟩
  · exact next_of_due (by rw [memory, due_some]) rfl
  · exact next_of_due (by rw [State.guardDue, here]; dsimp only; rw [guard]; rfl) rfl
  · exact next_of_due (by rw [ack, due_some]) rfl
  · exact next_of_due (by rw [State.flagDue, event, hold]; rfl) rfl
  · exact beacon_blinks (by omega) (decide_eq_true (by omega))
  · exact beacon_blinks (by omega) (decide_eq_false (by omega))
  · exact congrArg Host.Outcome.next (if_neg off)

end Sys2Proof.Safety
end

section
/-! PROOFS. A port that changes state: what its conditions and line fitness then are. The statements about carrier, search
and loss of fitness (O16, O17, O18). -/

namespace Sys2Proof.Safety

open Sys2Proof Sys2Proof.Machine

variable {s t u : State}

/-! ### One port -/

theorem onPort_same (s : State) (p : PortId) (f : Port → Port) : (s.onPort p f).liu.ports[p] = f s.liu.ports[p] :=
  (onPort_record s p p f).trans (if_pos rfl)

theorem onPort_other (s : State) {p q : PortId} (other : q ≠ p) (f : Port → Port) :
    (s.onPort p f).liu.ports[q] = s.liu.ports[q] := (onPort_record s p q f).trans (if_neg other)

theorem movePort_liu (s : State) (p : PortId) (f : Port → Port) :
    (s.movePort p f).liu = { s.liu with ports := (s.onPort p f).liu.ports } := by
  unfold State.movePort
  rw [State.judgeFitness_liu, State.reportPort_liu]
  rfl

theorem movePort_port (s : State) (p : PortId) (f : Port → Port) :
    (s.movePort p f).liu.ports[p] = f s.liu.ports[p] := by
  rw [movePort_liu]
  exact onPort_same s p f

theorem movePort_other (s : State) {p q : PortId} (other : q ≠ p) (f : Port → Port) :
    (s.movePort p f).liu.ports[q] = s.liu.ports[q] := by
  rw [movePort_liu]
  exact onPort_other s other f

theorem unfitKind_not_fitness (p : PortId) : unfitKind p ∉ fitnessKinds := by
  revert p
  decide

theorem darkKind_not_fitness (p : PortId) : darkKind p ∉ fitnessKinds := by
  revert p
  decide

/-- A port that has changed state stands as reported (R150, R153). -/
theorem movePort_darkKind (s : State) (p : PortId) (f : Port → Port) :
    (s.movePort p f).active (darkKind p) = portDarkHolds (f s.liu.ports[p]) := by
  unfold State.movePort
  rw [(reports_judgeFitness _).active (darkKind_not_fitness p)]
  unfold State.reportPort
  rw [State.reportCond_active, if_neg (darkKind_ne_unfitKind p p), State.reportCond_active_same, onPort_same]

theorem movePort_unfitKind (s : State) (p : PortId) (f : Port → Port) :
    (s.movePort p f).active (unfitKind p) = portUnfitHolds (f s.liu.ports[p]) := by
  unfold State.movePort
  rw [(reports_judgeFitness _).active (unfitKind_not_fitness p)]
  unfold State.reportPort
  rw [State.reportCond_active_same, onPort_same]

theorem reportPort_active_other (s : State) {p : PortId} {k : FaultKind} (dark : k ≠ darkKind p) (unfit : k ≠ unfitKind p) :
    (s.reportPort p).active k = s.active k := by
  unfold State.reportPort
  rw [State.reportCond_active, if_neg unfit, State.reportCond_active, if_neg dark]

theorem lineUnfit_ne_darkKind (p : PortId) : FaultKind.lineUnfit ≠ darkKind p := by
  revert p
  decide

theorem reportPort_lineUnfit (s : State) (p : PortId) : (s.reportPort p).active .lineUnfit = s.active .lineUnfit :=
  reportPort_active_other s (lineUnfit_ne_darkKind p) (lineUnfit_ne_unfitKind p)

theorem reportPort_lineFit (s : State) (p : PortId) : (s.reportPort p).lineFit = s.lineFit :=
  lineFit_of_ports (by simp) (by simp)

/-- A report moves the Fault Collector alone. -/
theorem reportCond_eq (s : State) (k : FaultKind) (holds : Bool) :
    s.reportCond k holds = { s with fcl := (s.reportCond k holds).fcl } := by
  unfold State.reportCond State.raiseCond
  split
  · split <;> rfl
  · split <;> rfl

theorem reportPort_eq (s : State) (p : PortId) : s.reportPort p = { s with fcl := (s.reportPort p).fcl } := by
  unfold State.reportPort
  rw [reportCond_eq (s.reportCond _ _), reportCond_eq s]

/-- A port that moves no line fitness moves nothing but its own conditions (R154). -/
theorem movePort_of_stands (fit : FitnessOk s) {p : PortId} {f : Port → Port}
    (same : (s.onPort p f).lineFit = s.lineFit) : s.movePort p f = (s.onPort p f).reportPort p := by
  refine State.judgeFitness_of_stands fun running => ?_
  rw [reportPort_lineUnfit, reportPort_lineFit, same]
  exact fit (by simpa [State.running] using running)

theorem movePort_eq (fit : FitnessOk s) {p : PortId} {f : Port → Port} (same : (s.onPort p f).lineFit = s.lineFit) :
    s.movePort p f = { s with liu := (s.movePort p f).liu, fcl := (s.movePort p f).fcl } := by
  rw [movePort_of_stands fit same, reportPort_eq]
  rfl

/-- A port out of FIT before and after moves no line fitness. -/
theorem onPort_lineFit_away {p : PortId} {f : Port → Port} (before : (s.liu.ports[p]).state ≠ .fit)
    (after : (f s.liu.ports[p]).state ≠ .fit) : (s.onPort p f).lineFit = s.lineFit := by
  have same (q : PortId) : (s.onPort p f).portFit q = s.portFit q := by
    unfold State.portFit
    rw [onPort_record]
    split
    · subst q
      rw [decide_eq_false before, decide_eq_false after]
    · rfl
  unfold State.lineFit
  rw [same, same]
  rfl

/-- Where the announced claims stand, no extra ANNOUNCE follows (R82). -/
theorem announceChange_movePort (fit : FitnessOk s) {p : PortId} {f : Port → Port}
    (same : (s.onPort p f).lineFit = s.lineFit) : announceChange s (s.movePort p f) = s.movePort p f := by
  refine announceChange_of_same (announcedClaims_congr ?_ (by simp) (by simp))
  rw [movePort_eq fit same]

/-! ### The extra ANNOUNCE -/

theorem compose_ports (s : State) : s.compose.liu.ports = s.liu.ports := (onQueue_compose s).ports

theorem compose_fifo (s : State) : s.compose.liu.fifo = s.liu.fifo := by
  unfold State.compose
  split <;> rfl

theorem announceChange_ports (s t : State) : (announceChange s t).liu.ports = t.liu.ports :=
  iteInduction (motive := fun u : State => u.liu.ports = t.liu.ports) (fun _ => rfl) fun _ => compose_ports t

theorem announceChange_fifo (s t : State) : (announceChange s t).liu.fifo = t.liu.fifo :=
  iteInduction (motive := fun u : State => u.liu.fifo = t.liu.fifo) (fun _ => rfl) fun _ => compose_fifo t

theorem announceChange_active (s t : State) (k : FaultKind) : (announceChange s t).active k = t.active k := by
  unfold State.active
  rw [announceChange_fcl]

theorem announceChange_fitnessOk (s : State) (h : FitnessOk t) : FitnessOk (announceChange s t) :=
  iteInduction (motive := FitnessOk) (fun _ => h) fun _ => h.compose

/-- What is composed now carries the station's state as it stands (R157). -/
theorem announcesNow_compose (permitted : s.mayTransmit = true) : AnnouncesNow s.compose := by
  unfold State.compose
  rw [if_pos permitted]
  exact ⟨_, rfl, rfl, rfl, rfl, rfl, rfl⟩

theorem announceChange_announces (permitted : t.mayTransmit = true)
    (changed : (announceChange s t).announcedClaims ≠ s.announcedClaims) : AnnouncesNow (announceChange s t) := by
  have moved : t.announcedClaims ≠ s.announcedClaims := fun same =>
    changed (by rw [announceChange_of_same same]; exact same)
  unfold announceChange
  rw [if_neg moved]
  exact announcesNow_compose permitted

theorem announceChange_claims (s t : State) : (announceChange s t).announcedClaims = t.announcedClaims :=
  announcedClaims_congr (by simp) (by simp) (by simp)

/-! ### Carrier -/

theorem carrierDue_of {p : PortId} {k : Nat} (operate : s.portsOperate = true)
    (carrier : (s.liu.ports[p]).carrier = some k) (past : k + 20 ≤ s.now) : s.carrierDue p = true := by
  rw [State.carrierDue, operate, carrier]
  exact decide_eq_true past

theorem portDark_of {p : PortId} (operate : s.portsOperate = true) (dark : (s.liu.ports[p]).state = .dark) :
    s.portDark p = true := by
  rw [State.portDark, operate, dark]
  rfl

theorem goDark_lastTransition (now : Nat) (x : Port) :
    (goDark now x).lastTransition = if x.attempt = none then x.lastTransition else now := by
  cases attempt : x.attempt <;> simp [goDark, attempt]

theorem goDark_eq (now : Nat) (x : Port) :
    goDark now x = { x with
      state := .dark, restartDone := false, wasFit := false, dwell := none, good := 0, errors := 0, windowEnd := none,
      carrier := none, attempt := none,
      lastTransition := if x.attempt = none then x.lastTransition else now } := by
  rw [← goDark_lastTransition]
  rfl

theorem judgeDepartures_fitnessOk (h : FitnessOk s) : FitnessOk s.judgeDepartures := h.keep rfl rfl rfl rfl

theorem movePort_mayTransmit (s : State) (p : PortId) (f : Port → Port) : (s.movePort p f).mayTransmit = s.mayTransmit := by
  unfold State.mayTransmit
  rw [(reports_movePort s p f).active (by decide)]
  simp [State.running]

/-- CARRIER_LOSS on a port whose carrier span has run out: DARK, its departures judged, its claims announced. -/
theorem exec_carrierLoss {p : PortId} (due : s.carrierDue p = true) :
    exec (.carrierLoss p) s = .next (announceChange s (s.movePort p (goDark s.now)).judgeDepartures) :=
  congrArg Host.Outcome.next (if_pos due)

theorem exec_darkPortTransition {p : PortId} (dark : s.portDark p = true) :
    exec (.darkPortTransition p) s = .next (announceChange s (s.movePort p (wakePort s.cfg s.now))) :=
  congrArg Host.Outcome.next (if_pos dark)

/-- Settles O16: the port's fields are those of goDark or wakePort, its kinds are as reported after the change, and line
fitness is as judged; the queue is what departures leave, and the extra ANNOUNCE follows the claims. -/
theorem carrierIsLostAndReturns : Obligations.CarrierIsLostAndReturns := by
  refine ⟨fun p s k operate carrier past fitness => ?_, fun p s operate dark fitness => ?_⟩
  · have port : (announceChange s (s.movePort p (goDark s.now)).judgeDepartures).liu.ports[p] = goDark s.now s.liu.ports[p] := by
      rw [announceChange_ports]
      exact movePort_port s p _
    have fit := judgeDepartures_fitnessOk (fitnessOk_judgeFitness ((s.onPort p (goDark s.now)).reportPort p))
    refine ⟨_, exec_carrierLoss (carrierDue_of operate carrier past), ?_, ?_, ?_, ?_, ?_,
      announceChange_fitnessOk s fit, ?_, ?_, ?_, ?_⟩
    · rw [port, goDark_eq]
    · intro sending
      refine State.no_pulse_within_1_ms ?_
      rw [port, goDark_lastTransition, if_neg sending]
      simp
    · intro q off
      rw [announceChange_ports]
      exact movePort_other s off _
    · rw [announceChange_active]
      exact movePort_darkKind s p _
    · rw [announceChange_active]
      exact movePort_unfitKind s p _
    · rw [announceChange_fifo, announceChange_ports]
      exact congrArg (List.filter _) (by rw [movePort_liu])
    · intro same
      rw [announceChange_claims] at same
      rw [announceChange_of_same same]
      exact congrArg (Option.filter _) (by rw [movePort_liu])
    · exact fun changed permitted => announceChange_announces ((movePort_mayTransmit s p _).trans permitted) changed
    · simp
  · have same : (s.onPort p (wakePort s.cfg s.now)).lineFit = s.lineFit :=
      onPort_lineFit_away (by rw [dark]; decide) (show PortState.seeking ≠ .fit by decide)
    refine ⟨_, exec_darkPortTransition (portDark_of operate dark), ?_⟩
    rw [announceChange_movePort fitness same]
    exact ⟨movePort_eq fitness same, by rw [movePort_liu], movePort_port s p _, fun q off => movePort_other s off _,
      movePort_darkKind s p _, (movePort_unfitKind s p _).trans (Bool.true_and _)⟩

/-! ### The search -/

theorem dwellDue_of {p : PortId} {d : Dwell} (operate : s.portsOperate = true)
    (seeking : (s.liu.ports[p]).state = .seeking) (dwell : (s.liu.ports[p]).dwell = some d)
    (past : d.start + s.cfg.ports.dwell ≤ s.now) : s.dwellDue p = some d := by
  rw [State.dwellDue, operate, seeking, dwell]
  exact if_pos past

theorem exec_dwellEnd {p : PortId} {d : Dwell} (due : s.dwellDue p = some d) :
    exec (.dwellEnd p) s = .next (announceChange s (s.movePort p (endDwell s.cfg s.now d))) := by
  show execDwellEnd p s = _
  rw [execDwellEnd, due]

theorem exec_lossOfLock {p : PortId} (operate : s.portsOperate = true) (awake : (s.liu.ports[p]).state ≠ .dark) :
    exec (.lossOfLock p) s = .next (announceChange s (s.movePort p (loseLock s.cfg s.now))) :=
  congrArg Host.Outcome.next (if_pos ⟨operate, awake⟩)

/-- A SEEKING port that goes on to the next setting stays SEEKING (R152). -/
theorem seekOn_seeking {x : Port} (seeking : x.state = .seeking) (cfg : Cfg) (now : Nat) :
    seekOn cfg now x = { x with
      eq := stepSetting cfg.ports x.eq, dwell := some { start := now }, good := 0, errors := 0, windowEnd := none } := by
  unfold seekOn
  rw [← seeking]

theorem endDwell_of_seeking {x : Port} (seeking : x.state = .seeking) (cfg : Cfg) (now : Nat) (d : Dwell) :
    endDwell cfg now d x =
      if d.decoded = true ∧ d.lateErrors ≤ cfg.ports.errorThreshold then
        if x.restartDone = true then { x with state := .locked, dwell := none, good := 0 }
        else { x with restartDone := true, eq := cfg.ports.eqFloor, dwell := some { start := now } }
      else { x with
        eq := stepSetting cfg.ports x.eq, dwell := some { start := now }, good := 0, errors := 0, windowEnd := none } := by
  simp only [endDwell, Bool.and_eq_true, decide_eq_true_eq, seekOn_seeking seeking]

/-- A dwell's end takes a SEEKING port nowhere near FIT (R152). -/
theorem endDwell_not_fit {x : Port} (seeking : x.state = .seeking) (cfg : Cfg) (now : Nat) (d : Dwell) :
    (endDwell cfg now d x).state ≠ .fit := by
  rw [endDwell_of_seeking seeking]
  split
  · split
    · exact nofun
    · exact seeking ▸ nofun
  · exact seeking ▸ nofun

theorem loseLock_of_listening {x : Port} (listens : x.attempt = none) (cfg : Cfg) (now : Nat) :
    loseLock cfg now x = { x with
      state := .seeking, eq := stepSetting cfg.ports x.eq, dwell := some { start := now }, good := 0, errors := 0,
      windowEnd := none, carrier := some now, lastTransition := now } := by
  unfold loseLock
  rw [if_pos (by rw [listens]; rfl)]
  rfl

theorem loseLock_state (cfg : Cfg) (now : Nat) (x : Port) : (loseLock cfg now x).state = .seeking := rfl

/-- Settles O17: the port's fields are those of endDwell or loseLock; out of FIT before and after it moves nothing else,
and from FIT line fitness is as judged. -/
theorem searchRestartsLocksOrSteps : Obligations.SearchRestartsLocksOrSteps := by
  refine ⟨fun p s d operate seeking dwell past fitness => ?_, fun p s operate awake listens fitness => ?_⟩
  · have same : (s.onPort p (endDwell s.cfg s.now d)).lineFit = s.lineFit :=
      onPort_lineFit_away (by rw [seeking]; decide) (endDwell_not_fit seeking _ _ _)
    refine ⟨_, exec_dwellEnd (dwellDue_of operate seeking dwell past), ?_⟩
    rw [announceChange_movePort fitness same]
    exact ⟨movePort_eq fitness same, by rw [movePort_liu], fun q off => movePort_other s off _,
      (movePort_port s p _).trans (endDwell_of_seeking seeking _ _ d)⟩
  · have port := (movePort_port s p (loseLock s.cfg s.now)).trans (loseLock_of_listening listens _ _)
    refine ⟨_, exec_lossOfLock operate awake, ?_, ?_, ?_, announceChange_fitnessOk s (fitnessOk_judgeFitness _), ?_,
      ?_, ?_, ?_⟩
    · rw [announceChange_ports]
      exact port
    · intro q off
      rw [announceChange_ports]
      exact movePort_other s off _
    · rw [announceChange_active, movePort_unfitKind, loseLock_of_listening listens]
      exact Bool.true_and _
    · rw [announceChange_fifo, movePort_liu]
    · simp
    · simp
    · intro unfit
      have same : (s.onPort p (loseLock s.cfg s.now)).lineFit = s.lineFit :=
        onPort_lineFit_away unfit (by rw [loseLock_state]; decide)
      rw [announceChange_movePort fitness same]
      exact movePort_eq fitness same

end Sys2Proof.Safety
end

section
/-! PROOFS. The loss of line fitness in RUN and what it stops (O18). -/

namespace Sys2Proof.Safety

open Sys2Proof Sys2Proof.Machine

variable {s t u : State} {m x : MoverId}

/-! ### No mover proceeds without line fitness -/

theorem proceed_of_unfit (unfit : s.lineFit = false) (m : MoverId) : s.proceed m = s := by
  unfold State.proceed
  rw [unfit, Bool.and_false, if_neg Bool.false_ne_true]

theorem lookAgain_of_unfit (unfit : s.lineFit = false) (m : MoverId) : s.lookAgain m = s := by
  unfold State.lookAgain
  split
  · rw [proceed_of_unfit unfit, ite_self]
  · rfl

theorem enterIdle_mover_other (unfit : s.lineFit = false) (other : x ≠ m) (code : RefusalCode) :
    (s.enterIdle m code).mover x = s.mover x := by
  unfold State.enterIdle
  rw [lookAgain_of_unfit (unfit ▸ lineFit_of_ports (by simp) (by simp))]
  simp [State.onMover_mover_other, other]

/-! ### A claim that is NONE stays NONE -/

theorem examineClaim_unclaimed (free : s.claim x = .unclaimed) (m : MoverId) : (s.examineClaim m).claim x = .unclaimed := by
  rw [State.examineClaim_claim]
  split
  · subst x
    exact (State.nextClaim_unclaimed s m).2 free
  · exact free

theorem examineClaims_unclaimed (free : s.claim x = .unclaimed) : s.examineClaims.claim x = .unclaimed :=
  examineClaim_unclaimed (examineClaim_unclaimed free 0) 1

theorem releaseClaim_unclaimed (free : s.claim x = .unclaimed) (m : MoverId) : (s.releaseClaim m).claim x = .unclaimed := by
  refine examineClaims_unclaimed ?_
  rw [State.setClaim_claim]
  split
  · rfl
  · exact free

theorem enterIdle_unclaimed (free : s.claim x = .unclaimed) (m : MoverId) (code : RefusalCode) :
    (s.enterIdle m code).claim x = .unclaimed := by
  unfold State.enterIdle
  rw [State.lookAgain_claim]
  refine releaseClaim_unclaimed ?_ m
  exact free

/-! ### What the loss stops -/

/-- From s to t the loss of line fitness has stopped mover m: RUNNING it stops, UNLOCKING it is abandoned (R100, R102). -/
structure LineStop (s t : State) (m : MoverId) : Prop where
  running : ∀ r, s.mover m = some r → r.phase = .running → t.mover m = some { r with
    phase := .stopping
    stopReason := some .lineUnfit
    reversal := none
    timer := some (s.now + (s.moverCfg m).stopDwell)
    overTime := none
    stallSpan := none }
  unlocking : ∀ r, s.mover m = some r → r.phase = .unlocking → ∃ u, t.mover m = some u ∧ u.phase = .idle ∧
    u.lastRefusal = .lineUnfit ∧ t.claim m = .unclaimed ∧ t.demandOf (.mover m) = none
  others : ∀ r, s.mover m = some r → r.phase ≠ .running → r.phase ≠ .unlocking → t.mover m = some r

theorem fitnessStop_running {r : Mover} (here : s.mover m = some r) (running : r.phase = .running) :
    s.fitnessStop m = s.enterStopping m .lineUnfit none := by
  simp only [State.fitnessStop, here, running]

theorem fitnessStop_unlocking {r : Mover} (here : s.mover m = some r) (unlocking : r.phase = .unlocking) :
    s.fitnessStop m = s.enterIdle m .lineUnfit := by
  simp only [State.fitnessStop, here, unlocking]

theorem fitnessStop_cases (s : State) (m : MoverId) :
    s.fitnessStop m = s ∨ s.fitnessStop m = s.enterStopping m .lineUnfit none ∨
      s.fitnessStop m = s.enterIdle m .lineUnfit := by
  unfold State.fitnessStop
  split
  · exact .inl rfl
  · split <;> simp

theorem lineStop_fitnessStop (s : State) (m : MoverId) : LineStop s (s.fitnessStop m) m where
  running r here running := by
    rw [fitnessStop_running here running, State.enterStopping_mover, here]
    rfl
  unlocking r here unlocking := by
    rw [fitnessStop_unlocking here unlocking, State.enterIdle_mover, State.enterIdle_claim, State.enterIdle_demandOf,
      if_pos rfl, here]
    exact ⟨_, rfl, rfl, rfl, rfl, rfl⟩
  others r here running unlocking := by
    unfold State.fitnessStop
    rw [here]
    dsimp only
    split <;> simp_all

theorem fitnessStop_mover_other (unfit : s.lineFit = false) (other : x ≠ m) : (s.fitnessStop m).mover x = s.mover x := by
  rcases fitnessStop_cases s m with e | e | e
  · rw [e]
  · rw [e]
    exact State.onMover_mover_other s m x _ other
  · rw [e]
    exact enterIdle_mover_other unfit other _

theorem fitnessStop_unclaimed (free : s.claim x = .unclaimed) (m : MoverId) : (s.fitnessStop m).claim x = .unclaimed := by
  rcases fitnessStop_cases s m with e | e | e
  · rwa [e]
  · rwa [e]
  · rw [e]
    exact enterIdle_unclaimed free m _

theorem fitnessStop_no_demand {src : Source} (gone : s.demandOf src = none) (m : MoverId) :
    (s.fitnessStop m).demandOf src = none := by
  rcases fitnessStop_cases s m with e | e | e
  · rwa [e]
  · rwa [e]
  · rw [e, State.enterIdle_demandOf, gone, ite_self]

theorem LineStop.after (h : LineStop s t m) (mover : u.mover m = t.mover m)
    (claim : t.claim m = .unclaimed → u.claim m = .unclaimed)
    (demand : t.demandOf (.mover m) = none → u.demandOf (.mover m) = none) : LineStop s u m where
  running r here running := mover.trans (h.running r here running)
  unlocking r here unlocking := by
    obtain ⟨y, there, idle, code, free, gone⟩ := h.unlocking r here unlocking
    exact ⟨y, mover.trans there, idle, code, claim free, demand gone⟩
  others r here running unlocking := mover.trans (h.others r here running unlocking)

theorem LineStop.before (h : LineStop t u m) (mover : t.mover m = s.mover m) (now : t.now = s.now) (cfg : t.cfg = s.cfg) :
    LineStop s u m where
  running r here running := by
    have stopped := h.running r (mover.trans here) running
    unfold State.moverCfg at stopped ⊢
    rwa [now, cfg] at stopped
  unlocking r here := h.unlocking r (mover.trans here)
  others r here := h.others r (mover.trans here)

theorem LineStop.congr (h : LineStop s t m) (mvu : u.mvu = t.mvu) (zcu : u.zcu = t.zcu)
    (demands : u.sbu.demands = t.sbu.demands) : LineStop s u m :=
  h.after (by unfold State.mover; rw [mvu]) (by unfold State.claim; rw [zcu]; exact id)
    (by unfold State.demandOf; rw [demands]; exact id)

/-- Both movers stop, each as if the other were not there. -/
theorem lineStop_loseFitness (unfit : s.lineFit = false) (m : MoverId) : LineStop s s.loseFitness m := by
  have raised : (s.raiseCond .lineUnfit).lineFit = false := unfit ▸ lineFit_of_ports (by simp) (by simp)
  have first : ((s.raiseCond .lineUnfit).fitnessStop 0).lineFit = false :=
    raised ▸ lineFit_of_ports (by simp) (by simp)
  have both : LineStop (s.raiseCond .lineUnfit) (((s.raiseCond .lineUnfit).fitnessStop 0).fitnessStop 1) m := by
    rcases mover_cases m with rfl | rfl
    · exact (lineStop_fitnessStop _ 0).after (fitnessStop_mover_other first (by decide))
        (fun free => fitnessStop_unclaimed free 1) fun gone => fitnessStop_no_demand gone 1
    · exact (lineStop_fitnessStop _ 1).before (fitnessStop_mover_other raised (by decide)) (by simp) (by simp)
  have started := both.before (s := s) (by unfold State.mover; simp) (by simp) (by simp)
  exact started.congr rfl rfl rfl

theorem judgeFitness_loses (running : s.running = true) (unfit : s.lineFit = false) (clear : s.active .lineUnfit = false) :
    s.judgeFitness = s.loseFitness := by
  unfold State.judgeFitness
  rw [if_pos running, unfit, clear]
  rfl

theorem loseFitness_islandTimer (s : State) : s.loseFitness.sbu.islandTimer = some (s.now + s.cfg.islandDelay) := by
  have stopped := acts_aside (Acts.foldl acts_fitnessStop allMovers (s.raiseCond .lineUnfit))
  unfold State.loseFitness
  dsimp only
  rw [stopped.now, stopped.cfg]
  simp

/-! ### A FIT port that takes line fitness with it -/

theorem onPort_lineFit_congr {p : PortId} {f g : Port → Port}
    (same : decide ((f s.liu.ports[p]).state = .fit) = decide ((g s.liu.ports[p]).state = .fit)) :
    (s.onPort p f).lineFit = (s.onPort p g).lineFit := by
  have fits (q : PortId) : (s.onPort p f).portFit q = (s.onPort p g).portFit q := by
    unfold State.portFit
    rw [onPort_record, onPort_record]
    split
    · exact same
    · rfl
  unfold State.lineFit
  rw [fits, fits]
  rfl

/-- What a port's loss of line fitness leaves: LINE_UNFIT, the island timer, and the movers stopped (R34, R154). -/
structure LineLost (s t : State) : Prop where
  raised : t.active .lineUnfit = true
  timer : t.sbu.islandTimer = some (s.now + s.cfg.islandDelay)
  stopped : ∀ m, LineStop s t m

theorem lineLost_movePort {p : PortId} {f : Port → Port} (running : s.running = true)
    (clear : s.active .lineUnfit = false) (unfit : (s.onPort p f).lineFit = false) : LineLost s (s.movePort p f) := by
  have unfit' : ((s.onPort p f).reportPort p).lineFit = false := (reportPort_lineFit _ p).trans unfit
  have running' : ((s.onPort p f).reportPort p).running = true := by simpa [State.running] using running
  have lost : s.movePort p f = ((s.onPort p f).reportPort p).loseFitness :=
    judgeFitness_loses running' unfit' ((reportPort_lineUnfit _ p).trans clear)
  refine ⟨?_, ?_, fun m => ?_⟩
  · have shown : FitnessOk (s.movePort p f) := fitnessOk_judgeFitness _
    have fit : (s.movePort p f).lineFit = false := by
      rw [lost]
      exact unfit' ▸ lineFit_of_ports (by simp) (by simp)
    rw [shown (by simpa [State.running] using running), fit]
    rfl
  · rw [lost, loseFitness_islandTimer]
    simp
  · rw [lost]
    exact (lineStop_loseFitness unfit' m).before (by unfold State.mover; simp) (by simp) (by simp)

theorem LineLost.congr (h : LineLost s t) (active : u.active .lineUnfit = t.active .lineUnfit) (mvu : u.mvu = t.mvu)
    (zcu : u.zcu = t.zcu) (demands : u.sbu.demands = t.sbu.demands) (timer : u.sbu.islandTimer = t.sbu.islandTimer) :
    LineLost s u :=
  ⟨active.trans h.raised, timer.trans h.timer, fun m => (h.stopped m).congr mvu zcu demands⟩

theorem compose_sbu (s : State) : s.compose.sbu = { s.sbu with offers := s.compose.sbu.offers } := by
  unfold State.compose
  split <;> rfl

theorem announceChange_sbu (s t : State) :
    (announceChange s t).sbu = { t.sbu with offers := (announceChange s t).sbu.offers } := by
  unfold announceChange
  split
  · rfl
  · exact compose_sbu t

theorem LineLost.announceChange (h : LineLost s t) (before : State) : LineLost s (announceChange before t) :=
  h.congr (announceChange_active before t _) (by simp) (by simp) (by rw [announceChange_sbu]) (by rw [announceChange_sbu])

theorem countError_exceeds {cfg : Cfg} {now : Nat} {x : Port} (fit : x.state = .fit)
    (exceeds : cfg.ports.errorThreshold < x.errors + 1) :
    countError cfg now x = { x with state := .locked, good := 0, errors := 0, windowEnd := none } := by
  unfold countError
  rw [fit]
  exact if_pos exceeds

theorem portsOperate_of_running (running : s.running = true) : s.portsOperate = true := by
  rw [State.running, decide_eq_true_eq] at running
  simp [State.portsOperate, State.delivers, State.working, running]

theorem exec_crcError {p : PortId} (hears : s.hears p = true) :
    exec (.crcError p) s = .next (announceChange s (s.takeBadFrame p)) := congrArg Host.Outcome.next (if_pos hears)

/-- Settles O18: each of the three leaves the port out of FIT, so that judging line fitness loses it. -/
theorem losingFitnessStopsTheMovers : Obligations.LosingFitnessStopsTheMovers := by
  intro p s fit running clear _ lost stops
  have falls : ∀ f : Port → Port, (f s.liu.ports[p]).state ≠ .fit → LineLost s (s.movePort p f) := fun f out =>
    lineLost_movePort running clear
      (lost ▸ onPort_lineFit_congr (decide_eq_false out |>.trans (decide_eq_false (show PortState.seeking ≠ .fit by decide)).symm))
  have stop : ∀ {c : Instr} {t : State}, LineLost s t → exec c s = .next t → stops c := fun h e =>
    ⟨_, e, h.raised, h.timer, fun m => (h.stopped m).running, fun m => (h.stopped m).unlocking,
      fun m => (h.stopped m).others⟩
  have awake : (s.liu.ports[p]).state ≠ .dark := by rw [fit]; decide
  have operate := portsOperate_of_running running
  refine ⟨?_, fun k carrier past => ?_, fun listens exceeds => ?_⟩
  · exact stop ((falls (loseLock s.cfg s.now) (by rw [loseLock_state]; decide)).announceChange s)
      (exec_lossOfLock operate awake)
  · have dark := falls (goDark s.now) (show PortState.dark ≠ .fit by decide)
    exact stop (LineLost.announceChange (dark.congr (u := (s.movePort p (goDark s.now)).judgeDepartures) rfl rfl rfl rfl rfl) s)
      (exec_carrierLoss (carrierDue_of operate carrier past))
  · have bad := falls (fun x => countError s.cfg s.now (seeTransition s.now x))
      (by rw [countError_exceeds (x := seeTransition s.now _) fit exceeds]; exact nofun)
    have raised : LineLost s (s.takeBadFrame p) := by
      unfold State.takeBadFrame
      dsimp only
      split
      · refine bad.congr ?_ (by simp) (by simp) (by simp) (by simp)
        rw [State.raiseEvent_active]
        exact if_neg (by decide)
      · exact bad
    exact stop (raised.announceChange s) (exec_crcError (hears_of operate awake listens))

end Sys2Proof.Safety
end

section
/-! PROOFS. A REQUESTING mover goes to motion where its standing is CLEARED, its entry granted and line fitness holds
(R97), and what looking at both movers then leaves where none is in motion proper. -/

namespace Sys2Proof.Safety

open Sys2Proof Sys2Proof.Machine

variable {s t : State} {m x : MoverId} {r : Mover}

/-- The standing CLEARED is a HELD claim with no zone of the set occupied (R71). -/
theorem standing_cleared_iff : s.standing m = .cleared ↔ s.claim m = .held ∧ s.zoneOccupied m = false := by
  refine ⟨held_of_cleared, fun ⟨held, free⟩ => ?_⟩
  unfold State.standing
  rw [held, free]
  rfl

/-- Standings go by the claims, the listen window, the time and the zones in view (R71). -/
theorem standing_congr (claim : t.claim m = s.claim m) (cfg : t.cfg = s.cfg) (now : t.now = s.now)
    (zones : t.zoneOccupied m = s.zoneOccupied m) : t.standing m = s.standing m := by
  unfold State.standing
  rw [claim, cfg, now, zones]

theorem proceed_of_cleared (clear : Cleared s m) : s.proceed m =
    if (s.moverCfg m).lockFitted && s.input (s.moverCfg m).lockClosed then s.enterUnlocking m else s.enterRunning m := by
  obtain ⟨standing, granted, fit⟩ := clear
  refine if_pos ?_
  rw [standing, granted, fit]
  rfl

theorem proceed_of_not_cleared (waits : ¬Cleared s m) : s.proceed m = s := by
  refine if_neg fun clear => waits ?_
  simp only [Bool.and_eq_true, decide_eq_true_eq] at clear
  obtain ⟨⟨standing, granted⟩, fit⟩ := clear
  exact ⟨standing, granted, fit⟩

/-- A mover that goes to motion: UNLOCKING behind a fitted lock that is closed and not yet open, RUNNING otherwise, its
driver and direction as they were (R97, R100). -/
def Started (s t : State) (m : MoverId) (r : Mover) : Prop :=
  ∃ x, t.mover m = some x ∧ x.direction = r.direction ∧ x.driver = r.driver ∧
    x.phase = if (s.moverCfg m).lockFitted = true ∧ s.input (s.moverCfg m).lockClosed = true ∧
      s.input (s.moverCfg m).lockOpen = false then .unlocking else .running

theorem enterRunning_started (here : s.mover m = some r) :
    ∃ x, (s.enterRunning m).mover m = some x ∧ x.direction = r.direction ∧ x.driver = r.driver ∧ x.phase = .running := by
  rw [State.enterRunning_mover, here]
  exact ⟨_, rfl, rfl, rfl, rfl⟩

theorem proceed_started (clear : Cleared s m) (here : s.mover m = some r) : Started s (s.proceed m) m r := by
  obtain ⟨x, there, direction, driver, running⟩ := enterRunning_started here
  rw [proceed_of_cleared clear]
  unfold Started State.enterUnlocking
  cases s.input (s.moverCfg m).lockOpen with
  | true => exact ⟨x, by simpa using there, direction, driver, by simpa using running⟩
  | false =>
    cases lock : (s.moverCfg m).lockFitted && s.input (s.moverCfg m).lockClosed with
    | true =>
      rw [if_pos rfl, if_neg Bool.false_ne_true, State.onMover_mover_same, here]
      refine ⟨_, rfl, rfl, rfl, ?_⟩
      simpa using lock
    | false =>
      refine ⟨x, there, direction, driver, running.trans ?_⟩
      rw [if_neg]
      rintro ⟨fitted, closed, -⟩
      rw [fitted, closed] at lock
      cases lock

theorem proceed_mover_other (other : x ≠ m) : (s.proceed m).mover x = s.mover x := by
  obtain e | ⟨e, -⟩ := State.proceed_mover s m x
  · exact e
  · exact absurd e other

theorem Started.of_like (h : Started s t m r) {u : State} (cfg : s.cfg = u.cfg) (fpr : s.fpr = u.fpr) : Started u t m r := by
  unfold Started State.moverCfg at h ⊢
  rwa [cfg, input_of_fpr fpr, input_of_fpr fpr] at h

/-! ### Looking at a mover that is not in motion proper -/

theorem react_of_requesting (here : s.mover m = some r) (requesting : r.phase = .requesting) : s.react m = s.proceed m := by
  unfold State.react
  rw [here]
  dsimp only
  rw [requesting]

theorem react_of_none (here : s.mover m = none) : s.react m = s := by
  unfold State.react
  rw [here]

theorem react_of_rest (here : s.mover m = some r) (still : ¬Moving s m) (rest : r.phase ≠ .requesting) : s.react m = s := by
  have off : r.phase ≠ .unlocking ∧ r.phase ≠ .running :=
    ⟨fun e => still (moving_iff.2 ⟨r, here, .inl e⟩), fun e => still (moving_iff.2 ⟨r, here, .inr e⟩)⟩
  unfold State.react
  rw [here]
  dsimp only
  split <;> simp_all

theorem react_cases (still : ¬Moving s m) : s.react m = s ∨ s.react m = s.proceed m := by
  cases here : s.mover m with
  | none => exact .inl (react_of_none here)
  | some r =>
    by_cases requesting : r.phase = .requesting
    · exact .inr (react_of_requesting here requesting)
    · exact .inl (react_of_rest here still requesting)

/-- A view of the state that no mover's start changes. -/
theorem react_keeps {β : Type} (view : State → β) (same : ∀ u y, view (State.proceed u y) = view u) (still : ¬Moving s m) :
    view (s.react m) = view s := by
  obtain e | e := react_cases still
  · rw [e]
  · rw [e, same]

theorem react_mover_other (still : ¬Moving s m) (other : x ≠ m) : (s.react m).mover x = s.mover x := by
  obtain e | e := react_cases still
  · rw [e]
  · rw [e, proceed_mover_other other]

theorem not_moving_of_mover (same : t.mover m = s.mover m) (still : ¬Moving s m) : ¬Moving t m := fun moving =>
  still (moving.of_phase (by unfold phaseOf; rw [same]))

theorem reactAll_keeps {β : Type} (view : State → β) (same : ∀ u y, view (State.proceed u y) = view u)
    (still : ∀ m, ¬Moving s m) : view s.reactAll = view s :=
  (react_keeps view same (not_moving_of_mover (react_mover_other (still 0) (by decide)) (still 1))).trans
    (react_keeps view same (still 0))

theorem cleared_congr (claim : t.claim m = s.claim m) (zones : t.zoneOccupied m = s.zoneOccupied m)
    (granted : t.granted m = s.granted m) (line : t.lineFit = s.lineFit) : Cleared t m ↔ Cleared s m := by
  unfold Cleared
  rw [standing_cleared_iff, standing_cleared_iff, claim, zones, granted, line]

theorem react_cleared (still : ¬Moving s m) : Cleared (s.react m) x ↔ Cleared s x := by
  refine cleared_congr ?_ ?_ ?_ ?_
  · exact react_keeps (fun u => u.claim x) (fun u y => by unfold State.claim; rw [State.proceed_zcu]) still
  · exact react_keeps (fun u => u.zoneOccupied x) (fun u y => zoneOccupied_congr (by simp) (by simp) (by simp) (by simp)) still
  · exact react_keeps (fun u => u.granted x) (fun u y => granted_of_demand (State.demandOf_congr (by simp) _)) still
  · exact react_keeps State.lineFit (fun u y => lineFit_of_ports (by simp) (by simp)) still

theorem react_started (clear : Cleared s m) (here : s.mover m = some r) (requesting : r.phase = .requesting) :
    Started s (s.react m) m r := by
  rw [react_of_requesting here requesting]
  exact proceed_started clear here

theorem react_waits (still : ¬Moving s m) (here : s.mover m = some r) (waits : ¬(r.phase = .requesting ∧ Cleared s m)) :
    (s.react m).mover m = some r := by
  by_cases requesting : r.phase = .requesting
  · rw [react_of_requesting here requesting, proceed_of_not_cleared fun clear => waits ⟨requesting, clear⟩]
    exact here
  · rwa [react_of_rest here still requesting]

/-- With no mover in motion proper, each REQUESTING mover that is cleared starts. -/
theorem reactAll_started (still : ∀ m, ¬Moving s m) (clear : Cleared s m) (here : s.mover m = some r)
    (requesting : r.phase = .requesting) : Started s s.reactAll m r := by
  have first : (s.react 0).mover 1 = s.mover 1 := react_mover_other (still 0) (by decide)
  have still1 := not_moving_of_mover first (still 1)
  obtain rfl | rfl := mover_cases m
  · obtain ⟨x, there, rest⟩ := react_started clear here requesting
    exact ⟨x, (react_mover_other still1 (by decide)).trans there, rest⟩
  · exact (react_started ((react_cleared (still 0)).2 clear) (first.trans here) requesting).of_like
      (react_keeps State.cfg (fun _ _ => by simp) (still 0)) (react_keeps State.fpr (fun _ _ => by simp) (still 0))

/-- Every other mover is left as it is. -/
theorem reactAll_waits (still : ∀ m, ¬Moving s m) (here : s.mover m = some r)
    (waits : ¬(r.phase = .requesting ∧ Cleared s m)) : s.reactAll.mover m = some r := by
  have first : (s.react 0).mover 1 = s.mover 1 := react_mover_other (still 0) (by decide)
  have still1 := not_moving_of_mover first (still 1)
  obtain rfl | rfl := mover_cases m
  · exact (react_mover_other still1 (by decide)).trans (react_waits (still 0) here waits)
  · exact react_waits still1 (first.trans here) fun ⟨requesting, clear⟩ => waits ⟨requesting, (react_cleared (still 0)).1 clear⟩

end Sys2Proof.Safety
end

section
/-! PROOFS. Frames a port hears: the count of good and bad ones (O19) and what a malformed one leaves (O20). -/

namespace Sys2Proof.Safety

open Sys2Proof Sys2Proof.Machine

variable {s t u : State} {m x : MoverId} {p q : PortId} {frame : List Byte} {c : Instr}

/-! ### The row of a frame -/

/-- Each of the eight commands that are frames is reception with a test of its own. -/
theorem exec_frameCommand (row : c ∈ frameCommands p frame) (s : State) :
    ∃ mine, exec c s = .next (s.receive p frame mine) := by
  simp only [frameCommands, List.mem_cons, List.not_mem_nil, or_false] at row
  rcases row with rfl | rfl | rfl | rfl | rfl | rfl | rfl | rfl
  all_goals exact ⟨_, rfl⟩

theorem receive_bad {mine : Frame → Bool} (hears : s.hears p = true) (whole : frameWhole frame = true)
    (bad : crcGood frame = false) : s.receive p frame mine = announceChange s (s.takeBadFrame p) := by
  simp [State.receive, hears, whole, bad]

theorem receive_good {mine : Frame → Bool} (hears : s.hears p = true) (whole : frameWhole frame = true)
    (good : crcGood frame = true) (row : ofRow mine frame = true) :
    s.receive p frame mine = announceChange s ((s.takeGoodFrame p).checkAndDeliver frame) := by
  simp [State.receive, hears, whole, good, row]

theorem ofRow_malformed (malformed : parseFrame frame = none) (mine : Frame → Bool) : ofRow mine frame = true := by
  unfold ofRow
  rw [malformed]

/-- A frame's own row takes it. -/
theorem exec_rowOf {f : Frame} (parsed : parseFrame frame = some f) (s : State) :
    ∃ mine, ofRow mine frame = true ∧ exec (rowOf p frame f) s = .next (s.receive p frame mine) := by
  have taken {mine : Frame → Bool} (row : mine f = true) : ofRow mine frame = true := by
    unfold ofRow
    rw [parsed]
    exact row
  cases f with
  | announce src a => exact ⟨_, taken rfl, rfl⟩
  | set src target channel level => exact ⟨_, taken rfl, rfl⟩
  | scene src number => exact ⟨_, taken rfl, rfl⟩
  | forget src target => exact ⟨_, taken rfl, rfl⟩
  | drive src target m motion => cases motion <;> exact ⟨_, taken rfl, rfl⟩

theorem exec_goodFrameOf (good : GoodFrameOf c s p frame) :
    exec c s = .next (announceChange s ((s.takeGoodFrame p).checkAndDeliver frame)) := by
  obtain ⟨hears, whole, crc, ⟨malformed, row⟩ | ⟨f, parsed, rfl⟩⟩ := good
  · obtain ⟨mine, taken⟩ := exec_frameCommand row s
    rw [taken, receive_good hears whole crc (ofRow_malformed malformed mine)]
  · obtain ⟨mine, row, taken⟩ := exec_rowOf (p := p) parsed s
    rw [taken, receive_good hears whole crc row]

/-! ### A malformed frame -/

theorem occurredNow_raiseEvent (s : State) (k : FaultKind) : OccurredNow s (s.raiseEvent k) k := by
  refine ⟨(State.activate_flags s k k _).trans (if_pos rfl), fun j other => (State.activate_flags s k j _).trans (if_neg other),
    rfl, ?_⟩
  unfold State.raiseEvent State.activate firstFaultAfter
  cases s.active k <;> cases s.fcl.firstFault <;> simp

/-- Settles O20: reception hears the frame, finds no fields in it and raises MALFORMED. -/
theorem malformedFramesAreDiscarded : Obligations.MalformedFramesAreDiscarded := by
  intro p frame c s row hears delivers whole crc malformed calm
  have delivers' : (heardNow s p).delivers = true := by
    simpa [State.delivers, State.working] using delivers
  have checked : (heardNow s p).checkAndDeliver frame = (heardNow s p).raiseEvent .malformed := by
    unfold State.checkAndDeliver
    rw [if_pos delivers', malformed]
  refine ⟨(heardNow s p).raiseEvent .malformed, ?_, rfl, occurredNow_raiseEvent _ _⟩
  rw [exec_goodFrameOf ⟨hears, whole, crc, .inl ⟨malformed, row⟩⟩,
    State.takeGoodFrame_of_calm (awake_of_hears hears) calm, checked]
  exact congrArg Host.Outcome.next (announceChange_of_same (announcedClaims_congr (by simp) (by simp) (by simp)))

/-! ### What delivery leaves of the ports -/

/-- The kinds the delivery of a frame may report. -/
def deliveryKinds : List FaultKind := [.malformed, .twin, .island, .peerOrphaned] ++ moverKinds

theorem reports_deliverForget (s : State) (src target : Nat) :
    Reports (.peerOrphaned :: moverKinds) s (s.deliverForget src target) := by
  unfold State.deliverForget
  split
  · split
    · exact .refl s _
    · split
      · exact .refl s _
      · exact (reports_setPeer s _ none).trans ((acts_aside (acts_reexamine _)).reports.mono (List.subset_cons_self _ _))
  · exact .refl s _

theorem reports_deliverAnnounce (s : State) (src : Nat) (a : Announce) :
    Reports deliveryKinds s (s.deliverAnnounce src a) := by
  unfold State.deliverAnnounce
  split
  · exact (reports_raiseTwin s).mono (by decide)
  · split
    · exact (reports_fileAnnounce s _ a).mono (by decide)
    · exact .refl s _

theorem reports_deliver (s : State) (f : Frame) : Reports deliveryKinds s (s.deliver f) := by
  unfold State.deliver
  split
  · exact reports_deliverAnnounce s _ _
  · exact reports_of_fcl (by simp)
  · exact (reports_deliverForget s _ _).mono (by decide)
  · split
    · exact reports_of_fcl (by simp)
    · exact .refl s _
  · split
    · exact (acts_aside (acts_deliverDrive s _ _ _)).reports.mono (by decide)
    · exact .refl s _

theorem reports_checkAndDeliver (s : State) (frame : List Byte) : Reports deliveryKinds s (s.checkAndDeliver frame) := by
  unfold State.checkAndDeliver
  split
  · split
    · exact reports_raiseEvent s (by decide)
    · exact reports_deliver s _
  · exact .refl s _

theorem raiseTwin_ports (s : State) : s.raiseTwin.liu.ports = s.liu.ports := by
  cases twin : s.active .twin with
  | true => rw [State.raiseTwin, if_pos twin]
  | false => rw [raiseTwin_liu twin]; rfl

theorem deliver_ports (s : State) (f : Frame) : (s.deliver f).liu.ports = s.liu.ports := by
  unfold State.deliver
  split
  · unfold State.deliverAnnounce
    split
    · exact raiseTwin_ports s
    · split <;> simp
  · simp
  · simp
  · split <;> simp
  · split <;> simp

theorem checkAndDeliver_ports (s : State) (frame : List Byte) : (s.checkAndDeliver frame).liu.ports = s.liu.ports := by
  unfold State.checkAndDeliver
  split
  · split
    · simp
    · exact deliver_ports s _
  · rfl

/-! ### A frame with a failing CRC -/

/-- What a frame with a failing CRC makes of its port (R150, R152, R153). -/
def heardBad (s : State) (p : PortId) : State := s.movePort p fun x => countError s.cfg s.now (seeTransition s.now x)

theorem takeBadFrame_eq (s : State) (p : PortId) :
    s.takeBadFrame p = if s.delivers then (heardBad s p).raiseEvent .crcError else heardBad s p := rfl

theorem takeBadFrame_liu (s : State) (p : PortId) : (s.takeBadFrame p).liu = (heardBad s p).liu := by
  rw [takeBadFrame_eq]
  split
  · simp
  · rfl

theorem takeBadFrame_active (s : State) {p : PortId} {k : FaultKind} (other : k ≠ .crcError) :
    (s.takeBadFrame p).active k = (heardBad s p).active k := by
  rw [takeBadFrame_eq]
  split
  · rw [State.raiseEvent_active, if_neg other]
  · rfl

theorem takeBadFrame_fitnessOk (s : State) (p : PortId) : FitnessOk (s.takeBadFrame p) := by
  have shown : FitnessOk (heardBad s p) := fitnessOk_judgeFitness _
  exact shown.keep (by simp [heardBad]) (by simp [heardBad]) (by rw [takeBadFrame_liu])
    (takeBadFrame_active s (by decide))

theorem crcError_not_reported (s : State) (p : PortId) :
    (heardBad s p).fcl.flags[FaultKind.crcError.idx] = s.fcl.flags[FaultKind.crcError.idx] :=
  (reports_movePort s p _).flags _ (by decide)

theorem heardBad_port (s : State) (p : PortId) :
    (heardBad s p).liu.ports[p] = countError s.cfg s.now (seeTransition s.now s.liu.ports[p]) := movePort_port s p _

theorem countError_seeking {cfg : Cfg} {now : Nat} {x : Port} {d : Dwell} (seeking : x.state = .seeking)
    (dwell : x.dwell = some d) : (countError cfg now x).state = .seeking ∧ (countError cfg now x).dwell =
      if d.start + cfg.ports.dwell / 2 ≤ now then some { d with lateErrors := d.lateErrors + 1 } else some d := by
  unfold countError
  rw [seeking, dwell]
  dsimp only
  split
  · exact ⟨rfl, rfl⟩
  · exact ⟨seeking, dwell⟩

theorem countError_locked {cfg : Cfg} {now : Nat} {x : Port} (locked : x.state = .locked) :
    (countError cfg now x).state = .locked ∧ (countError cfg now x).good = 0 := by
  unfold countError
  simp only [locked, and_self]

theorem countError_within {cfg : Cfg} {now : Nat} {x : Port} (fit : x.state = .fit)
    (within : x.errors + 1 ≤ cfg.ports.errorThreshold) :
    (countError cfg now x).state = .fit ∧ (countError cfg now x).errors = x.errors + 1 := by
  unfold countError
  rw [fit]
  dsimp only
  rw [if_neg (Nat.not_lt.2 within)]
  exact ⟨rfl, rfl⟩

/-! ### A frame with a good CRC -/

theorem countGood_locked {now : Nat} {x : Port} (locked : x.state = .locked) :
    countGood now (seeTransition now x) =
      if x.good + 1 < 8 then { x with carrier := some now, lastTransition := now, good := x.good + 1 }
      else { x with
        carrier := some now, lastTransition := now, state := .fit, good := 8, wasFit := true, errors := 0,
        windowEnd := some (now + 1000) } := by
  refine (if_pos (show (seeTransition now x).state = .locked from locked)).trans ?_
  show (if Config.goodFramesForFit ≤ x.good + 1 then _ else _) = _
  by_cases few : x.good + 1 < 8
  · rw [if_pos few, if_neg (show ¬Config.goodFramesForFit ≤ x.good + 1 from Nat.not_le.2 few)]
    rfl
  · rw [if_neg few, if_pos (show Config.goodFramesForFit ≤ x.good + 1 from Nat.not_lt.1 few)]
    rfl

/-- The eighth good frame in a row makes a LOCKED port FIT (R153). -/
theorem countGood_eighth {now : Nat} {x : Port} (locked : x.state = .locked) (eighth : 8 ≤ x.good + 1) :
    (countGood now (seeTransition now x)).state = .fit := by
  rw [countGood_locked locked, if_neg (Nat.not_lt.2 eighth)]

/-! ### Line fitness regained -/

theorem judgeFitness_regains (running : s.running = true) (fit : s.lineFit = true) (raised : s.active .lineUnfit = true) :
    s.judgeFitness = s.regainFitness := by
  unfold State.judgeFitness
  rw [if_pos running, fit, raised]
  rfl

theorem leaveIsland_timer (island : s.sbu.island = some .timer) : s.leaveIsland.active .island = false ∧
    s.leaveIsland.sbu = { s.sbu with
      demands := s.sbu.demands.map fun d => { d with settled := d.drawing, ceiling := none }
      island := none
      islandTimer := none } := by
  unfold State.leaveIsland
  rw [if_pos island]
  exact ⟨(State.clearFlag_active _ _ _).trans (if_pos rfl), rfl⟩

theorem leaveIsland_other (island : s.sbu.island ≠ some .timer) : s.leaveIsland.active .island = s.active .island ∧
    s.leaveIsland.sbu = { s.sbu with islandTimer := none } := by
  unfold State.leaveIsland
  rw [if_neg island]
  exact ⟨rfl, rfl⟩

/-- Where the windows of listening intents run afresh; the other claims stand (R76). -/
def afresh (now : Nat) : Claim → Claim
  | .listening _ => .listening now
  | .unclaimed => .unclaimed
  | .waiting => .waiting
  | .held => .held

theorem restartWindow_claims (s : State) (m x : MoverId) :
    (s.restartWindow m).claim x = if x = m then afresh s.now (s.claim m) else s.claim x := by
  unfold State.restartWindow
  cases claim : s.claim m <;> dsimp only
  case listening start => exact State.setClaim_claim s m x _
  all_goals
    split
    · subst x
      exact claim
    · rfl

theorem restartWindows_claim (s : State) (m : MoverId) :
    (allMovers.foldl State.restartWindow s).claim m = afresh s.now (s.claim m) := by
  show ((s.restartWindow 0).restartWindow 1).claim m = _
  have now : (s.restartWindow 0).now = s.now := by simp
  rw [restartWindow_claims, restartWindow_claims, restartWindow_claims, now]
  obtain rfl | rfl := mover_cases m <;> rfl

/-- A claim whose window runs afresh is HELD where it was. -/
theorem afresh_held {now : Nat} {c : Claim} : afresh now c = .held ↔ c = .held := by
  cases c <;> simp [afresh]

section Regain

variable (still : ∀ m, ¬Moving s m)

/-- The station as line fitness returns, before its movers look again. -/
def fitAgain (s : State) : State := allMovers.foldl State.restartWindow (s.clearFlag .lineUnfit).leaveIsland

theorem fitAgain_mover (s : State) (m : MoverId) : (fitAgain s).mover m = s.mover m := by
  unfold State.mover fitAgain
  rw [restartWindows_keep State.mvu (fun _ _ _ => rfl), State.leaveIsland_mvu, State.clearFlag_mvu]

include still

theorem fitAgain_still (m : MoverId) : ¬Moving (fitAgain s) m := not_moving_of_mover (fitAgain_mover s m) (still m)

theorem regainFitness_sbu : s.regainFitness.sbu = (s.clearFlag .lineUnfit).leaveIsland.sbu :=
  (reactAll_keeps State.sbu (fun _ _ => by simp) (fitAgain_still still)).trans
    (restartWindows_keep State.sbu (fun _ _ _ => rfl) _)

theorem regainFitness_fcl : s.regainFitness.fcl = (s.clearFlag .lineUnfit).leaveIsland.fcl :=
  (reactAll_keeps State.fcl (fun _ _ => by simp) (fitAgain_still still)).trans (restartWindows_fcl _)

theorem regainFitness_claim (m : MoverId) : s.regainFitness.claim m = afresh s.now (s.claim m) := by
  have zcu : s.regainFitness.zcu = (fitAgain s).zcu := reactAll_keeps State.zcu (fun _ _ => by simp) (fitAgain_still still)
  have claim : s.regainFitness.claim m = (fitAgain s).claim m := by unfold State.claim; rw [zcu]
  rw [claim, fitAgain, restartWindows_claim]
  unfold State.claim
  simp

omit still in
theorem fitAgain_cleared (fit : s.lineFit = true) (m : MoverId) :
    Cleared (fitAgain s) m ↔ s.standing m = .cleared ∧ s.granted m = true := by
  have same := similar_regain s
  have claim : (fitAgain s).claim m = afresh s.now (s.claim m) := by
    rw [fitAgain, restartWindows_claim]
    unfold State.claim
    simp
  have zones : (fitAgain s).zoneOccupied m = s.zoneOccupied m := same.zones m
  have granted : (fitAgain s).granted m = s.granted m := same.granted m
  have line : (fitAgain s).lineFit = true := same.line.trans fit
  unfold Cleared
  rw [standing_cleared_iff, standing_cleared_iff, claim, afresh_held, zones, granted]
  simp [line]

theorem regainFitness_started (fit : s.lineFit = true) {r : Mover} (here : s.mover m = some r)
    (requesting : r.phase = .requesting) (standing : s.standing m = .cleared) (granted : s.granted m = true) :
    Started s s.regainFitness m r :=
  (reactAll_started (fitAgain_still still) ((fitAgain_cleared fit m).2 ⟨standing, granted⟩)
    ((fitAgain_mover s m).trans here) requesting).of_like
    (by rw [fitAgain, restartWindows_keep State.cfg fun _ _ _ => rfl]; simp)
    (by rw [fitAgain, restartWindows_keep State.fpr fun _ _ _ => rfl]; simp)

theorem regainFitness_waits (fit : s.lineFit = true) {r : Mover} (here : s.mover m = some r)
    (waits : ¬(r.phase = .requesting ∧ s.standing m = .cleared ∧ s.granted m = true)) :
    s.regainFitness.mover m = some r :=
  reactAll_waits (fitAgain_still still) ((fitAgain_mover s m).trans here) fun ⟨requesting, clear⟩ =>
    waits ⟨requesting, (fitAgain_cleared fit m).1 clear⟩

end Regain

/-- A state is known by its blocks. -/
theorem eq_of_blocks (now : t.now = s.now) (suc : t.suc = s.suc) (cfg : t.cfg = s.cfg) (ptu : t.ptu = s.ptu)
    (lcu : t.lcu = s.lcu) (fpr : t.fpr = s.fpr) (ktu : t.ktu = s.ktu) (csa : t.csa = s.csa)
    (pending : t.pending = s.pending) :
    t = { s with liu := t.liu, sbu := t.sbu, zcu := t.zcu, mvu := t.mvu, fcl := t.fcl } := by
  cases t
  cases now
  cases suc
  cases cfg
  cases ptu
  cases lcu
  cases fpr
  cases ktu
  cases csa
  cases pending
  rfl

theorem regainFitness_cleared (running : s.running = true) (fit : s.lineFit = true) (raised : s.active .lineUnfit = true) :
    s.regainFitness.active .lineUnfit = false := by
  have shown : FitnessOk s.regainFitness := judgeFitness_regains running fit raised ▸ fitnessOk_judgeFitness s
  have line : s.regainFitness.lineFit = true := (lineFit_of_ports (by simp) (by simp)).trans fit
  rw [shown (by simpa [State.running] using running), line]
  rfl

/-- From s to t line fitness has returned, with no mover in motion proper while it was lost (R34, R38, R76, R97). -/
structure LineRegained (s t : State) : Prop where
  cleared : t.active .lineUnfit = false
  left : s.sbu.island = some .timer → t.active .island = false ∧ t.sbu = { s.sbu with
    demands := s.sbu.demands.map fun d => { d with settled := d.drawing, ceiling := none }
    island := none
    islandTimer := none }
  held : s.sbu.island ≠ some .timer → t.active .island = s.active .island ∧ t.sbu = { s.sbu with islandTimer := none }
  claim : ∀ m, t.claim m = afresh s.now (s.claim m)
  started : ∀ m r, s.mover m = some r → r.phase = .requesting → s.standing m = .cleared → s.granted m = true →
    Started s t m r
  waits : ∀ m r, s.mover m = some r → ¬(r.phase = .requesting ∧ s.standing m = .cleared ∧ s.granted m = true) →
    t.mover m = some r

theorem lineRegained (still : ∀ m, ¬Moving s m) (running : s.running = true) (fit : s.lineFit = true)
    (raised : s.active .lineUnfit = true) : LineRegained s s.regainFitness where
  cleared := regainFitness_cleared running fit raised
  left island := by
    obtain ⟨flag, sbu⟩ := leaveIsland_timer (s := s.clearFlag .lineUnfit) island
    exact ⟨by unfold State.active at flag ⊢; rw [regainFitness_fcl still, flag], (regainFitness_sbu still).trans sbu⟩
  held island := by
    obtain ⟨flag, sbu⟩ := leaveIsland_other (s := s.clearFlag .lineUnfit) island
    rw [State.clearFlag_active, if_neg (by decide)] at flag
    exact ⟨by unfold State.active at flag ⊢; rw [regainFitness_fcl still, flag], (regainFitness_sbu still).trans sbu⟩
  claim := regainFitness_claim still
  started _ _ here requesting standing granted := regainFitness_started still fit here requesting standing granted
  waits _ _ := regainFitness_waits still fit

/-- A report on a port touches nothing of this. -/
theorem LineRegained.before (h : LineRegained t u) (mvu : t.mvu = s.mvu) (zcu : t.zcu = s.zcu) (sbu : t.sbu = s.sbu)
    (now : t.now = s.now) (cfg : t.cfg = s.cfg) (suc : t.suc = s.suc) (ptu : t.ptu = s.ptu) (fpr : t.fpr = s.fpr)
    (island : t.active .island = s.active .island) : LineRegained s u := by
  have mover (m : MoverId) : t.mover m = s.mover m := by unfold State.mover; rw [mvu]
  have claim (m : MoverId) : t.claim m = s.claim m := by unfold State.claim; rw [zcu]
  have granted (m : MoverId) : t.granted m = s.granted m := granted_of_demand (State.demandOf_congr sbu _)
  have standing (m : MoverId) : t.standing m = s.standing m :=
    standing_congr (claim m) cfg now (zoneOccupied_congr cfg (by rw [suc]) ptu fpr)
  refine ⟨h.cleared, ?_, ?_, fun m => ?_, fun m r here requesting stand grant => ?_, fun m r here waits => ?_⟩
  · rw [← sbu]
    exact h.left
  · rw [← sbu, ← island]
    exact h.held
  · rw [← claim, ← now]
    exact h.claim m
  · exact (h.started m r ((mover m).trans here) requesting ((standing m).trans stand) ((granted m).trans grant)).of_like
      cfg fpr
  · refine h.waits m r ((mover m).trans here) ?_
    rwa [standing, granted]

theorem island_not_port (p : PortId) : FaultKind.island ≠ darkKind p ∧ FaultKind.island ≠ unfitKind p := by
  revert p
  decide

/-- A port that brings line fitness back in RUN. -/
theorem lineRegained_movePort {f : Port → Port} (still : ∀ m, ¬Moving s m) (running : s.running = true)
    (fit : (s.onPort p f).lineFit = true) (raised : s.active .lineUnfit = true) : LineRegained s (s.movePort p f) := by
  have running' : ((s.onPort p f).reportPort p).running = true := by simpa [State.running] using running
  have fit' : ((s.onPort p f).reportPort p).lineFit = true := (reportPort_lineFit _ p).trans fit
  have raised' : ((s.onPort p f).reportPort p).active .lineUnfit = true := (reportPort_lineUnfit _ p).trans raised
  have still' : ∀ m, ¬Moving ((s.onPort p f).reportPort p) m := fun m =>
    not_moving_of_mover (by unfold State.mover; simp) (still m)
  have regains : s.movePort p f = ((s.onPort p f).reportPort p).regainFitness := judgeFitness_regains running' fit' raised'
  rw [regains]
  exact (lineRegained still' running' fit' raised').before (by simp) (by simp) (by simp) (by simp) (by simp) (by simp)
    (by simp) (by simp) (reportPort_active_other _ (island_not_port p).1 (island_not_port p).2)

theorem crcError_ne_unfitKind (p : PortId) : unfitKind p ≠ .crcError := by
  revert p
  decide

theorem unfitKind_not_delivery (p : PortId) : unfitKind p ∉ deliveryKinds := by
  revert p
  decide

/-- Settles O19: the count of errors is countError's, that of good frames countGood's, and the eighth one's effects are
those of line fitness regained, with no mover in motion proper while it was lost. -/
theorem portsCountGoodAndBadFrames : Obligations.PortsCountGoodAndBadFrames := by
  refine ⟨fun p s hears fitness => ?_, fun p frame c s row hears whole bad => ?_, fun p frame c s good locked => ?_,
    fun p frame c s good locked eighth running raised safe fit => ?_⟩
  · have port : (announceChange s (s.takeBadFrame p)).liu.ports[p] =
        countError s.cfg s.now (seeTransition s.now s.liu.ports[p]) := by
      rw [announceChange_ports, takeBadFrame_liu]
      exact heardBad_port s p
    refine ⟨_, exec_crcError hears, announceChange_fitnessOk s (takeBadFrame_fitnessOk s p), fun q off => ?_,
      fun d seeking dwell => ?_, fun locked => ?_, fun fit within => ?_, fun fit exceeds => ⟨?_, ?_, ?_⟩, fun delivers => ?_,
      fun delivers => ?_, by simp, by simp, ?_⟩
    · rw [announceChange_ports, takeBadFrame_liu]
      exact movePort_other s off _
    · rw [port]
      exact countError_seeking (x := seeTransition s.now _) seeking dwell
    · rw [port]
      exact countError_locked (x := seeTransition s.now _) locked
    · rw [port]
      exact countError_within (x := seeTransition s.now _) fit within
    · rw [port, countError_exceeds (x := seeTransition s.now _) fit exceeds]
    · rw [port, countError_exceeds (x := seeTransition s.now _) fit exceeds]
    · rw [announceChange_active, takeBadFrame_active s (crcError_ne_unfitKind p), heardBad, movePort_unfitKind,
        countError_exceeds (x := seeTransition s.now _) fit exceeds]
      exact Bool.true_and _
    · rw [announceChange_fcl, takeBadFrame_eq, if_pos delivers]
      refine (State.activate_flags _ _ _ _).trans ((if_pos rfl).trans ?_)
      rw [heardBad, State.movePort_now]
      rfl
    · rw [announceChange_fcl, takeBadFrame_eq, if_neg (by rw [delivers]; exact Bool.false_ne_true)]
      exact crcError_not_reported s p
    · rw [announceChange_fifo, takeBadFrame_liu, heardBad, movePort_liu]
  · obtain ⟨mine, taken⟩ := exec_frameCommand row s
    rw [taken, receive_bad hears whole bad, exec_crcError hears]
  · refine ⟨_, exec_goodFrameOf good, fun q off => ?_, fun eighth => ?_, ?_⟩
    · rw [announceChange_ports, checkAndDeliver_ports]
      exact movePort_other s off _
    · rw [announceChange_active, (reports_checkAndDeliver _ _).active (unfitKind_not_delivery p)]
      refine (movePort_unfitKind s p _).trans ?_
      rw [portUnfitHolds, countGood_eighth locked eighth]
      rfl
    · rw [announceChange_ports, checkAndDeliver_ports]
      exact (movePort_port s p _).trans (countGood_locked locked)
  · have unfit : s.lineFit = false := by simpa [raised] using safe.fitness running
    have still : ∀ m, ¬Moving s m := fun m moving => by
      obtain ⟨r, here, phase⟩ := moving_iff.1 moving
      obtain ⟨-, -, -, line, -⟩ := safe.moving m r here phase
      rw [unfit] at line
      cases line
    have regained : LineRegained s (s.takeGoodFrame p) := by
      refine lineRegained_movePort still running (Eq.trans (onPort_lineFit_congr ?_) fit) raised
      rw [countGood_eighth locked eighth]
    have liu : (s.takeGoodFrame p).liu = { s.liu with ports := (s.takeGoodFrame p).liu.ports } := by
      rw [State.takeGoodFrame, movePort_liu]
    refine ⟨s.takeGoodFrame p, exec_goodFrameOf good, eq_of_blocks (by simp) (by simp) (by simp) (by simp) (by simp)
      (by simp) (by simp) (by simp) (by simp), liu, regained.cleared, regained.left, regained.held, fun m => ?_,
      regained.started, regained.waits⟩
    rw [regained.claim]
    cases s.claim m <;> rfl

end Sys2Proof.Safety
end

section
/-! PROOFS. TWIN is raised once, and by two ways (O23). -/

namespace Sys2Proof.Safety

open Sys2Proof Sys2Proof.Machine

variable {s t u : State} {m x : MoverId} {r : Mover} {p : PortId}

/-! ### Movers a HALT finds in motion -/

theorem lookAgain_inMotion_of (moving : InMotion s m) (x : MoverId) : InMotion (s.lookAgain x) m := by
  by_cases same : m = x
  · subst m
    unfold State.lookAgain
    split
    · next r here =>
      split
      · by_cases cleared : Cleared s x
        · obtain ⟨y, there, -, -, phase⟩ := proceed_started cleared here
          refine ⟨y.phase, by rw [phaseOf, there]; rfl, ?_⟩
          rw [phase]
          split <;> rfl
        · rwa [proceed_of_not_cleared cleared]
      · exact moving
    · exact moving
  · obtain ⟨phase, found, motion⟩ := moving
    exact ⟨phase, by rw [← found, phaseOf, phaseOf, State.lookAgain_mover_other s x m same], motion⟩

theorem enterFaulted_inMotion_other (other : x ≠ m) (moving : InMotion s x) (reason : FaultReason) :
    InMotion (s.enterFaulted m reason) x := by
  refine lookAgain_inMotion_of ?_ _
  obtain ⟨phase, found, motion⟩ := moving
  refine ⟨phase, ?_, motion⟩
  rw [← found, phaseOf, phaseOf, State.reportReason_mover, State.releaseClaim_mover, State.removeEntry_mover,
    State.onMover_mover_other _ _ _ _ other]

theorem faultInMotion_inMotion_other (other : x ≠ m) (moving : InMotion s x) (reason : FaultReason) :
    InMotion (s.faultInMotion m reason) x := by
  unfold State.faultInMotion
  split
  · split
    · exact enterFaulted_inMotion_other other moving reason
    · exact moving
  · exact moving

/-- The mover is FAULTED for this reason, which is its last code too (R107). -/
def FaultedFor (s : State) (m : MoverId) (reason : FaultReason) : Prop :=
  ∃ r, s.mover m = some r ∧ r.phase = .faulted ∧ r.faultReason = some reason ∧ r.lastRefusal = reason.refusal

theorem faultedFor_enterFaulted (here : s.mover m = some r) (reason : FaultReason) :
    FaultedFor (s.enterFaulted m reason) m reason := by
  unfold FaultedFor
  rw [State.enterFaulted_mover, here]
  exact ⟨_, rfl, rfl, rfl, rfl⟩

theorem mover_of_inMotion (moving : InMotion s m) : ∃ r, s.mover m = some r ∧ r.phase.inMotion = true := by
  obtain ⟨phase, found, motion⟩ := moving
  obtain ⟨r, here, rfl⟩ := Option.map_eq_some_iff.1 found
  exact ⟨r, here, motion⟩

theorem inMotion_of_mover (here : s.mover m = some r) (motion : r.phase.inMotion = true) : InMotion s m :=
  ⟨r.phase, by rw [phaseOf, here]; rfl, motion⟩

theorem faultInMotion_of_inMotion (moving : InMotion s m) (reason : FaultReason) :
    s.faultInMotion m reason = s.enterFaulted m reason := by
  obtain ⟨r, here, motion⟩ := mover_of_inMotion moving
  unfold State.faultInMotion
  rw [here]
  exact if_pos motion

/-- A FAULTED mover is left alone by what is done to the other one. -/
theorem lookAgain_faultedFor {reason : FaultReason} (h : FaultedFor s m reason) (x : MoverId) :
    FaultedFor (s.lookAgain x) m reason := by
  obtain ⟨r, here, faulted, rest⟩ := h
  by_cases same : x = m
  · subst x
    unfold State.lookAgain
    rw [here]
    dsimp only
    rw [if_neg (by rw [faulted]; rintro ⟨e, -⟩; cases e)]
    exact ⟨r, here, faulted, rest⟩
  · exact ⟨r, (State.lookAgain_mover_other s x m (Ne.symm same)).trans here, faulted, rest⟩

theorem faultInMotion_faultedFor {reason why : FaultReason} (h : FaultedFor s m reason) (other : m ≠ x) :
    FaultedFor (s.faultInMotion x why) m reason := by
  unfold State.faultInMotion
  split
  · split
    · refine lookAgain_faultedFor ?_ _
      obtain ⟨r, here, rest⟩ := h
      refine ⟨r, ?_, rest⟩
      rw [State.reportReason_mover, State.releaseClaim_mover, State.removeEntry_mover,
        State.onMover_mover_other _ _ _ _ other, here]
    · exact h
  · exact h

/-- A HALT faults every mover it finds in motion (R109). -/
theorem haltMovers_faultedFor (moving : InMotion s m) : FaultedFor s.haltMovers m .halted := by
  show FaultedFor ((s.faultInMotion 0 .halted).faultInMotion 1 .halted) m .halted
  obtain rfl | rfl := mover_cases m
  · obtain ⟨r, here, -⟩ := mover_of_inMotion moving
    rw [faultInMotion_of_inMotion moving]
    exact faultInMotion_faultedFor (faultedFor_enterFaulted here .halted) (by decide)
  · have still : InMotion (s.faultInMotion 0 .halted) 1 := faultInMotion_inMotion_other (by decide) moving .halted
    obtain ⟨r, here, -⟩ := mover_of_inMotion still
    rw [faultInMotion_of_inMotion still]
    exact faultedFor_enterFaulted here .halted

/-! ### TWIN -/

/-- What TWIN, raised, leaves (R15, R34, R35, R109). -/
structure TwinRaised (s t : State) : Prop where
  twin : t.active .twin = true
  slot : t.liu.slot = none
  fifo : t.liu.fifo = []
  ports : t.liu.ports = s.liu.ports
  offers : t.sbu.offers = []
  island : t.sbu.island = some .twin
  shown : t.active .island = true
  entries : ∀ d ∈ t.sbu.demands, d.ceiling = some d.drawing ∧ d.pending = none
  halted : ∀ m, InMotion s m → FaultedFor t m .halted
  still : Still t

theorem enterIsland_sbu (s : State) (cause : IslandCause) : (s.enterIsland cause).sbu =
    { s.sbu with demands := s.sbu.demands.map islandEntry, offers := [], island := some cause } := by
  unfold State.enterIsland
  rw [State.raiseCond_sbu]

theorem enterIsland_active (s : State) (cause : IslandCause) : (s.enterIsland cause).active .island = true :=
  (State.raiseCond_active _ _ _).trans (if_pos rfl)

theorem raiseHalt_of_clear {k : FaultKind} (clear : s.active k = false) : s.raiseHalt k = (s.raiseCond k).haltMovers :=
  if_neg (by rw [clear]; exact Bool.false_ne_true)

theorem raiseHalt_active (s : State) {k : FaultKind} (other : k ∉ moverKinds) : (s.raiseHalt k).active k = true := by
  cases clear : s.active k with
  | true => rwa [State.raiseHalt, if_pos clear]
  | false =>
    rw [raiseHalt_of_clear clear, (reports_haltMovers _).active other]
    exact (State.raiseCond_active _ _ _).trans (if_pos rfl)

theorem raiseTwin_eq (clear : s.active .twin = false) :
    s.raiseTwin = (s.emptyQueue.raiseCond .twin).haltMovers.enterIsland .twin := by
  have empty : s.emptyQueue.active .twin = false := clear
  rw [← raiseHalt_of_clear empty]
  exact if_neg (by rw [clear]; exact Bool.false_ne_true)

theorem twinRaised (clear : s.active .twin = false) : TwinRaised s s.raiseTwin := by
  have empty : s.emptyQueue.active .twin = false := clear
  have halted : ∀ m, InMotion s m → FaultedFor (s.emptyQueue.raiseCond .twin).haltMovers m .halted := fun m moving =>
    haltMovers_faultedFor (by
      obtain ⟨phase, found, motion⟩ := moving
      exact ⟨phase, (phaseOf_of_mvu (by simp) m).trans found, motion⟩)
  have still := still_haltMovers (s.emptyQueue.raiseCond .twin)
  have active : (s.emptyQueue.raiseCond .twin).haltMovers.active .twin = true :=
    raiseHalt_of_clear empty ▸ raiseHalt_active s.emptyQueue (by decide)
  have liu : s.raiseTwin.liu = s.emptyQueue.liu := raiseTwin_liu clear
  rw [raiseTwin_eq clear] at liu ⊢
  generalize (s.emptyQueue.raiseCond .twin).haltMovers = h at halted still active liu ⊢
  have sbu := enterIsland_sbu h .twin
  refine ⟨?_, by rw [liu]; rfl, by rw [liu]; rfl, by rw [liu]; rfl, by rw [sbu], by rw [sbu], enterIsland_active h _, ?_,
    fun m moving => ?_, fun m moving => still m ?_⟩
  · exact ((reports_enterIsland h .twin).active (by decide)).trans active
  · rw [sbu]
    rintro d mem
    obtain ⟨e, -, rfl⟩ := List.mem_map.1 mem
    exact ⟨rfl, rfl⟩
  · obtain ⟨r, here, rest⟩ := halted m moving
    exact ⟨r, by rw [← here]; unfold State.mover; simp, rest⟩
  · exact moving.of_phase (phaseOf_of_mvu (by simp) m)

/-- Nothing is composed while TWIN is active (R15, R155). -/
theorem compose_of_twin (twin : s.active .twin = true) : s.compose = s := by
  refine if_neg ?_
  simp [State.mayTransmit, twin]

theorem announceChange_of_twin (before : State) (twin : t.active .twin = true) : announceChange before t = t := by
  unfold announceChange
  split
  · rfl
  · exact compose_of_twin twin

/-! ### The second mismatch -/

theorem exec_echoMismatch {a : Attempt} (sending : (s.liu.ports[p]).attempt = some a) :
    exec (.echoMismatch p) s = .next (announceChange s (s.mismatchFrame p a)) := by
  show execEchoMismatch p s = _
  rw [execEchoMismatch, sending]

/-- Settles O23: mismatchFrame by the queue's record, and TWIN as raiseTwin leaves it. -/
theorem twinIsDetectedTwoWays : Obligations.TwinIsDetectedTwoWays := by
  refine ⟨fun p s a sending => ⟨fun gone => ?_, fun q queued first => ?_, fun q queued second clear => ?_⟩,
    fun p frame own a s good number halt => ?_⟩
  · have ended : s.mismatchFrame p a = s.onPort p (endAttempt s.now) := by
      rw [State.mismatchFrame, gone]
    rw [exec_echoMismatch sending, ended]
    exact congrArg Host.Outcome.next (announceChange_of_same rfl)
  · have marked : s.mismatchFrame p a = (s.onPort p (endAttempt s.now)).onQueued a.serial (markMismatch p) := by
      rw [State.mismatchFrame, queued]
      exact if_neg (by rw [first]; exact Bool.false_ne_true)
    rw [exec_echoMismatch sending, marked]
    exact congrArg Host.Outcome.next (announceChange_of_same rfl)
  · have raised : s.mismatchFrame p a = (s.onPort p (endAttempt s.now)).raiseTwin := by
      rw [State.mismatchFrame, queued]
      exact if_pos second
    have twin : TwinRaised (s.onPort p (endAttempt s.now)) (s.onPort p (endAttempt s.now)).raiseTwin := twinRaised clear
    refine ⟨(s.onPort p (endAttempt s.now)).raiseTwin, ?_, twin.twin, twin.slot, twin.fifo, twin.ports, twin.offers,
      twin.island, twin.shown, twin.entries, fun m r here motion => ?_⟩
    · rw [exec_echoMismatch sending, raised, announceChange_of_twin s twin.twin]
    · obtain ⟨u, there, faulted, reason, -⟩ := twin.halted m (inMotion_of_mover here motion)
      exact ⟨u, there, faulted, reason⟩
  · obtain ⟨hears, delivers, whole, crc, parsed⟩ := good
    have clear : s.active .twin = false := by
      simp only [State.haltActive, Bool.or_eq_false_iff] at halt
      obtain ⟨⟨⟨-, twin⟩, -⟩, -⟩ := halt
      exact twin
    have heard : (s.takeGoodFrame p).active .twin = false := ((reports_movePort s p _).active (by decide)).trans clear
    have delivered : (s.takeGoodFrame p).checkAndDeliver frame = (s.takeGoodFrame p).raiseTwin := by
      have on : (s.takeGoodFrame p).delivers = true := by simpa [State.delivers, State.working] using delivers
      unfold State.checkAndDeliver
      rw [if_pos on, parsed]
      refine if_pos ?_
      simpa using number
    have twin := twinRaised heard
    refine ⟨(s.takeGoodFrame p).raiseTwin, ?_, by simp, twin.twin, twin.slot, twin.fifo, twin.offers, twin.island,
      fun m r here => ?_, by simp, ?_⟩
    · show exec (rowOf p frame (.announce own a)) s = _
      rw [exec_goodFrameOf ⟨hears, whole, crc, .inr ⟨_, parsed, rfl⟩⟩, delivered, announceChange_of_twin s twin.twin]
    · exact Bool.eq_false_iff.2 fun motion => twin.still m (inMotion_of_mover here motion)
    · simp [State.mayTransmit, twin.twin]

end Sys2Proof.Safety
end

section
/-! PROOFS. The transmit queue: which frame a port starts, which DRIVE leaves (O22), and what a completion leaves (O24). -/

namespace Sys2Proof.Safety

open Sys2Proof Sys2Proof.Machine

variable {s t u : State} {p : PortId}

/-! ### The frame a port starts -/

theorem kindCode_mem (f : Frame) : f.kindCode ∈ ([1, 2, 3, 4, 5] : List Nat) := by
  cases f <;> simp [Frame.kindCode]

/-- The search by kind: what it finds comes before nothing of a lower kind, and after only higher kinds (R158). -/
theorem findSome_kind {α : Type} {kind : α → Nat} {kinds : List Nat} (ordered : kinds.Pairwise (· < ·)) {l : List α} {q : α}
    (known : ∀ x ∈ l, kind x ∈ kinds)
    (found : (kinds.findSome? fun k => l.find? fun x => decide (kind x = k)) = some q) :
    ∃ pre post, l = pre ++ q :: post ∧ (∀ x ∈ pre, kind q < kind x) ∧ ∀ x ∈ post, kind q ≤ kind x := by
  obtain ⟨lower, k, higher, split, first, none⟩ := List.findSome?_eq_some_iff.1 found
  obtain ⟨same, pre, post, parts, others⟩ := List.find?_eq_some_iff_append.1 first
  have kind_q : kind q = k := by simpa using same
  subst kinds
  have least : ∀ x ∈ l, k ≤ kind x := fun x mem => by
    rcases List.mem_append.1 (known x mem) with low | high
    · have missed := List.find?_eq_none.1 (none _ low) x mem
      simp at missed
    · rcases List.mem_cons.1 high with e | high
      · exact e.ge
      · have after := (List.pairwise_cons.1 (List.pairwise_append.1 ordered).2.1).1
        exact (after _ high).le
  refine ⟨pre, post, parts, fun x mem => ?_, fun x mem => ?_⟩
  · rw [kind_q]
    refine lt_of_le_of_ne (least x (by rw [parts]; simp [mem])) fun e => ?_
    have other := others x mem
    simp [e] at other
  · rw [kind_q]
    exact least x (by rw [parts]; simp [mem])

theorem findSome_kind_none {α : Type} {kind : α → Nat} {kinds : List Nat} {l : List α}
    (known : ∀ x ∈ l, kind x ∈ kinds)
    (missed : (kinds.findSome? fun k => l.find? fun x => decide (kind x = k)) = none) : l = [] := by
  refine List.eq_nil_iff_forall_not_mem.2 fun x mem => ?_
  have none := List.find?_eq_none.1 (List.findSome?_eq_none_iff.1 missed _ (known x mem)) x mem
  simp at none

theorem canStart_of (permitted : s.mayTransmit = true) (awake : (s.liu.ports[p]).state ≠ .dark)
    (idle : (s.liu.ports[p]).attempt = none) : s.canStart p = true := by
  rw [State.canStart, permitted, idle, decide_eq_true awake]
  rfl

theorem exec_transmitStart (start : s.canStart p = true) : exec (.transmitStart p) s = .next
    (match s.chooseFrame p with
    | some q => s.onPort p fun x => { x with attempt := some { serial := q.serial, frame := q.frame } }
    | none => s) := congrArg Host.Outcome.next (if_pos start)

theorem chooseFrame_none (empty : s.candidates p = []) : s.chooseFrame p = none := by
  unfold State.chooseFrame
  rw [empty]
  rfl

theorem chooseFrame_some (open' : s.candidates p ≠ []) : ∃ q, s.chooseFrame p = some q ∧ ∃ pre post,
    s.candidates p = pre ++ q :: post ∧ (∀ x ∈ pre, q.frame.kindCode < x.frame.kindCode) ∧
      ∀ x ∈ post, q.frame.kindCode ≤ x.frame.kindCode := by
  have known : ∀ x ∈ s.candidates p, x.frame.kindCode ∈ ([1, 2, 3, 4, 5] : List Nat) := fun x _ => kindCode_mem _
  cases chosen : s.chooseFrame p with
  | none => exact absurd (findSome_kind_none known chosen) open'
  | some q => exact ⟨q, rfl, findSome_kind (by decide) known chosen⟩

/-! ### The DRIVE that leaves -/

theorem find_driveDue {pre post : List Queued} {q : Queued} {now : Nat}
    (young : ∀ x ∈ pre, ¬(x.frame.kindCode = 1 ∧ x.queuedAt + 200 ≤ now)) (drive : q.frame.kindCode = 1)
    (old : q.queuedAt + 200 ≤ now) : (pre ++ q :: post).find? (driveDue now) = some q := by
  refine List.find?_eq_some_iff_append.2 ⟨?_, pre, post, rfl, fun x mem => ?_⟩
  · rw [driveDue, drive]
    exact decide_eq_true old
  · have off : driveDue now x = false := by
      refine Bool.eq_false_iff.2 fun due => young x mem ?_
      rwa [driveDue, Bool.and_eq_true, decide_eq_true_eq, decide_eq_true_eq] at due
    rw [off]
    rfl

theorem filter_serial {pre post : List Queued} {q : Queued} (once : ((pre ++ q :: post).map fun x => x.serial).Nodup) :
    (pre ++ q :: post).filter (fun x => x.serial ≠ q.serial) = pre ++ post := by
  rw [List.map_append, List.map_cons, List.nodup_append] at once
  obtain ⟨-, later, apart⟩ := once
  rw [List.nodup_cons] at later
  obtain ⟨alone, -⟩ := later
  have before : pre.filter (fun x => x.serial ≠ q.serial) = pre := List.filter_eq_self.2 fun x mem =>
    decide_eq_true (apart _ (List.mem_map_of_mem mem) _ (by simp))
  have after : post.filter (fun x => x.serial ≠ q.serial) = post := List.filter_eq_self.2 fun x mem =>
    decide_eq_true fun e => alone (e ▸ List.mem_map_of_mem mem)
  rw [List.filter_append, before, List.filter_cons_of_neg (by simp), after]

theorem sent_anywhere (q : Queued) : allPorts.any (fun p => q.sent[p]) = true ↔
    q.sent[(0 : PortId)] = true ∨ q.sent[(1 : PortId)] = true := by
  show (q.sent[(0 : PortId)] || (q.sent[(1 : PortId)] || false)) = true ↔ _
  rw [Bool.or_false, Bool.or_eq_true]

theorem not_sent {q : Queued} (first : q.sent[(0 : PortId)] = false) (second : q.sent[(1 : PortId)] = false) :
    ¬allPorts.any (fun p => q.sent[p]) = true := by
  rw [sent_anywhere, first, second]
  simp

/-- Settles O22: chooseFrame is the search by kind over the candidates, and ageDrive takes the first aged DRIVE. -/
theorem queueStartsByKindAndAgesDrives : Obligations.QueueStartsByKindAndAgesDrives := by
  refine ⟨fun p s permitted awake idle => ⟨fun empty => ?_, fun full => ?_⟩,
    fun s pre post q fifo once young drive old => ?_⟩
  · rw [exec_transmitStart (canStart_of permitted awake idle), chooseFrame_none empty]
  · obtain ⟨q, chosen, pre, post, parts, before, after⟩ := chooseFrame_some (s := s) (p := p) full
    refine ⟨q, pre, post, parts, before, after, ?_⟩
    rw [exec_transmitStart (canStart_of permitted awake idle), chosen]
  · have aged : s.ageDrive =
        if allPorts.any (fun p => q.sent[p]) then { s with liu := { s.liu with fifo := pre ++ post } }
        else State.raiseEvent { s with liu := { s.liu with fifo := pre ++ post } } .driveStale := by
      unfold State.ageDrive
      rw [fifo, find_driveDue young drive old]
      dsimp only
      rw [filter_serial (fifo ▸ once)]
    refine ⟨s.ageDrive, rfl, ?_, fun sent => ?_, fun a b => ?_⟩
    · rw [aged]
      split <;> rfl
    · rw [aged, if_pos ((sent_anywhere q).2 sent)]
    · rw [aged, if_neg (not_sent a b)]
      exact occurredNow_raiseEvent { s with liu := { s.liu with fifo := pre ++ post } } .driveStale

/-! ### A completion -/

/-- What the offers of a completed ANNOUNCE make of an entry (R31). -/
def pendEntry (now : Nat) (offers : List (Source × Nat)) (d : Demand) : Demand :=
  match offers.find? fun o => o.1 = d.source with
  | some o => if d.settled < min o.2 d.want then { d with pending := some (min o.2 d.want, now) } else d
  | none => d

/-- Where each source is offered once, each entry meets its own offer alone. -/
theorem foldl_pend {offers : List (Source × Nat)} (once : (offers.map fun o => o.1).Nodup) (now : Nat) (l : List Demand) :
    offers.foldl (pend now) l = l.map (pendEntry now offers) := by
  induction offers generalizing l with
  | nil => exact (List.map_id l).symm
  | cons o offers ih =>
    rw [List.map_cons, List.nodup_cons] at once
    obtain ⟨alone, once⟩ := once
    rw [List.foldl_cons, ih once, pend, mapSource, List.map_map]
    refine List.map_congr_left fun d _ => ?_
    have gone : (offers.find? fun x => decide (x.1 = o.1)) = none :=
      List.find?_eq_none.2 fun x mem e => alone (List.mem_map.2 ⟨x, mem, of_decide_eq_true e⟩)
    rw [Function.comp_apply]
    by_cases own : d.source = o.1
    · have other : ∀ e : Demand, e.source = o.1 → pendEntry now offers e = e := fun e same => by
        unfold pendEntry
        rw [same, gone]
      rw [if_pos own, other _ (by split <;> exact own)]
      unfold pendEntry
      rw [List.find?_cons_of_pos (p := fun x : Source × Nat => decide (x.1 = d.source)) (decide_eq_true own.symm)]
    · rw [if_neg own]
      unfold pendEntry
      rw [List.find?_cons_of_neg (p := fun x : Source × Nat => decide (x.1 = d.source)) (by simpa using Ne.symm own)]

theorem exec_frameCompletion {a : Attempt} (sending : (s.liu.ports[p]).attempt = some a) :
    exec (.frameCompletion p) s = .next (s.completeFrame p a) := by
  show execFrameCompletion p s = _
  rw [execFrameCompletion, sending]

theorem completeFrame_gone {a : Attempt} (gone : s.queuedOf a.serial = none) :
    s.completeFrame p a = s.onPort p (endAttempt s.now) := by
  rw [State.completeFrame, gone]

/-- The station as a completed frame is marked sent. -/
def markedSent (s : State) (p : PortId) (a : Attempt) : State :=
  (s.onPort p (endAttempt s.now)).onQueued a.serial (markSent p)

theorem completeFrame_first {a : Attempt} {q : Queued} (queued : s.queuedOf a.serial = some q)
    (slot : s.inSlot a.serial = true) (first : ¬allPorts.any (fun x => q.sent[x]) = true) :
    s.completeFrame p a = (markedSent s p a).takeOffers.judgeDepartures := by
  rw [State.completeFrame, queued]
  refine congrArg State.judgeDepartures (if_pos ?_)
  rw [slot, Bool.not_eq_true _ |>.mp first]
  rfl

theorem completeFrame_later {a : Attempt} {q : Queued} (queued : s.queuedOf a.serial = some q)
    (later : s.inSlot a.serial = false ∨ allPorts.any (fun x => q.sent[x]) = true) :
    s.completeFrame p a = (markedSent s p a).judgeDepartures := by
  rw [State.completeFrame, queued]
  refine congrArg State.judgeDepartures (if_neg ?_)
  rcases later with out | sent
  · rw [out]
    exact Bool.false_ne_true
  · rw [sent, Bool.not_true, Bool.and_false]
    exact Bool.false_ne_true

theorem inSlot_iff {serial : Nat} : s.inSlot serial = true ↔ ∃ x, s.liu.slot = some x ∧ x.serial = serial := by
  unfold State.inSlot
  split
  · next q slot => simp [slot]
  · next none => simp [none]

/-- Whichever way it goes, the queue's records are marked and departures judged; the budget takes offers or stands. -/
theorem completeFrame_queued {a : Attempt} {q : Queued} (queued : s.queuedOf a.serial = some q) :
    (s.completeFrame p a).liu = (markedSent s p a).judgeDepartures.liu := by
  by_cases first : s.inSlot a.serial = true ∧ ¬allPorts.any (fun x => q.sent[x]) = true
  · rw [completeFrame_first queued first.1 first.2]
    rfl
  · rw [completeFrame_later queued]
    rw [not_and_or, Bool.not_eq_true, not_not] at first
    exact first

/-- Settles O24: the frame is marked and departures judged, and at the first completion of the slot's ANNOUNCE each entry
meets its offer. -/
theorem completionMarksSettlesAndDeparts : Obligations.CompletionMarksSettlesAndDeparts := by
  intro p s a sending
  have ports : (s.completeFrame p a).liu.ports = (s.onPort p (endAttempt s.now)).liu.ports := by
    cases queued : s.queuedOf a.serial with
    | none => rw [completeFrame_gone queued]
    | some q => rw [completeFrame_queued queued]; rfl
  refine ⟨_, exec_frameCompletion sending, ?_, ports, fun gone => ?_, fun q queued => ⟨?_, ?_, fun slot first second => ?_,
    fun out => ?_, fun sent => ?_⟩⟩
  · unfold State.completeFrame
    split
    · rfl
    · dsimp only
      split <;> rfl
  · rw [completeFrame_gone gone]
    exact ⟨rfl, rfl⟩
  · rw [completeFrame_queued queued]
    rfl
  · rw [completeFrame_queued queued]
    rfl
  · rw [completeFrame_first queued (inSlot_iff.2 slot) (not_sent first second)]
    exact ⟨rfl, rfl, fun once => foldl_pend once s.now s.sbu.demands⟩
  · rw [completeFrame_later queued (.inl (Bool.eq_false_iff.2 fun on => out (inSlot_iff.1 on)))]
    rfl
  · rw [completeFrame_later queued (.inr ((sent_anywhere q).2 sent))]
    rfl

end Sys2Proof.Safety
end

section
/-! PROOFS. The supply budget in closed form: the grants (O11), the allocation (O12), settling and the entry into island
mode (O13). -/

namespace Sys2Proof.Safety

open Sys2Proof Sys2Proof.Machine

variable {s t : State}

/-! ### The waterfall -/

/-- What a class is granted of a remainder, where the classes before it total this much (R26). -/
def fill (rem before : Nat) (p : Nat × Nat) : Nat :=
  if before + p.2 ≤ rem then p.1 else if before ≤ rem then p.1 * (rem - before) / p.2 else 0

theorem fill_none (rem before : Nat) : fill rem before (0, 0) = 0 := by simp [fill]

/-- A class that fits leaves its remainder to the next. -/
theorem fill_after {rem total : Nat} (fits : total ≤ rem) (before : Nat) (p : Nat × Nat) :
    fill (rem - total) before p = fill rem (total + before) p := by
  unfold fill
  rw [Nat.sub_sub]
  congr 1
  · simp only [eq_iff_iff]; omega
  · congr 1
    simp only [eq_iff_iff]; omega

/-- Below a class that does not fit there is nothing left. -/
theorem fill_beyond {rem before : Nat} (spent : rem < before) (p : Nat × Nat) : fill rem before p = 0 := by
  unfold fill
  rw [if_neg (by omega), if_neg (by omega)]

theorem fill_le (rem before : Nat) {p : Nat × Nat} : fill rem before p ≤ p.1 := by
  unfold fill
  split
  · exact Nat.le_refl _
  · split
    · refine Nat.div_le_of_le_mul ?_
      rw [Nat.mul_comm]
      exact Nat.mul_le_mul_right _ (by omega)
    · exact Nat.zero_le _

theorem waterfall_getD (l : List (Nat × Nat)) (rem i : Nat) :
    (waterfall rem l).getD i 0 = fill rem ((l.take i).map fun p => p.2).sum (l.getD i (0, 0)) := by
  induction l generalizing rem i with
  | nil => simp [waterfall, fill_none]
  | cons p l ih =>
    obtain ⟨own, total⟩ := p
    unfold waterfall
    by_cases fits : total ≤ rem
    · rw [if_pos fits]
      cases i with
      | zero => simp [fill, fits]
      | succ i =>
        rw [List.getD_cons_succ, List.getD_cons_succ, ih, fill_after fits]
        simp
    · rw [if_neg fits]
      cases i with
      | zero => simp [fill, fits]
      | succ i =>
        rw [List.getD_cons_succ, List.take_succ_cons, List.map_cons, List.sum_cons, fill_beyond (by omega)]
        simp [List.getD_eq_getElem?_getD]

theorem waterfall_length (l : List (Nat × Nat)) (rem : Nat) : (waterfall rem l).length = l.length := by
  induction l generalizing rem with
  | nil => rfl
  | cons p l ih =>
    unfold waterfall
    split
    · simp [ih]
    · simp

/-- The classes of a waterfall together stay within what it starts from. -/
theorem waterfall_sum_le (l : List (Nat × Nat)) (within : ∀ p ∈ l, p.1 ≤ p.2) (rem : Nat) : (waterfall rem l).sum ≤ rem := by
  induction l generalizing rem with
  | nil => exact Nat.zero_le _
  | cons p l ih =>
    obtain ⟨own, total⟩ := p
    have first : own ≤ total := within (own, total) (by simp)
    unfold waterfall
    split
    · have rest := ih (fun q mem => within q (by simp [mem])) (rem - total)
      rw [List.sum_cons]
      omega
    · have none : (l.map fun _ => 0).sum = 0 := by simp
      rw [List.sum_cons, none, Nat.add_zero]
      refine Nat.div_le_of_le_mul ?_
      exact Nat.mul_le_mul_right _ first

/-! ### Sums -/

theorem wantSum_eq (k : Fin 8) (l : List Demand) :
    wantSum k l = ((l.filter fun d => d.cls = k).map fun d => d.want).sum := by
  induction l with
  | nil => rfl
  | cons d l ih =>
    unfold wantSum
    rw [ih, List.filter_cons]
    by_cases own : d.cls = k
    · rw [if_pos own, if_pos (decide_eq_true own), List.map_cons, List.sum_cons]
    · rw [if_neg own, if_neg (by simpa using own), Nat.zero_add]

theorem ownDemand_eq (k : Fin 8) (l : List Demand) :
    ownDemand l k = min 4095 ((l.filter fun d => d.cls = k).map fun d => d.want).sum := by
  rw [ownDemand, wantSum_eq]
  rfl

theorem sum_filterMap {α : Type} (f : α → Nat) (l : List (Option α)) :
    ((l.filterMap id).map f).sum = (l.map fun o => (o.map f).getD 0).sum := by
  induction l with
  | nil => rfl
  | cons o l ih =>
    cases o with
    | none => simpa using ih
    | some a => simpa using ih

/-- A sum over the records is one over the slots, an ABSENT slot counting nothing. -/
theorem sum_records (f : PeerRec → Nat) (s : State) :
    (s.records.map f).sum = ((List.finRange 48).map fun i : SlotId => (s.ptu.peers[i].map f).getD 0).sum := by
  have slots : s.ptu.peers.toList = (List.finRange 48).map fun i : SlotId => s.ptu.peers[i] := by
    refine List.ext_getElem (by simp) fun i _ _ => by simp
  rw [State.records, sum_filterMap, slots, List.map_map]
  rfl

/-! ### The supply -/

/-- The smallest over a list, a value taken by one of its members or the one it starts from. -/
theorem foldl_min {cfg : Cfg} (l : List PeerRec) (start : Nat) :
    let S := l.foldl (fun acc r => if r.status = .live then min acc (capacityOf cfg r.ann.profile) else acc) start
    S ≤ start ∧ (∀ r ∈ l, r.status = .live → S ≤ capacityOf cfg r.ann.profile) ∧
      (S = start ∨ ∃ r ∈ l, r.status = .live ∧ S = capacityOf cfg r.ann.profile) := by
  induction l generalizing start with
  | nil => exact ⟨Nat.le_refl _, fun r mem => absurd mem List.not_mem_nil, .inl rfl⟩
  | cons r l ih =>
    rw [List.foldl_cons]
    by_cases live : r.status = .live
    · rw [if_pos live]
      obtain ⟨bound, each, taken⟩ := ih (min start (capacityOf cfg r.ann.profile))
      refine ⟨bound.trans (Nat.min_le_left _ _), fun x mem on => ?_, ?_⟩
      · rcases List.mem_cons.1 mem with rfl | mem
        · exact bound.trans (Nat.min_le_right _ _)
        · exact each x mem on
      · rcases taken with e | ⟨x, mem, on, e⟩
        · rcases Nat.le_total start (capacityOf cfg r.ann.profile) with le | le
          · exact .inl (e.trans (Nat.min_eq_left le))
          · exact .inr ⟨r, List.mem_cons_self, live, e.trans (Nat.min_eq_right le)⟩
        · exact .inr ⟨x, List.mem_cons_of_mem _ mem, on, e⟩
    · rw [if_neg live]
      obtain ⟨bound, each, taken⟩ := ih start
      refine ⟨bound, fun x mem on => ?_, taken.imp id fun ⟨x, mem, rest⟩ => ⟨x, List.mem_cons_of_mem _ mem, rest⟩⟩
      rcases List.mem_cons.1 mem with rfl | mem
      · exact absurd on live
      · exact each x mem on

/-! ### The grants -/

theorem eight_get (l : List Nat) (k : Fin 8) : (eight l)[k] = l.getD k.val 0 := by
  match k with
  | 0 | 1 | 2 | 3 | 4 | 5 | 6 | 7 => rfl

theorem lowerClasses_get : ∀ k : Fin 8, k ≠ 0 → lowerClasses[k.val - 1]? = some k := by decide

theorem classes_above : ∀ k : Fin 8, k ≠ 0 →
    ((List.finRange 8).filter fun j => j < k) = 0 :: lowerClasses.take (k.val - 1) := by decide

theorem classes_below : ((List.finRange 8).filter fun k => k ≠ 0) = lowerClasses := by decide

/-- The totals of the classes before class k. -/
def totalAbove (s : State) (k : Fin 8) : Nat := (((List.finRange 8).filter fun j => j < k).map s.judgedTotal).sum

theorem computeGrants_lower {k : Fin 8} (lower : k ≠ 0) : s.computeGrants[k] =
    fill s.judgedSupply (totalAbove s k) (ownDemand s.sbu.demands k, s.judgedTotal k) ∨
      s.judgedSupply < s.judgedTotal 0 ∧ s.computeGrants[k] =
        fill 0 ((lowerClasses.take (k.val - 1)).map s.judgedTotal).sum (ownDemand s.sbu.demands k, s.judgedTotal k) := by
  have place : k.val = (k.val - 1) + 1 := by
    have : k.val ≠ 0 := fun e => lower (Fin.ext e)
    omega
  have filled : s.computeGrants[k] =
      fill (s.judgedSupply - s.judgedTotal 0) ((lowerClasses.take (k.val - 1)).map s.judgedTotal).sum
        (ownDemand s.sbu.demands k, s.judgedTotal k) := by
    rw [State.computeGrants, eight_get, place, List.getD_cons_succ, waterfall_getD, ← List.map_take, List.map_map,
      List.getD_eq_getElem?_getD, List.getElem?_map, lowerClasses_get k lower]
    rfl
  rw [filled, totalAbove, classes_above k lower, List.map_cons, List.sum_cons]
  by_cases fits : s.judgedTotal 0 ≤ s.judgedSupply
  · exact .inl (fill_after fits _ _)
  · exact .inr ⟨by omega, by rw [Nat.sub_eq_zero_of_le (by omega)]⟩

theorem ownDemand_le_total (s : State) (k : Fin 8) : ownDemand s.sbu.demands k ≤ s.judgedTotal k := by
  unfold State.judgedTotal
  split
  · exact Nat.le_refl _
  · exact Nat.le_add_right _ _

/-- A class draws on what the totals before it leave of the supply (R25, R26). -/
theorem computeGrants_get {k : Fin 8} (lower : k ≠ 0) : s.computeGrants[k] =
    fill s.judgedSupply (totalAbove s k) (ownDemand s.sbu.demands k, s.judgedTotal k) := by
  obtain e | ⟨short, e⟩ := computeGrants_lower (s := s) lower
  · exact e
  · have above : s.judgedTotal 0 ≤ totalAbove s k := by
      rw [totalAbove, classes_above k lower, List.map_cons, List.sum_cons]
      exact Nat.le_add_right _ _
    have own := ownDemand_le_total s k
    rw [e, fill_beyond (show s.judgedSupply < totalAbove s k by omega)]
    unfold fill
    dsimp only
    split
    · omega
    · simp

theorem computeGrants_zero (s : State) : s.computeGrants[(0 : Fin 8)] = ownDemand s.sbu.demands 0 := rfl

theorem computeGrants_le (s : State) (k : Fin 8) : s.computeGrants[k] ≤ ownDemand s.sbu.demands k := by
  by_cases zero : k = 0
  · subst k
    exact Nat.le_of_eq (computeGrants_zero s)
  · rw [computeGrants_get zero]
    exact fill_le _ _

theorem eight_lower (a : Nat) {l : List Nat} (seven : l.length = 7) :
    (lowerClasses.map fun k => (eight (a :: l))[k]) = l := by
  match l, seven with
  | [_, _, _, _, _, _, _], _ => rfl

theorem computeGrants_sum_le (s : State) :
    (((List.finRange 8).filter fun k => k ≠ 0).map fun k => s.computeGrants[k]).sum ≤ s.judgedSupply - s.judgedTotal 0 := by
  rw [classes_below, State.computeGrants, eight_lower _ (by rw [waterfall_length]; rfl)]
  refine waterfall_sum_le _ (fun p mem => ?_) _
  obtain ⟨k, -, rfl⟩ := List.mem_map.1 mem
  exact ownDemand_le_total s k

theorem capacityInUse_least (s : State) :
    s.capacityInUse ≤ capacityOf s.cfg s.sbu.profile ∧
      (∀ r ∈ s.records, r.status = .live → s.capacityInUse ≤ capacityOf s.cfg r.ann.profile) ∧
      (s.capacityInUse = capacityOf s.cfg s.sbu.profile ∨
        ∃ r ∈ s.records, r.status = .live ∧ s.capacityInUse = capacityOf s.cfg r.ann.profile) := foldl_min _ _

/-- Settles O11: the grants are the waterfall's, the totals sums over the slots, the supply the smallest capacity. -/
theorem grantsFillTheClassesInOrder : Obligations.GrantsFillTheClassesInOrder := by
  intro s
  dsimp only
  refine ⟨fun k => ?_, fun island => ⟨?_, fun k => ?_⟩, fun line => ⟨fun k => ?_, s.capacityInUse, ?_, ?_⟩,
    computeGrants_sum_le s, fun k => ?_⟩
  · split
    · next zero =>
      subst k
      exact (computeGrants_zero s).trans (ownDemand_eq 0 _)
    · next lower =>
      rw [← ownDemand_eq]
      exact computeGrants_get lower
  · rw [State.judgedSupply, if_pos island]
  · rw [State.judgedTotal, if_pos island, ownDemand_eq]
  · rw [State.judgedTotal, if_neg (by rw [line]; exact Bool.false_ne_true), State.classTotal, ownDemand_eq, sum_records]
    congr 2
    refine List.map_congr_left fun i _ => ?_
    cases s.ptu.peers[i] <;> rfl
  · rw [State.judgedSupply, if_neg (by rw [line]; exact Bool.false_ne_true), State.available]
  · obtain ⟨bound, each, taken⟩ := capacityInUse_least s
    refine ⟨bound, fun i r here => each r ((s.mem_records r).2 ⟨i, here⟩), taken.imp id fun ⟨r, mem, live, e⟩ => ?_⟩
    obtain ⟨i, here⟩ := (s.mem_records r).1 mem
    exact ⟨i, r, here, live, e⟩
  · rw [← ownDemand_eq]
    exact computeGrants_le s k

/-! ### The allocation -/

/-- The grants that are left after an allocation of a list's beginning. -/
theorem allocate_append (cfg : Cfg) (pre l : List Demand) (g : Vector Nat 8) :
    ∃ g' : Vector Nat 8, allocate cfg g (pre ++ l) = allocate cfg g pre ++ allocate cfg g' l ∧
      ∀ k : Fin 8, k ≠ 0 → g'[k] = g[k] - drawn k (allocate cfg g pre) := by
  induction pre generalizing g with
  | nil => exact ⟨g, rfl, fun k _ => rfl⟩
  | cons d pre ih =>
    obtain ⟨left, first, share⟩ := allocate_cons cfg g d (pre ++ l)
    obtain ⟨left', first', share'⟩ := allocate_cons cfg g d pre
    have same : left = left' := Vector.ext fun i hi => (share ⟨i, hi⟩).trans (share' ⟨i, hi⟩).symm
    subst same
    obtain ⟨g', rest, after⟩ := ih left
    refine ⟨g', by rw [List.cons_append, first, first', rest]; rfl, fun k lower => ?_⟩
    rw [first', drawn_cons, (allocated_place cfg _ d).2.1, after k lower, share k, ← Nat.sub_sub]
    by_cases own : d.cls = k
    · subst own
      have drawing : (allocated cfg g[d.cls] d).drawing = Machine.share cfg g[d.cls] d := by
        unfold allocated
        rw [if_neg lower]
      rw [if_pos ⟨lower, rfl⟩, if_pos rfl, drawing]
    · rw [if_neg fun x => own x.2.symm, if_neg own, Nat.sub_zero]

/-- The drawing of Table 2-4 from what a class has left. -/
theorem share_eq (cfg : Cfg) (r : Nat) (d : Demand) : share cfg r d =
    let base :=
      match d.source with
      | .chan c =>
        if (cfg.channels[c]).kind = .dimmed then min r d.settled
        else if d.settled = d.want ∧ d.want ≤ r then d.settled else 0
      | .mover _ => if d.settled = d.want ∧ d.want ≤ r then d.settled else 0
    min base (d.ceiling.getD base) := by
  unfold share takesPart
  cases d.ceiling <;> cases d.source <;> simp

/-- Settles O12: what the list's beginning leaves of a class's grant is what its next entry draws its share of. -/
theorem allocationGoesInListOrder : Obligations.AllocationGoesInListOrder := by
  intro cfg g pre post d
  obtain ⟨left, split, after⟩ := allocate_append cfg pre (d :: post) g
  obtain ⟨g', first, -⟩ := allocate_cons cfg left d post
  refine ⟨allocate cfg g' post, ?_⟩
  rw [split, first, allocated]
  congr 2
  by_cases zero : d.cls = 0
  · rw [if_pos zero, if_pos zero]
  · rw [if_neg zero, if_neg zero, after d.cls zero, share_eq] <;> rfl

/-! ### Settling and island mode -/

theorem settleEntry_source (now q : Nat) (d : Demand) : (settleEntry now q d).source = d.source := by
  obtain e | ⟨x, -, e⟩ := settleEntry_cases now q d <;> rw [e]

theorem settleEntry_due {now q pa pt : Nat} {d : Demand} (pending : d.pending = some (pa, pt)) (past : pt + q ≤ now) :
    settleEntry now q d = { d with settled := pa, pending := none } := by
  unfold settleEntry
  rw [pending]
  exact if_pos past

theorem settleEntry_early {now q : Nat} {d : Demand} (early : ∀ pa pt, d.pending = some (pa, pt) → now < pt + q) :
    settleEntry now q d = d := by
  unfold settleEntry
  split
  · next pa pt pending => exact if_neg (Nat.not_le.2 (early pa pt pending))
  · rfl

/-- The station as SETTLE leaves it. -/
def settled (s : State) (src : Source) : State :=
  s.setDemands (mapSource src (settleEntry s.now s.cfg.settle) s.sbu.demands)

theorem settled_demandOf (s : State) (src other : Source) : (settled s src).demandOf other =
    if other = src then (s.demandOf other).map (settleEntry s.now s.cfg.settle) else s.demandOf other :=
  demandIn_mapSource s.sbu.demands src other _ (settleEntry_source _ _)

theorem enterIsland_eq (s : State) (cause : IslandCause) :
    s.enterIsland cause = { s with sbu := (s.enterIsland cause).sbu, fcl := (s.enterIsland cause).fcl } := by
  unfold State.enterIsland State.raiseCond
  split <;> rfl

theorem exec_islandDelayExpiry {k : Nat} (timer : s.sbu.islandTimer = some k) (past : k ≤ s.now) :
    exec .islandDelayExpiry s =
      .next (if s.inIsland then s.stopIslandTimer else s.stopIslandTimer.enterIsland .timer) :=
  congrArg Host.Outcome.next (if_pos (by rw [timer]; exact decide_eq_true past))

/-- Settles O13: settleEntry at the one source, and islandEntry at every entry. -/
theorem settleAndIslandDelayTakeEffect : Obligations.SettleAndIslandDelayTakeEffect := by
  refine ⟨fun src s => ⟨settled s src, rfl, rfl, rfl, fun d here => ?_, fun other off => ?_⟩, fun s k timer past => ?_⟩
  · have entry : (settled s src).demandOf src = some (settleEntry s.now s.cfg.settle d) := by
      rw [settled_demandOf, if_pos rfl, here]
      rfl
    refine ⟨fun pa pt pending due => ?_, fun none => ?_, fun pa pt pending early => ?_⟩
    · rw [entry, settleEntry_due pending due]
    · rw [entry, settleEntry_early]
      rw [none]
      nofun
    · rw [entry, settleEntry_early]
      rw [pending]
      rintro _ _ ⟨⟩
      exact early
  · rw [settled_demandOf, if_neg off]
  · cases island : s.sbu.island with
    | none =>
      have out : s.inIsland = false := by rw [State.inIsland, island]; rfl
      refine ⟨s.stopIslandTimer.enterIsland .timer, ?_, ?_, ?_, fun _ => ⟨?_, enterIsland_active _ _⟩, nofun⟩
      · rw [exec_islandDelayExpiry timer past, out]
        rfl
      · exact enterIsland_eq s.stopIslandTimer .timer
      · rw [enterIsland_sbu]
        rfl
      · rw [enterIsland_sbu]
        rfl
    | some cause =>
      have on : s.inIsland = true := by rw [State.inIsland, island]; rfl
      refine ⟨s.stopIslandTimer, ?_, rfl, rfl, nofun, fun _ _ => ⟨rfl, rfl⟩⟩
      rw [exec_islandDelayExpiry timer past, on]
      rfl

end Sys2Proof.Safety
end

section
/-! PROOFS. The refutation of O45: an OCCUPANCY pin that is bound as a mover's LOCK_CLOSED input too. -/

namespace Sys2Proof.Safety

open Sys2Proof Sys2Proof.Machine

/-- A mover with a fitted lock whose LOCK_CLOSED input is bound to pin 0. -/
def lockOnPin0 : MoverCfg := { lockFitted := true, lockClosed := some 0 }

/-- A station in RUN whose mover 0 is REQUESTING with its claim HELD and its entry granted. Pin 0, active, is the
OCCUPANCY input of zone 0 and the LOCK_CLOSED input of the mover. -/
def lockOnZonePin : State where
  now := 100
  suc := { phase := .run }
  cfg := {
    pins := (Vector.replicate 32 {}).set 0 { fn := .occupancy }
    occupancy := (Vector.replicate 16 none).set 0 (some 0)
    movers := #v[some lockOnPin0, none] }
  liu := { ports := Vector.replicate 2 { state := .fit } }
  sbu := { demands := [newDemand false (.mover 0) 0 0 0] }
  zcu := { claims := #v[.held, .unclaimed] }
  mvu := { movers := #v[some { phase := .requesting }, none] }
  fpr := { pins := (Vector.replicate 32 {}).set 0 { delivered := true } }

/-- Its lock is fitted and closed and not open as the pin changes, and the change takes the mover to RUNNING. -/
theorem lockOnZonePin_runs : ∃ t, exec (.occupancyChange 0 false) lockOnZonePin = .next t ∧
    (t.mover 0).map (fun r => r.phase) = some .running := ⟨_, rfl, rfl⟩

/-- Refutes O45: the clause on a zone that clears reads LOCK_CLOSED before the change, and its hypotheses allow the pin that
changes to be bound as that input too (the image checks, which rule it out, are not among them). -/
theorem not_claimsAreLookedAtAgain : ¬ Obligations.ClaimsAreLookedAtAgain := by
  rintro ⟨-, -, clears, -⟩
  obtain ⟨t, answer, -, held⟩ := clears 0 0 0 { phase := .requesting } lockOnZonePin rfl rfl rfl rfl rfl rfl rfl rfl
  obtain ⟨-, -, started, -⟩ := held (.inl rfl)
  obtain ⟨u, there, phase⟩ := started rfl
  obtain ⟨t', answer', running⟩ := lockOnZonePin_runs
  obtain rfl : t = t' := Host.Outcome.next.inj (answer.symm.trans answer')
  rw [there] at running
  have unlocking : u.phase = .unlocking := phase
  have moves : u.phase = .running := Option.some.inj running
  rw [unlocking] at moves
  cases moves

end Sys2Proof.Safety
end

section
/-! PROOFS. What the hearing of a good frame leaves of the station, and the DRIVEs that are refused, ignored, or taken from
the driver of record (R91 to R96, R111, Table 5-7). -/

namespace Sys2Proof.Safety

open Sys2Proof Sys2Proof.Machine

variable {s t u : State} {p : PortId} {frame : List Byte} {src : Nat} {m : MoverId} {r : Mover} {motion : Motion}

/-! ### The station that has heard a good frame -/

theorem heardNow_eq (s : State) (p : PortId) :
    heardNow s p = { s with liu := (heardNow s p).liu, fcl := (heardNow s p).fcl } := by
  unfold heardNow
  split
  · rfl
  · split
    · rfl
    · dsimp only
      split <;> rfl

/-- What is read from neither the line nor the fault collector is as it was before the frame. -/
theorem heardNow_view {α : Type} (view : State → α)
    (apart : ∀ liu fcl, view { s with liu := liu, fcl := fcl } = view s) : view (heardNow s p) = view s :=
  (congrArg view (heardNow_eq s p)).trans (apart _ _)

@[simp] theorem heardNow_now : (heardNow s p).now = s.now := heardNow_view (·.now) fun _ _ => rfl
@[simp] theorem heardNow_cfg : (heardNow s p).cfg = s.cfg := heardNow_view (·.cfg) fun _ _ => rfl
@[simp] theorem heardNow_ptu : (heardNow s p).ptu = s.ptu := heardNow_view (·.ptu) fun _ _ => rfl
@[simp] theorem heardNow_sbu : (heardNow s p).sbu = s.sbu := heardNow_view (·.sbu) fun _ _ => rfl
@[simp] theorem heardNow_lcu : (heardNow s p).lcu = s.lcu := heardNow_view (·.lcu) fun _ _ => rfl
@[simp] theorem heardNow_zcu : (heardNow s p).zcu = s.zcu := heardNow_view (·.zcu) fun _ _ => rfl
@[simp] theorem heardNow_mvu : (heardNow s p).mvu = s.mvu := heardNow_view (·.mvu) fun _ _ => rfl
@[simp] theorem heardNow_fpr : (heardNow s p).fpr = s.fpr := heardNow_view (·.fpr) fun _ _ => rfl
@[simp] theorem heardNow_ktu : (heardNow s p).ktu = s.ktu := heardNow_view (·.ktu) fun _ _ => rfl
@[simp] theorem heardNow_csa : (heardNow s p).csa = s.csa := heardNow_view (·.csa) fun _ _ => rfl
@[simp] theorem heardNow_mover : (heardNow s p).mover m = s.mover m := heardNow_view (·.mover m) fun _ _ => rfl
@[simp] theorem heardNow_moverCfg : (heardNow s p).moverCfg m = s.moverCfg m := heardNow_view (·.moverCfg m) fun _ _ => rfl
@[simp] theorem heardNow_claim : (heardNow s p).claim m = s.claim m := heardNow_view (·.claim m) fun _ _ => rfl
@[simp] theorem heardNow_input (b : Option PinId) : (heardNow s p).input b = s.input b :=
  heardNow_view (·.input b) fun _ _ => rfl
@[simp] theorem heardNow_endReached (d : Dir) : (heardNow s p).endReached m d = s.endReached m d :=
  heardNow_view (·.endReached m d) fun _ _ => rfl
@[simp] theorem heardNow_demandOf (x : Source) : (heardNow s p).demandOf x = s.demandOf x :=
  heardNow_view (·.demandOf x) fun _ _ => rfl
@[simp] theorem heardNow_clearable : (heardNow s p).clearable m r = s.clearable m r :=
  heardNow_view (·.clearable m r) fun _ _ => rfl
@[simp] theorem heardNow_obstacle : (heardNow s p).obstacle m = s.obstacle m :=
  heardNow_view (·.obstacle m) fun _ _ => rfl
@[simp] theorem heardNow_announcedClaims : (heardNow s p).announcedClaims = s.announcedClaims :=
  heardNow_view (·.announcedClaims) fun _ _ => rfl

theorem halt_not_unfitKind : ∀ p : PortId, FaultKind.pumpFault ≠ unfitKind p ∧ FaultKind.twin ≠ unfitKind p ∧
    FaultKind.configInvalid ≠ unfitKind p ∧ FaultKind.badNumber ≠ unfitKind p := by decide

@[simp] theorem heardNow_haltActive : (heardNow s p).haltActive = s.haltActive := by
  obtain ⟨pump, twin, config, number⟩ := halt_not_unfitKind p
  unfold State.haltActive
  rw [heardNow_active pump, heardNow_active twin, heardNow_active config, heardNow_active number]

/-! ### A DRIVE that arrives -/

theorem announceChange_still (zcu : t.zcu = s.zcu) (cfg : t.cfg = s.cfg) (suc : t.suc = s.suc) : announceChange s t = t :=
  announceChange_of_same (announcedClaims_congr zcu cfg suc)

/-- A DRIVE that ends on a calm port is delivered to the station that has heard it. -/
theorem exec_drive {target : Nat} (good : GoodFrame s p frame (.drive src target m motion)) (calm : Calm s p) :
    exec (driveCommand motion p frame) s =
      .next (announceChange s ((heardNow s p).deliver (.drive src target m motion))) := by
  cases motion <;> exact congrArg Host.Outcome.next (receive_goodFrame good calm rfl)

/-- What a DRIVE from a station of the command list does to the mover, by its motion (R91). -/
def driven (s : State) (src : Nat) (m : MoverId) : Motion → State
  | .dirA => s.driveDir m src .dirA
  | .dirB => s.driveDir m src .dirB
  | .stop => s.driveStop m src
  | .clear => s.driveClear m

theorem deliverDrive_listed (here : s.mover m = some r) (listed : src ∈ (s.moverCfg m).commandList) (motion : Motion) :
    s.deliverDrive src m motion = driven s src m motion := by
  unfold State.deliverDrive
  rw [here]
  dsimp only
  rw [if_pos listed]
  cases motion <;> rfl

theorem deliverDrive_unlisted (here : s.mover m = some r) (unlisted : src ∉ (s.moverCfg m).commandList)
    (motion : Motion) : s.deliverDrive src m motion = s.refuseDrive m .notPermitted := by
  unfold State.deliverDrive
  rw [here]
  exact if_neg unlisted

theorem deliverDrive_absent (absent : s.mover m = none) : s.deliverDrive src m motion = s := by
  unfold State.deliverDrive
  rw [absent]

theorem exec_driveFor (drive : DriveFor s p frame src m motion) (calm : Calm s p) (here : s.mover m = some r) :
    exec (driveCommand motion p frame) s = .next (announceChange s (driven (heardNow s p) src m motion)) := by
  obtain ⟨own, number, good, listed⟩ := drive
  have delivered : (heardNow s p).deliver (.drive src own m motion) = driven (heardNow s p) src m motion :=
    (if_pos (by rw [heardNow_suc]; exact number)).trans
      (deliverDrive_listed (by rw [heardNow_mover]; exact here) (by rw [heardNow_moverCfg]; exact listed) motion)
  rw [exec_drive good calm, delivered]

theorem driven_motionFor (s : State) (src : Nat) (m : MoverId) (d : Dir) :
    driven s src m (motionFor d) = s.driveDir m src d := by cases d <;> rfl

/-- A DIR that leaves the claims as they are. -/
theorem exec_dir {d : Dir} (drive : DriveFor s p frame src m (motionFor d)) (calm : Calm s p) (here : s.mover m = some r)
    (result : (heardNow s p).driveDir m src d = t) (zcu : t.zcu = s.zcu) :
    exec (driveCommand (motionFor d) p frame) s = .next t := by
  rw [exec_driveFor drive calm here, driven_motionFor, result, announceChange_still zcu] <;> simp [← result]

/-- A refusal records its code and raises DRIVE_REFUSED (R92). -/
theorem refuseDrive_is (s : State) (m : MoverId) (code : RefusalCode) :
    s.refuseDrive m code = { s.onMover m (fun x => { x with lastRefusal := code }) with fcl := (s.refuseDrive m code).fcl } ∧
      OccurredNow s (s.refuseDrive m code) .driveRefused :=
  ⟨rfl, occurredNow_raiseEvent (s.onMover m fun x => { x with lastRefusal := code }) .driveRefused⟩

theorem refuses {d : Dir} {code : RefusalCode} (drive : DriveFor s p frame src m (motionFor d)) (calm : Calm s p)
    (here : s.mover m = some r) (result : (heardNow s p).driveDir m src d = (heardNow s p).refuseDrive m code) :
    ∃ t, exec (driveCommand (motionFor d) p frame) s = .next t ∧
      t = { (heardNow s p).onMover m (fun x => { x with lastRefusal := code }) with fcl := t.fcl } ∧
      OccurredNow (heardNow s p) t .driveRefused :=
  ⟨_, exec_dir drive calm here result (heardNow_zcu (s := s)), refuseDrive_is _ m code⟩

/-! ### A DIR, phase by phase -/

section Phases

variable {d : Dir} (here : s.mover m = some r)

include here

theorem driveDir_guarded (idle : r.phase = .idle) (guarded : guardedAgainst r src = true) : s.driveDir m src d = s := by
  unfold State.driveDir
  rw [here]
  dsimp only
  rw [idle]
  exact if_pos guarded

theorem driveDir_idle (idle : r.phase = .idle) (free : guardedAgainst r src = false) :
    s.driveDir m src d =
      match s.dirRefusal m d with
      | some code => s.refuseDrive m code
      | none => s.enterRequesting m src d := by
  unfold State.driveDir
  rw [here]
  dsimp only
  rw [idle]
  exact if_neg (Bool.not_eq_true _ ▸ free)

theorem driveDir_faulted (faulted : r.phase = .faulted) : s.driveDir m src d = s.refuseDrive m .notCleared := by
  simp only [State.driveDir, here, faulted]

theorem driveDir_unfitted (unfitted : r.phase = .unfitted) : s.driveDir m src d = s.refuseDrive m .notFitted := by
  simp only [State.driveDir, here, unfitted]

theorem driveDir_busy (motion : r.phase.inMotion = true) (stranger : r.driver ≠ some src) :
    s.driveDir m src d = s.refuseDrive m .busy := by
  cases phase : r.phase <;> rw [phase] at motion <;>
    simp only [State.driveDir, here, phase, stranger, ne_eq, not_false_eq_true, if_true] <;> exact absurd motion nofun

variable (driver : r.driver = some src)

include driver

theorem driveDir_again (same : r.direction = some d) (phase : r.phase = .requesting ∨ r.phase = .unlocking ∨ r.phase = .running) :
    s.driveDir m src d = s.onMover m fun x => { x with lastDrive := some s.now } := by
  obtain e | e | e := phase <;> simp [State.driveDir, here, e, driver, same]

theorem driveDir_turns (other : r.direction = some (opposite d)) (phase : r.phase = .requesting ∨ r.phase = .unlocking) :
    s.driveDir m src d = s.turnRequest m d := by
  have differs : opposite d ≠ d := by cases d <;> nofun
  obtain e | e := phase <;> simp [State.driveDir, here, e, driver, other, differs]

theorem driveDir_reverses (other : r.direction = some (opposite d)) (running : r.phase = .running) :
    s.driveDir m src d = (s.enterStopping m .reversal (some d)).onMover m fun x => { x with lastDrive := some s.now } := by
  have differs : opposite d ≠ d := by cases d <;> nofun
  simp [State.driveDir, here, running, driver, other, differs]

theorem driveDir_ignored (same : r.direction = some d) (stopping : r.phase = .stopping) : s.driveDir m src d = s := by
  simp [State.driveDir, here, stopping, driver, same]

theorem driveDir_marks (other : r.direction = some (opposite d)) (stopping : r.phase = .stopping) :
    s.driveDir m src d = s.onMover m fun x => { x with reversal := some d, lastDrive := some s.now } := by
  have differs : opposite d ≠ d := by cases d <;> nofun
  simp [State.driveDir, here, stopping, driver, other, differs]

theorem driveDir_locking (locking : r.phase = .locking) : s.driveDir m src d = s := by
  simp [State.driveDir, here, locking, driver]

end Phases

theorem guardedAgainst_of (guard : ∃ g, r.releaseGuard = some g ∧ g.1 = src) : guardedAgainst r src = true := by
  obtain ⟨g, set, by'⟩ := guard
  simp [guardedAgainst, set, by']

theorem not_guardedAgainst (free : ∀ g, r.releaseGuard = some g → g.1 ≠ src) : guardedAgainst r src = false := by
  unfold guardedAgainst
  cases set : r.releaseGuard with
  | none => rfl
  | some g => exact decide_eq_false (free g set)

/-- The codes that refuse a DIR from IDLE, in their order (R93). -/
theorem heardNow_dirRefusal (calm : Calm s p) (m : MoverId) (d : Dir) :
    (heardNow s p).dirRefusal m d = s.dirRefusal m d := by
  obtain ⟨fit, -⟩ := calm
  unfold State.dirRefusal
  rw [fit, heardNow_suc, heardNow_haltActive, heardNow_endReached]

/-- Settles O41: the first condition that holds gives the code; the other phases and the command list give theirs. -/
theorem driveIsRefusedWithItsCode : Obligations.DriveIsRefusedWithItsCode := by
  refine ⟨fun d p frame src m r s drive calm here => ?_, fun p frame src target m motion s good calm => ⟨?_, ?_⟩⟩
  · have heard : (heardNow s p).mover m = some r := heardNow_mover.trans here
    have first : ∀ code, r.phase = .idle → (∀ g, r.releaseGuard = some g → g.1 ≠ src) → s.dirRefusal m d = some code →
        (heardNow s p).driveDir m src d = (heardNow s p).refuseDrive m code := by
      intro code idle free code'
      rw [driveDir_idle heard idle (not_guardedAgainst free), heardNow_dirRefusal calm, code']
    refine ⟨fun idle free => ⟨fun line => ?_, fun line quiet => ?_, fun line run down => ?_, fun line run up halt => ?_,
        fun line run up clear ends => ?_⟩, fun idle guard => ?_, fun motion stranger => ?_, fun faulted => ?_,
        fun unfitted => ?_⟩
    · exact refuses drive calm here (first _ idle free (by simp [State.dirRefusal, line]))
    · exact refuses drive calm here (first _ idle free (by simp [State.dirRefusal, line, quiet]))
    · exact refuses drive calm here (first _ idle free (by simp [State.dirRefusal, line, run, down]))
    · exact refuses drive calm here (first _ idle free (by simp [State.dirRefusal, line, run, up, halt]))
    · exact refuses drive calm here (first _ idle free (by simp [State.dirRefusal, line, run, up, clear, ends]))
    · exact exec_dir drive calm here (driveDir_guarded heard idle (guardedAgainst_of guard)) heardNow_zcu
    · exact refuses drive calm here (driveDir_busy heard motion stranger)
    · exact refuses drive calm here (driveDir_faulted heard faulted)
    · exact refuses drive calm here (driveDir_unfitted heard unfitted)
  · intro nothing
    have kept : (heardNow s p).deliver (.drive src target m motion) = heardNow s p := by
      obtain foreign | absent := nothing
      · exact if_neg (by rw [heardNow_suc]; exact foreign)
      · exact (ite_congr rfl (fun _ => deliverDrive_absent (heardNow_mover.trans absent)) fun _ => rfl).trans (ite_self _)
    rw [exec_drive good calm, kept, announceChange_still heardNow_zcu heardNow_cfg (heardNow_suc s p)]
  · intro r number here unlisted
    have refused : (heardNow s p).deliver (.drive src target m motion) = (heardNow s p).refuseDrive m .notPermitted :=
      (if_pos (by rw [heardNow_suc]; exact number)).trans
        (deliverDrive_unlisted (heardNow_mover.trans here) (by rw [heardNow_moverCfg]; exact unlisted) motion)
    refine ⟨_, ?_, refuseDrive_is _ m .notPermitted⟩
    rw [exec_drive good calm, refused, announceChange_still (t := (heardNow s p).refuseDrive m .notPermitted) (heardNow_zcu (s := s)) heardNow_cfg
      (heardNow_suc s p)]

/-! ### From the driver of record -/

/-- Two changes of one mover are one. -/
theorem onMover_onMover (s : State) (m : MoverId) (f g : Mover → Mover) :
    (s.onMover m f).onMover m g = s.onMover m fun x => g (f x) := by
  unfold State.onMover
  simp only [modifyAt, Vector.set_set, Fin.getElem_fin, Vector.getElem_set_self, Option.map_map, Function.comp_def]

theorem onMover_moverCfg (s : State) (m x : MoverId) (f : Mover → Mover) : (s.onMover m f).moverCfg x = s.moverCfg x := rfl

theorem announceChange_claim (s t : State) (m : MoverId) : (announceChange s t).claim m = t.claim m := by
  unfold State.claim
  rw [announceChange_zcu]

theorem announceChange_demandOf (s t : State) (x : Source) : (announceChange s t).demandOf x = t.demandOf x := by
  unfold State.demandOf
  rw [announceChange_sbu]

theorem enterIdle_ends (here : s.mover m = some r) (code : RefusalCode) :
    (s.enterIdle m code).mover m = some { dropMotion r with phase := .idle, lastRefusal := code } ∧
      (s.enterIdle m code).claim m = .unclaimed ∧ (s.enterIdle m code).demandOf (.mover m) = none := by
  refine ⟨?_, State.enterIdle_claim s m code, ?_⟩
  · rw [State.enterIdle_mover, here]
    rfl
  · rw [State.enterIdle_demandOf, if_pos rfl]

/-- Settles O42: Table 5-7 row by row, on the station that has heard the frame. -/
theorem dirInMotionFollowsTheTable : Obligations.DirInMotionFollowsTheTable := by
  intro d p frame src m r s drive calm here driver
  have heard : (heardNow s p).mover m = some r := heardNow_mover.trans here
  have now : (heardNow s p).now = s.now := heardNow_now
  have ends : (heardNow s p).endReached m d = s.endReached m d := heardNow_endReached d
  refine ⟨fun same phase => ?_, fun same stopping => ?_, fun other phase free => ?_, fun other phase limit => ?_,
    fun other running => ?_, fun other stopping => ?_, fun locking => ?_⟩
  · refine exec_dir drive calm here ((driveDir_again heard driver same phase).trans ?_) heardNow_zcu
    rw [now]
  · exact exec_dir drive calm here (driveDir_ignored heard driver same stopping) heardNow_zcu
  · refine exec_dir drive calm here ((driveDir_turns heard driver other phase).trans ?_) heardNow_zcu
    unfold State.turnRequest
    dsimp only
    rw [if_neg (by rw [ends, free]; decide), now, onMover_onMover]
  · have turned : (heardNow s p).driveDir m src d =
        ((heardNow s p).onMover m fun r => { r with direction := some d, lastDrive := some s.now }).enterIdle m .atLimit := by
      rw [driveDir_turns heard driver other phase]
      unfold State.turnRequest
      dsimp only
      rw [if_pos (by rw [ends, limit]), now]
    obtain ⟨mover, claim, entry⟩ := enterIdle_ends (s := (heardNow s p).onMover m fun r =>
      { r with direction := some d, lastDrive := some s.now }) (m := m) (by rw [State.onMover_mover_same, heard]; rfl) .atLimit
    refine ⟨_, _, ?_, (announceChange_mover s _ m).trans mover, rfl, rfl, rfl, ?_, ?_⟩
    · rw [exec_driveFor drive calm here, driven_motionFor, turned]
    · rw [announceChange_claim]; exact claim
    · rw [announceChange_demandOf]; exact entry
  · refine exec_dir drive calm here ((driveDir_reverses heard driver other running).trans ?_) heardNow_zcu
    unfold State.enterStopping
    rw [onMover_onMover, onMover_onMover, now, heardNow_moverCfg]
  · refine exec_dir drive calm here ((driveDir_marks heard driver other stopping).trans ?_) heardNow_zcu
    rw [onMover_onMover, now]
  · exact exec_dir drive calm here (driveDir_locking heard driver locking) heardNow_zcu

/-! ### STOP and CLEAR -/

section Phases

variable (here : s.mover m = some r)

include here

theorem driveStop_resting (resting : r.phase.inMotion = false) : s.driveStop m src = s := by
  cases phase : r.phase <;> rw [phase] at resting <;> simp only [State.driveStop, here, phase] <;> exact absurd resting nofun

theorem driveStop_busy (motion : r.phase.inMotion = true) (stranger : r.driver ≠ some src) :
    s.driveStop m src = s.refuseDrive m .busy := by
  cases phase : r.phase <;> rw [phase] at motion <;>
    simp only [State.driveStop, here, phase, stranger, ne_eq, not_false_eq_true, if_true] <;> exact absurd motion nofun

theorem driveStop_abandons (driver : r.driver = some src) (phase : r.phase = .requesting ∨ r.phase = .unlocking) :
    s.driveStop m src = (s.setGuard m src).enterIdle m .released := by
  obtain e | e := phase <;> simp [State.driveStop, here, e, driver]

theorem driveStop_running (driver : r.driver = some src) (running : r.phase = .running) :
    s.driveStop m src = (s.setGuard m src).enterStopping m .released none := by
  simp [State.driveStop, here, running, driver]

theorem driveStop_stopping (driver : r.driver = some src) (stopping : r.phase = .stopping) :
    s.driveStop m src = (s.setGuard m src).onMover m fun x => { x with reversal := none } := by
  simp [State.driveStop, here, stopping, driver]

theorem driveStop_locking (driver : r.driver = some src) (locking : r.phase = .locking) : s.driveStop m src = s := by
  simp [State.driveStop, here, locking, driver]

theorem driveClear_faulted (faulted : r.phase = .faulted) :
    s.driveClear m = if s.clearable m r then s.clearFault m r else s.refuseDrive m .notCleared := by
  simp only [State.driveClear, here, faulted]

theorem driveClear_unfitted (unfitted : r.phase = .unfitted) : s.driveClear m = s.refuseDrive m .notFitted := by
  simp only [State.driveClear, here, unfitted]

theorem driveClear_ignored (phase : r.phase = .idle ∨ r.phase.inMotion = true) : s.driveClear m = s := by
  cases e : r.phase <;> rw [e] at phase <;> simp only [State.driveClear, here, e] <;> exact absurd phase nofun

end Phases

/-- A STOP or a CLEAR that leaves the claims as they are. -/
theorem exec_driven (drive : DriveFor s p frame src m motion) (calm : Calm s p) (here : s.mover m = some r)
    (result : driven (heardNow s p) src m motion = t) (zcu : t.zcu = s.zcu) (cfg : t.cfg = s.cfg) (suc : t.suc = s.suc) :
    exec (driveCommand motion p frame) s = .next t := by
  rw [exec_driveFor drive calm here, result, announceChange_still zcu cfg suc]

theorem driven_refuses {code : RefusalCode} (drive : DriveFor s p frame src m motion) (calm : Calm s p)
    (here : s.mover m = some r) (result : driven (heardNow s p) src m motion = (heardNow s p).refuseDrive m code) :
    ∃ t, exec (driveCommand motion p frame) s = .next t ∧
      t = { (heardNow s p).onMover m (fun x => { x with lastRefusal := code }) with fcl := t.fcl } ∧
      OccurredNow (heardNow s p) t .driveRefused :=
  ⟨_, exec_driven drive calm here result (heardNow_zcu (s := s)) heardNow_cfg (heardNow_suc s p), refuseDrive_is _ m code⟩

/-- Settles O43: STOP phase by phase, on the station that has heard the frame. -/
theorem stopReleasesTheMover : Obligations.StopReleasesTheMover := by
  intro p frame src m r s drive calm here
  have heard : (heardNow s p).mover m = some r := heardNow_mover.trans here
  have guarded : (heardNow s p).setGuard m src =
      (heardNow s p).onMover m fun r => { r with releaseGuard := some (src, s.now + (s.moverCfg m).holdTimeout) } := by
    unfold State.setGuard
    rw [heardNow_now, heardNow_moverCfg]
  refine ⟨fun driver phase => ?_, fun driver running => ?_, fun driver stopping => ?_, fun driver locking => ?_,
    fun resting => ?_, fun stranger motion => ?_⟩
  · obtain ⟨mover, claim, entry⟩ := enterIdle_ends (setGuard_mover heard src) .released
    refine ⟨_, exec_driveFor drive calm here, ?_⟩
    rw [announceChange_claim, announceChange_demandOf, announceChange_mover,
      show driven (heardNow s p) src m .stop = _ from driveStop_abandons heard driver phase, claim, entry, mover,
      heardNow_now, heardNow_moverCfg]
    exact ⟨rfl, rfl, rfl⟩
  · refine exec_driven drive calm here ((driveStop_running heard driver running).trans ?_) (heardNow_zcu (s := s))
      heardNow_cfg (heardNow_suc s p)
    rw [guarded]
    unfold State.enterStopping
    rw [onMover_onMover, State.onMover_now, heardNow_now, onMover_moverCfg, heardNow_moverCfg]
  · refine exec_driven drive calm here ((driveStop_stopping heard driver stopping).trans ?_) (heardNow_zcu (s := s))
      heardNow_cfg (heardNow_suc s p)
    rw [guarded, onMover_onMover]
  · exact exec_driven drive calm here (driveStop_locking heard driver locking) heardNow_zcu heardNow_cfg (heardNow_suc s p)
  · exact exec_driven drive calm here (driveStop_resting heard resting) heardNow_zcu heardNow_cfg (heardNow_suc s p)
  · exact driven_refuses drive calm here (driveStop_busy heard motion stranger)

/-- The condition CLEAR needs, reason by reason (Table 5-9). -/
theorem clearable_iff : s.clearable m r = true ↔
    (r.faultReason = some .pumpFault → s.input (s.moverCfg m).powerFault = false) ∧
      (r.faultReason = some .overload → r.lastSense ≤ (s.moverCfg m).overcurrent) ∧
      (r.faultReason = some .stall → r.lastSense < (s.moverCfg m).chain.stallThreshold) := by
  unfold State.clearable
  cases reason : r.faultReason with
  | none => simp
  | some x => cases x <;> simp

/-- A mover that leaves FAULTED changes its record and what its reason's kind reports, and nothing else (R107, R111). -/
theorem clearFault_leaves (s : State) (m : MoverId) (r : Mover) :
    s.clearFault m r = { s with mvu := (s.clearFault m r).mvu, fcl := (s.clearFault m r).fcl } ∧
      ∀ x, (s.clearFault m r).mover x =
        (s.onMover m fun y => { y with phase := .idle, faultReason := none, lastRefusal := .clear }).mover x := by
  unfold State.clearFault
  dsimp only
  cases r.faultReason with
  | none => exact ⟨rfl, fun _ => rfl⟩
  | some reason =>
    refine ⟨(eq_of_blocks (s := s) ?_ ?_ ?_ ?_ ?_ ?_ ?_ ?_ ?_).trans ?_, fun x => State.reportReason_mover _ _ _⟩
    all_goals simp

theorem anyFaulted_reportReason (s : State) (reason other : FaultReason) :
    (s.reportReason other).anyFaulted reason = s.anyFaulted reason := by
  unfold State.anyFaulted
  simp only [State.reportReason_mover]

theorem clearFault_reports {reason : FaultReason} {kind : FaultKind} (faulted : r.faultReason = some reason)
    (own : reason ≠ .pumpFault) (names : reason.kind = some kind) :
    (s.clearFault m r).active kind = (s.clearFault m r).anyFaulted reason := by
  unfold State.clearFault
  dsimp only
  rw [faulted]
  dsimp only
  rw [reportReason_active _ names, if_pos rfl, anyFaulted_reportReason, State.reasonHolds, decide_eq_false own,
    Bool.false_and, Bool.false_or]

/-- Settles O44: a CLEAR in FAULTED is decided by the condition of the reason; the other phases give their answers. -/
theorem clearReturnsAFaultedMover : Obligations.ClearReturnsAFaultedMover := by
  intro p frame src m r s drive calm here
  have heard : (heardNow s p).mover m = some r := heardNow_mover.trans here
  have clearable : (heardNow s p).clearable m r = s.clearable m r := heardNow_clearable
  refine ⟨fun faulted holds => ?_, fun faulted fails => ?_, fun phase => ?_, fun unfitted => ?_⟩
  · obtain ⟨leaves, movers⟩ := clearFault_leaves (heardNow s p) m r
    have cleared : driven (heardNow s p) src m .clear = (heardNow s p).clearFault m r :=
      (driveClear_faulted heard faulted).trans (if_pos (clearable.trans (clearable_iff.mpr holds)))
    refine ⟨_, exec_driven drive calm here cleared ?_ ?_ ?_, leaves, ?_, ?_, fun reason kind faultReason own names =>
      clearFault_reports faultReason own names⟩
    · rw [leaves]
      exact heardNow_zcu
    · rw [leaves]
      exact heardNow_cfg
    · rw [leaves]
      exact heardNow_suc s p
    · rw [movers, State.onMover_mover_same, heard]
      rfl
    · rw [movers, State.onMover_mover_other _ _ _ _ (otherMover_ne m), heardNow_mover]
  · exact driven_refuses drive calm here ((driveClear_faulted heard faulted).trans
      (if_neg (by rw [clearable]; exact fun holds => fails (clearable_iff.mp holds))))
  · exact exec_driven drive calm here (driveClear_ignored heard phase) heardNow_zcu heardNow_cfg (heardNow_suc s p)
  · exact driven_refuses drive calm here (driveClear_unfitted heard unfitted)

end Sys2Proof.Safety
end

section
/-! PROOFS. The timers of a mover: hold-to-run, the request limit, the timers that fault it, and the stop dwell (R96, R99,
R100, R103 to R107, R125). -/

namespace Sys2Proof.Safety

open Sys2Proof Sys2Proof.Machine

variable {s t : State} {m : MoverId} {r : Mover} {k : Nat}

/-! ### A timer that has run out -/

theorem elapsed_some {start span now : Nat} (past : start + span ≤ now) : elapsed (some start) span now = true :=
  decide_eq_true past

section Due

variable (here : s.mover m = some r)

include here

theorem inPhase_of {phase : MoverPhase} (e : r.phase = phase) : s.inPhase m phase = true := by
  rw [State.inPhase, here]
  exact decide_eq_true e

theorem phaseTimerDue_of (timer : r.timer = some k) (past : k ≤ s.now) : s.phaseTimerDue m = true := by
  rw [State.phaseTimerDue, here]
  dsimp only
  rw [timer]
  exact decide_eq_true past

theorem exec_holdToRunTimeout (runs : holdRuns r.phase = true) (last : r.lastDrive = some k)
    (past : k + (s.moverCfg m).holdTimeout ≤ s.now) :
    exec (.holdToRunTimeout m) s = .next (announceChange s (s.holdExpired m)) := by
  refine congrArg Host.Outcome.next (if_pos ?_)
  rw [State.holdDue, here]
  dsimp only
  rw [runs, last, elapsed_some past]
  rfl

theorem exec_requestTimeLimit (requesting : r.phase = .requesting) (timer : r.timer = some k) (past : k ≤ s.now) :
    exec (.requestTimeLimit m) s = .next (announceChange s (s.enterIdle m (s.limitCode m))) := by
  refine congrArg Host.Outcome.next (if_pos ?_)
  rw [State.limitDue, inPhase_of here requesting, phaseTimerDue_of here timer past]
  rfl

theorem exec_stopDwellEnd (stopping : r.phase = .stopping) (timer : r.timer = some k) (past : k ≤ s.now) :
    exec (.stopDwellEnd m) s = .next (announceChange s (s.dwellOver m r)) := by
  refine congrArg Host.Outcome.next ?_
  rw [here]
  refine if_pos ?_
  rw [State.stopDue, inPhase_of here stopping, phaseTimerDue_of here timer past]
  rfl

end Due

/-! ### Hold-to-run and the request limit -/

theorem active_of_fcl (same : t.fcl = s.fcl) (kind : FaultKind) : t.active kind = s.active kind := by
  unfold State.active
  rw [same]

/-- A mover brought to IDLE ends there with its code, with neither claim nor entry, whatever is then announced. -/
theorem idle_announced (here : s.mover m = some r) (before : State) (code : RefusalCode) :
    (announceChange before (s.enterIdle m code)).mover m = some { dropMotion r with phase := .idle, lastRefusal := code } ∧
      (announceChange before (s.enterIdle m code)).claim m = .unclaimed ∧
      (announceChange before (s.enterIdle m code)).demandOf (.mover m) = none := by
  rw [announceChange_mover, announceChange_claim, announceChange_demandOf]
  exact enterIdle_ends here code

/-- The code of the request's time limit as R99 lists it. -/
theorem limitCode_eq (s : State) (m : MoverId) : s.limitCode m =
    match s.standing m with
    | .blocked => .blocked
    | .occupied => .occupied
    | .cleared => if s.granted m = true then .lineUnfit else .noSupply
    | .absent => .blocked := by
  unfold State.limitCode
  cases s.standing m <;> rfl

theorem holdExpired_abandons (here : s.mover m = some r) (phase : r.phase = .requesting ∨ r.phase = .unlocking) :
    s.holdExpired m = s.enterIdle m .released := by
  obtain e | e := phase <;> simp only [State.holdExpired, here, e]

theorem holdExpired_running (here : s.mover m = some r) (running : r.phase = .running) :
    s.holdExpired m = s.enterStopping m .released none := by
  simp only [State.holdExpired, here, running]

theorem holdExpired_stopping (here : s.mover m = some r) (stopping : r.phase = .stopping) :
    s.holdExpired m = s.onMover m fun x => { x with reversal := none } := by
  simp only [State.holdExpired, here, stopping]

/-- Settles O46: the timers act by the phase; a request ends in IDLE with neither claim nor entry. -/
theorem holdAndRequestTimersEndARequest : Obligations.HoldAndRequestTimersEndARequest := by
  refine ⟨fun m r k s here last past => ⟨fun phase => ?_, fun running => ?_, fun stopping => ?_, fun locking => ?_⟩,
    fun m r k s here requesting timer past => ?_⟩
  · obtain ⟨mover, claim, entry⟩ := idle_announced here s .released
    refine ⟨_, _, (exec_holdToRunTimeout here (by obtain e | e := phase <;> rw [e] <;> rfl) last past).trans ?_, mover, rfl,
      rfl, rfl, claim, entry⟩
    rw [holdExpired_abandons here phase]
  · rw [exec_holdToRunTimeout here (by rw [running]; rfl) last past, holdExpired_running here running]
    exact congrArg Host.Outcome.next (announceChange_still rfl rfl rfl)
  · rw [exec_holdToRunTimeout here (by rw [stopping]; rfl) last past, holdExpired_stopping here stopping]
    exact congrArg Host.Outcome.next (announceChange_still rfl rfl rfl)
  · refine congrArg Host.Outcome.next (if_neg ?_)
    rw [State.holdDue, here]
    dsimp only
    rw [locking]
    nofun
  · obtain ⟨mover, claim, entry⟩ := idle_announced here s (s.limitCode m)
    exact ⟨_, _, exec_requestTimeLimit here requesting timer past, mover, rfl, rfl, rfl, claim, entry,
      (announceChange_active s _ _).trans (active_of_fcl (State.enterIdle_fcl s m _) _), limitCode_eq s m⟩

/-! ### The timers that fault a mover -/

theorem enterFaulted_reports (here : s.mover m = some r) {reason : FaultReason} {kind : FaultKind}
    (names : reason.kind = some kind) : (s.enterFaulted m reason).active kind = true := by
  unfold State.enterFaulted
  rw [active_of_fcl (State.lookAgain_fcl _ _), reportReason_active _ names, if_pos rfl, State.reasonHolds]
  refine Bool.or_eq_true_iff.mpr (.inr ?_)
  unfold State.anyFaulted
  rw [List.any_eq_true]
  refine ⟨m, mem_allMovers m, ?_⟩
  rw [State.releaseClaim_mover, State.removeEntry_mover, State.onMover_mover_same, here]
  simp

/-- Settles O47: each timer is due, and the mover it faults ends as R107 gives. -/
theorem timersPutAMoverIntoFaulted : Obligations.TimersPutAMoverIntoFaulted := by
  intro m r s here
  have faults : ∀ {c : Instr} {reason : FaultReason} {kind : FaultKind}, reason.kind = some kind →
      exec c s = .next (announceChange s (s.enterFaulted m reason)) →
      ∃ t, exec c s = .next t ∧ t.claim m = .unclaimed ∧ t.demandOf (.mover m) = none ∧ t.active kind = true ∧
        t.lcu = s.lcu ∧ t.ptu = s.ptu ∧ t.liu.ports = s.liu.ports ∧ t.fpr = s.fpr ∧
        t.mover m = some { dropMotion r with phase := .faulted, faultReason := some reason, lastRefusal := reason.refusal } := by
    intro c reason kind names run
    refine ⟨_, run, ?_, ?_, ?_, by simp, by simp, ?_, by simp, ?_⟩
    · rw [announceChange_claim, State.enterFaulted_claim]
    · rw [announceChange_demandOf, State.enterFaulted_demandOf, if_pos rfl]
    · rw [announceChange_active, enterFaulted_reports here names]
    · rw [announceChange_ports, State.enterFaulted_liu]
    · rw [announceChange_mover, State.enterFaulted_mover, here]
      rfl
  refine ⟨fun k phase timer past => ?_, fun k running travels timer past => ?_, fun k running span past => ?_,
    fun k running windlass span past => ?_⟩
  · refine faults (reason := .lockJam) rfl (congrArg Host.Outcome.next (if_pos ?_))
    rw [State.lockDue, phaseTimerDue_of here timer past]
    obtain e | e := phase <;> simp [inPhase_of here e]
  · refine faults (reason := .travelTimeout) rfl (congrArg Host.Outcome.next (if_pos ?_))
    rw [State.travelDue, phaseTimerDue_of here timer past, inPhase_of here running, decide_eq_true travels]
    rfl
  · refine faults (reason := .overload) rfl (congrArg Host.Outcome.next (if_pos ?_))
    rw [State.overloadDue, here]
    dsimp only
    rw [running, span, show elapsed (some k) Config.moverOverSpan s.now = true from elapsed_some past]
    rfl
  · refine faults (reason := .stall) rfl (congrArg Host.Outcome.next (if_pos ?_))
    rw [State.stallDue, here]
    dsimp only
    rw [running, span, elapsed_some past, windlass]
    rfl

/-! ### The stop dwell -/

theorem comeToRest_locks {reason : StopReason} (fitted : (s.moverCfg m).lockFitted = true)
    (atB : s.input (s.moverCfg m).endB = true) (unshut : s.input (s.moverCfg m).lockClosed = false) :
    s.comeToRest m reason = s.onMover m fun x =>
      { x with phase := .locking, stopReason := some reason, reversal := none, timer := some (s.now + 3000) } := by
  unfold State.comeToRest
  rw [if_pos (by rw [fitted, atB]; rfl)]
  unfold State.enterLocking
  rw [if_neg (Bool.not_eq_true _ ▸ unshut), onMover_onMover]
  rfl

theorem comeToRest_idles (here : s.mover m = some r) {reason : StopReason} (rests : (s.moverCfg m).lockFitted = false ∨
    s.input (s.moverCfg m).endB = false ∨ s.input (s.moverCfg m).lockClosed = true) :
    ∃ (t : State) (x : Mover), s.comeToRest m reason = t.enterIdle m reason.endCode ∧ t.mover m = some x := by
  unfold State.comeToRest
  split
  · next locks =>
    obtain ⟨fitted, atB⟩ := Bool.and_eq_true_iff.mp locks
    have shut : s.input (s.moverCfg m).lockClosed = true := by simpa [fitted, atB] using rests
    exact ⟨_, _, if_pos shut, by rw [State.onMover_mover_same, here]; rfl⟩
  · exact ⟨s, r, rfl, here⟩

/-- How STOP_DWELL_END ends a motion for a reason (R105, steps 2 and 3): LOCKING at the closed end of a fitted lock, IDLE
with the reason's code elsewhere. -/
def RestsFor (s : State) (m : MoverId) (reason : StopReason) : Prop :=
  ((s.moverCfg m).lockFitted = true → s.input (s.moverCfg m).endB = true →
    s.input (s.moverCfg m).lockClosed = false → exec (.stopDwellEnd m) s = .next (s.onMover m fun x =>
      { x with phase := .locking, stopReason := some reason, reversal := none, timer := some (s.now + 3000) })) ∧
  (((s.moverCfg m).lockFitted = false ∨ s.input (s.moverCfg m).endB = false ∨
      s.input (s.moverCfg m).lockClosed = true) →
    ∃ t u, exec (.stopDwellEnd m) s = .next t ∧ t.mover m = some u ∧ u.phase = .idle ∧ u.driver = none ∧
      t.claim m = .unclaimed ∧ t.demandOf (.mover m) = none ∧
      (reason = .atEnd → u.lastRefusal = .clear) ∧
      (reason = .reversal ∨ reason = .released → u.lastRefusal = .released) ∧
      (reason = .noSupply → u.lastRefusal = .noSupply) ∧ (reason = .lineUnfit → u.lastRefusal = .lineUnfit) ∧
      (reason = .occupied → u.lastRefusal = .occupied) ∧ (reason = .standby → u.lastRefusal = .standby) ∧
      (reason = .atLimit → u.lastRefusal = .atLimit))

theorem restsFor {reason : StopReason} (here : s.mover m = some r)
    (run : exec (.stopDwellEnd m) s = .next (announceChange s (s.comeToRest m reason))) : RestsFor s m reason := by
  unfold RestsFor
  rw [run]
  refine ⟨fun fitted atB unshut => ?_, fun way => ?_⟩
  · rw [comeToRest_locks fitted atB unshut]
    exact congrArg Host.Outcome.next (announceChange_still rfl rfl rfl)
  · obtain ⟨t, x, e, there⟩ := comeToRest_idles here (reason := reason) way
    obtain ⟨mover, claim, entry⟩ := idle_announced there s reason.endCode
    rw [e]
    refine ⟨_, _, rfl, mover, rfl, rfl, claim, entry, ?_⟩
    cases reason <;> simp [StopReason.endCode]

theorem dwellOver_unmarked {reason : StopReason} (unmarked : r.reversal = none) (stop : r.stopReason = some reason) :
    s.dwellOver m r = s.comeToRest m reason := by
  unfold State.dwellOver
  rw [unmarked, stop]
  rfl

theorem dwellOver_fails {reason : StopReason} {d : Dir} (marked : r.reversal = some d)
    (check : s.reversalRefusal m d = some reason) : s.dwellOver m r = s.comeToRest m reason := by
  unfold State.dwellOver
  rw [marked]
  dsimp only
  rw [check]

theorem dwellOver_passes {d : Dir} (marked : r.reversal = some d) (check : s.reversalRefusal m d = none) :
    s.dwellOver m r = (s.onMover m fun x => { x with direction := some d }).enterRunning m := by
  unfold State.dwellOver
  rw [marked]
  dsimp only
  rw [check]

/-- Settles O49: the fresh check's first failure, or the reason that stood, decides the rest. -/
theorem stopDwellEndsInRestOrReversal : Obligations.StopDwellEndsInRestOrReversal := by
  intro m r k s here stopping timer past
  have run := exec_stopDwellEnd here stopping timer past
  have fails : ∀ d reason, r.reversal = some d → s.reversalRefusal m d = some reason → RestsFor s m reason :=
    fun d reason marked check => restsFor here (by rw [run, dwellOver_fails marked check])
  refine ⟨fun reason unmarked stop => restsFor here (by rw [run, dwellOver_unmarked unmarked stop]), fun d marked =>
    ⟨fun down => ?_, fun up unfit => ?_, fun up line blocked => ?_, fun up line clear ungranted => ?_,
    fun up line clear granted ends => ?_, fun up line clear granted free => ?_⟩⟩
  · exact fails d _ marked (by simp [State.reversalRefusal, down])
  · exact fails d _ marked (by simp [State.reversalRefusal, up, unfit])
  · exact fails d _ marked (by simp [State.reversalRefusal, up, line, blocked])
  · exact fails d _ marked (by simp [State.reversalRefusal, up, line, clear, ungranted])
  · exact fails d _ marked (by simp [State.reversalRefusal, up, line, clear, granted, ends])
  · rw [run, dwellOver_passes marked (by simp [State.reversalRefusal, up, line, clear, granted, free])]
    exact congrArg Host.Outcome.next (announceChange_still rfl rfl rfl)

/-! ### A request -/

theorem examineClaim_of_still (still : s.nextClaim m = s.claim m) : s.examineClaim m = s := by
  unfold State.examineClaim State.setClaim
  rw [still]
  unfold State.claim
  simp

theorem claimKey_lt : s.claimKey 0 < s.claimKey 1 := by
  unfold State.claimKey
  simp

/-- What stands in the way of a claim is read from the records and the own other claim (R70). -/
theorem obstacle_setClaim (s : State) (m : MoverId) (c : Claim) : (s.setClaim m c).obstacle m = s.obstacle m := by
  unfold State.obstacle State.ownOtherBlocks
  rw [State.setClaim_claim, if_neg (otherMover_ne m)]
  rfl

theorem nextClaim_of_same {x : MoverId} (claim : t.claim x = s.claim x) (obstacle : t.obstacle x = s.obstacle x)
    (promotable : ∀ start, t.promotable x start = s.promotable x start) (now : t.now = s.now) :
    t.nextClaim x = s.nextClaim x := by
  unfold State.nextClaim
  rw [claim, obstacle, now]
  cases s.claim x <;> simp only [promotable]

/-- The claim a new request makes: behind an obstacle it waits, and otherwise it listens from now (R72). -/
def firstClaim (s : State) (m : MoverId) : Claim := if s.obstacle m then .waiting else .listening s.now

theorem nextClaim_firstClaim (window : 0 < s.cfg.listenWindow) (m : MoverId) :
    (s.setClaim m (firstClaim s m)).nextClaim m = firstClaim s m := by
  have early : ¬s.now + s.cfg.listenWindow ≤ s.now := by omega
  unfold State.nextClaim
  rw [State.setClaim_claim, if_pos rfl, obstacle_setClaim]
  unfold firstClaim
  cases s.obstacle m with
  | true => rfl
  | false => simp [State.promotable, early]

/-- Mover 0, whose key is the lower, is held up by nothing of mover 1 but a HELD claim (R69, R70). -/
theorem ownOtherBlocks_zero (free : s.claim 1 ≠ .held) : s.ownOtherBlocks 0 = false := by
  have keys : ¬s.claimKey 1 < s.claimKey 0 := Nat.lt_asymm claimKey_lt
  unfold State.ownOtherBlocks
  rw [show otherMover 0 = 1 from rfl]
  cases claim : s.claim 1 with
  | held => exact absurd claim free
  | listening start => simp [keys]
  | waiting | unclaimed => simp

theorem firstClaim_ne_held (s : State) (m : MoverId) : firstClaim s m ≠ .held := by
  unfold firstClaim
  split <;> nofun

theorem nextClaim_zero_firstClaim (fresh : s.claim 1 = .unclaimed) :
    (s.setClaim 1 (firstClaim s 1)).nextClaim 0 = s.nextClaim 0 := by
  refine nextClaim_of_same (by rw [State.setClaim_claim, if_neg (by decide)]) ?_ (fun _ => rfl) rfl
  unfold State.obstacle
  rw [ownOtherBlocks_zero (by rw [State.setClaim_claim, if_pos rfl]; exact firstClaim_ne_held s 1),
    ownOtherBlocks_zero (by rw [fresh]; nofun)]
  rfl

theorem newIntent_claim (fresh : s.claim m = .unclaimed) (window : 0 < s.cfg.listenWindow)
    (other : s.nextClaim (otherMover m) = s.claim (otherMover m)) : (s.newIntent m).claim m = firstClaim s m := by
  have stays : (s.setClaim m (firstClaim s m)).examineClaim m = s.setClaim m (firstClaim s m) :=
    examineClaim_of_still (by rw [nextClaim_firstClaim window, State.setClaim_claim, if_pos rfl])
  have claimed : (s.setClaim m (firstClaim s m)).claim m = firstClaim s m := by rw [State.setClaim_claim, if_pos rfl]
  show (((s.setClaim m (firstClaim s m)).examineClaim 0).examineClaim 1).claim m = _
  obtain rfl | rfl := mover_cases m
  · rw [stays]
    unfold State.examineClaim
    rw [State.setClaim_claim, if_neg (by decide), claimed]
  · have zero : (s.setClaim 1 (firstClaim s 1)).examineClaim 0 = s.setClaim 1 (firstClaim s 1) :=
      examineClaim_of_still (by
        rw [nextClaim_zero_firstClaim fresh, State.setClaim_claim, if_neg (by decide)]
        exact other)
    rw [zero, stays, claimed]

/-! ### What the announced claims tell of a mover -/

/-- The claim of mover m is announced: it listens or is HELD (R82). -/
def Announced (s : State) (m : MoverId) : Prop := s.claim m = .held ∨ ∃ start, s.claim m = .listening start

theorem claimKey_inj {x : MoverId} (same : s.claimKey x = s.claimKey m) : x = m := by
  unfold State.claimKey at same
  exact Fin.ext (by omega)

theorem announced_iff : (∃ c ∈ s.announcedClaims, c.key = s.claimKey m) ↔ Announced s m := by
  unfold State.announcedClaims Announced
  simp only [List.mem_filterMap]
  constructor
  · rintro ⟨c, ⟨x, -, made⟩, key⟩
    cases claim : s.claim x <;> rw [claim] at made <;> cases made <;> cases claimKey_inj key
    · exact .inr ⟨_, claim⟩
    · exact .inl claim
  · rintro (held | ⟨start, listening⟩)
    · exact ⟨_, ⟨m, mem_allMovers m, by rw [held]⟩, rfl⟩
    · exact ⟨_, ⟨m, mem_allMovers m, by rw [listening]⟩, rfl⟩

theorem announcedClaims_ne (number : t.suc = s.suc) (differs : ¬(Announced t m ↔ Announced s m)) :
    t.announcedClaims ≠ s.announcedClaims := by
  intro same
  refine differs ?_
  rw [← announced_iff, ← announced_iff, same, State.claimKey, State.claimKey, State.number, State.number, number]

theorem firstClaim_announced (claim : t.claim m = firstClaim s m) : Announced t m ↔ s.obstacle m = false := by
  unfold Announced firstClaim at *
  rw [claim]
  cases s.obstacle m <;> simp

/-! ### A DIR taken up -/

theorem enterRequesting_claim (fresh : s.claim m = .unclaimed) (window : 0 < s.cfg.listenWindow)
    (other : s.nextClaim (otherMover m) = s.claim (otherMover m)) (src : Nat) (d : Dir) :
    (s.enterRequesting m src d).claim m = firstClaim s m := by
  unfold State.enterRequesting
  rw [State.lookAgain_claim]
  refine newIntent_claim ?_ ?_ ?_
  · exact fresh
  · exact window
  · exact other

theorem driveRefused_ne_unfitKind : ∀ p : PortId, FaultKind.driveRefused ≠ unfitKind p := by decide

/-- Settles O40: nothing refuses the DIR, so the request is made on the station that has heard it. -/
theorem dirStartsARequest : Obligations.DirStartsARequest := by
  intro d p frame src m r s drive calm here idle free line run up clear ends window fresh other
  have heard : (heardNow s p).mover m = some r := heardNow_mover.trans here
  have taken : (heardNow s p).driveDir m src d = (heardNow s p).enterRequesting m src d := by
    rw [driveDir_idle heard idle (not_guardedAgainst free), heardNow_dirRefusal calm,
      show s.dirRefusal m d = none by simp [State.dirRefusal, line, run, up, clear, ends]]
  have fit : (heardNow s p).lineFit = s.lineFit := calm.1
  have claim : ((heardNow s p).enterRequesting m src d).claim m = firstClaim s m := by
    rw [enterRequesting_claim (heardNow_claim.trans fresh) (by rw [heardNow_cfg]; exact window)]
    · unfold firstClaim
      rw [heardNow_obstacle, heardNow_now]
    · rw [heardNow_claim, ← other]
      exact nextClaim_of_same heardNow_claim heardNow_obstacle
        (fun start => by unfold State.promotable; rw [fit, heardNow_now, heardNow_cfg, heardNow_view (·.zoneOccupied _) fun _ _ => rfl])
        heardNow_now
  have silent : s.active .twin = false := by
    simp only [State.haltActive, Bool.or_eq_false_iff] at clear
    exact clear.1.1.2
  have entries : ∀ x, ((heardNow s p).enterRequesting m src d).demandOf x =
      if x = .mover m then some (newDemand s.inIsland (.mover m) (s.moverCfg m).cls (s.moverCfg m).rank (s.moverCfg m).runRating)
      else s.demandOf x := by
    intro x
    rw [State.demandOf_congr (enterRequesting_sbu (heardNow s p) m src d), State.createEntry_demandOf, heardNow_demandOf,
      heardNow_moverCfg, heardNow_view (·.inIsland) fun _ _ => rfl]
  refine ⟨announceChange s ((heardNow s p).enterRequesting m src d), ?_, ?_, ?_, ?_, fun free => ?_, fun x other => ?_,
    ?_, ?_, ?_, ?_⟩
  · rw [exec_driveFor drive calm here, driven_motionFor, taken]
  · rw [announceChange_mover, State.enterRequesting, State.lookAgain_mover_other _ _ _ (otherMover_ne m).symm,
      State.mover, State.newIntent_mvu, State.createEntry_mvu, ← State.mover, State.onMover_mover_same, heard, heardNow_now]
    rfl
  · rw [announceChange_demandOf, entries, if_pos rfl]
    unfold newDemand
    split <;> simp_all
  · rw [announceChange_claim, claim]
    rfl
  · refine announceChange_announces ?_ ?_
    · have active : ((heardNow s p).enterRequesting m src d).active .twin = s.active .twin :=
        (active_of_fcl (State.enterRequesting_fcl _ _ _ _) _).trans (heardNow_active (halt_not_unfitKind p).2.1)
      rw [State.mayTransmit, active, silent, State.running, State.enterRequesting_suc, heardNow_suc, run]
      rfl
    · rw [announceChange_claims]
      refine announcedClaims_ne (m := m) (by simp) fun both => ?_
      have before := both.mp ((firstClaim_announced claim).mpr free)
      unfold Announced at before
      rw [fresh] at before
      simp at before
  · rw [announceChange_demandOf, entries, if_neg other]
  · rw [announceChange_active, active_of_fcl (State.enterRequesting_fcl _ _ _ _), heardNow_active (driveRefused_ne_unfitKind p)]
  · simp
  · simp
  · rw [announceChange_ports, State.enterRequesting_liu]

end Sys2Proof.Safety
end

section
/-! PROOFS. The inputs of the movers: locks, end switches, POWER_FAULT, HOME and STANDBY (R98, R100 to R102, R106 to R109,
R116, R121 to R123). -/

namespace Sys2Proof.Safety

open Sys2Proof Sys2Proof.Machine

variable {s t : State} {m x : MoverId} {r : Mover} {pin : PinId}

/-! ### A pin that takes a new value -/

/-- A pin of one of the functions whose delivered value changes: its consumers act (R134, R135). -/
theorem onChange_of {active : Bool} {fns : List PinFn} (act : State → State) (work : s.working = true)
    (fn : (s.cfg.pins[pin]).fn ∈ fns) (change : (s.fpr.pins[pin]).delivered = !active) :
    s.onChange pin active fns act = announceChange s (act (s.deliverPin pin active)) := by
  refine if_pos ?_
  rw [State.changes, decide_eq_true fn, change, State.sampling, work]
  cases active <;> rfl

theorem deliverPin_mover (s : State) (pin : PinId) (active : Bool) (m : MoverId) :
    (s.deliverPin pin active).mover m = s.mover m := rfl

/-! ### A mover that heeds nothing of the other one -/

/-- Mover m has this record and does not start when the station's other claim changes: it is not REQUESTING, or the
beginning of a stand-down or the end of its direction abandons it at this instant (R79, R98, R116). -/
def Heedless (s : State) (m : MoverId) (r : Mover) : Prop :=
  s.mover m = some r ∧ (r.phase ≠ .requesting ∨ s.suc.standDown = true ∨ s.atPresentEnd m r = true)

theorem endReached_congr (mover : t.mover m = s.mover m) (cfg : t.cfg = s.cfg) (fpr : t.fpr = s.fpr) (d : Dir) :
    t.endReached m d = s.endReached m d := by
  have inputs : t.input = s.input := funext (input_of_fpr fpr)
  unfold State.endReached State.moverCfg
  rw [mover, cfg, inputs]

theorem Heedless.congr (h : Heedless s m r) (mover : t.mover m = s.mover m) (suc : t.suc = s.suc) (cfg : t.cfg = s.cfg)
    (fpr : t.fpr = s.fpr) : Heedless t m r := by
  obtain ⟨here, why⟩ := h
  refine ⟨mover.trans here, ?_⟩
  rw [suc]
  refine why.imp_right (Or.imp_right fun ends => ?_)
  unfold State.atPresentEnd at ends ⊢
  simp only [endReached_congr mover cfg fpr]
  exact ends

theorem lookAgain_heedless (h : Heedless s m r) : s.lookAgain m = s := by
  obtain ⟨here, why⟩ := h
  unfold State.lookAgain
  rw [here]
  dsimp only
  rw [if_neg]
  rintro ⟨requesting, up, free⟩
  obtain other | down | ends := why
  · exact other requesting
  · rw [up] at down
    cases down
  · rw [free] at ends
    cases ends

theorem Heedless.onMover (h : Heedless s m r) (other : m ≠ x) (f : Mover → Mover) : Heedless (s.onMover x f) m r :=
  h.congr (State.onMover_mover_other s x m f other) rfl rfl rfl

theorem Heedless.lookAgain (h : Heedless s m r) : Heedless (s.lookAgain m) m r := by rwa [lookAgain_heedless h]

theorem Heedless.enterIdle (h : Heedless s m r) (other : m ≠ x) (code : RefusalCode) :
    Heedless (s.enterIdle x code) m r := by
  obtain rfl := eq_otherMover other
  exact Heedless.lookAgain ((h.onMover other _).congr (by rw [State.releaseClaim_mover, State.removeEntry_mover]) (by simp)
    (by simp) (by simp))

theorem Heedless.enterFaulted (h : Heedless s m r) (other : m ≠ x) (reason : FaultReason) :
    Heedless (s.enterFaulted x reason) m r := by
  obtain rfl := eq_otherMover other
  exact Heedless.lookAgain ((h.onMover other _).congr
    (by rw [State.reportReason_mover, State.releaseClaim_mover, State.removeEntry_mover]) (by simp) (by simp) (by simp))

theorem Heedless.reachEnd (h : Heedless s m r) (other : m ≠ x) : Heedless (s.reachEnd x) m r := by
  unfold State.reachEnd
  split
  · exact h
  · split
    case h_1 | h_2 => exact h.enterIdle other _
    case h_3 => exact h.onMover other _
    all_goals exact h

theorem Heedless.faultInMotion (h : Heedless s m r) (other : m ≠ x) (reason : FaultReason) :
    Heedless (s.faultInMotion x reason) m r := by
  unfold State.faultInMotion
  split
  · split
    · exact h.enterFaulted other reason
    · exact h
  · exact h

/-! ### Locks -/

/-- LOCK_OPEN on a pin takes this mover's record to RUNNING, where it is UNLOCKING on that pin (R100, R101). -/
def openedBy (s : State) (pin : PinId) (x : MoverId) (y : Mover) : Mover :=
  if y.phase = .unlocking ∧ (s.moverCfg x).lockOpen = some pin then
    { y with
      phase := .running
      stopReason := none
      reversal := none
      timer := if (s.moverCfg x).kind = .windlass then none else some (s.now + (s.moverCfg x).travel)
      overTime := none
      stallSpan := none }
  else y

theorem lockOpened_mover (s : State) (pin : PinId) (m x : MoverId) :
    (State.lockOpened pin s m).mover x = (s.mover x).map fun y => if x = m then openedBy s pin x y else y := by
  by_cases other : x = m
  · subst x
    unfold State.lockOpened openedBy
    cases here : s.mover m with
    | none => simp [here]
    | some r =>
      dsimp only
      split
      · next opens => rw [State.enterRunning_mover, here]; simp [opens]
      · next waits => rw [here]; simp [waits]
  · simp only [other, if_false]
    unfold State.lockOpened
    split
    · simp
    · split
      · unfold State.enterRunning
        rw [State.onMover_mover_other _ _ _ _ other]
        simp
      · simp

theorem lockOpened_leaves (s : State) (pin : PinId) (m : MoverId) : (State.lockOpened pin s m).zcu = s.zcu ∧
    (State.lockOpened pin s m).cfg = s.cfg ∧ (State.lockOpened pin s m).suc = s.suc ∧
    (State.lockOpened pin s m).now = s.now := by
  unfold State.lockOpened
  split
  · exact ⟨rfl, rfl, rfl, rfl⟩
  · split <;> exact ⟨rfl, rfl, rfl, rfl⟩

theorem lockOpened_opens (here : s.mover m = some r) (bound : (s.moverCfg m).lockOpen = some pin)
    (unlocking : r.phase = .unlocking) : State.lockOpened pin s m = s.enterRunning m := by
  unfold State.lockOpened
  rw [here]
  exact if_pos ⟨unlocking, bound⟩

theorem lockOpened_unbound (free : s.mover m = none ∨ (s.moverCfg m).lockOpen ≠ some pin) :
    State.lockOpened pin s m = s := by
  unfold State.lockOpened
  split
  · rfl
  · next here => exact if_neg fun ⟨_, bound⟩ => free.elim (fun absent => by rw [absent] at here; cases here) (· bound)

theorem exec_lockOpenChange (work : s.working = true) (fn : (s.cfg.pins[pin]).fn = .lockOpen)
    (change : (s.fpr.pins[pin]).delivered = false) : exec (.lockOpenChange pin true) s =
      .next (announceChange s (State.lockOpened pin (State.lockOpened pin (s.deliverPin pin true) 0) 1)) :=
  congrArg Host.Outcome.next (onChange_of (State.lockOpenNow pin true) work (by rw [fn]; decide) change)

theorem lockOpened_both (s : State) (pin : PinId) (x : MoverId) :
    (State.lockOpened pin (State.lockOpened pin s 0) 1).mover x = (s.mover x).map (openedBy s pin x) := by
  obtain ⟨-, cfg, -, now⟩ := lockOpened_leaves s pin 0
  have same : openedBy (State.lockOpened pin s 0) pin x = openedBy s pin x := by
    unfold openedBy State.moverCfg
    rw [cfg, now]
  rw [lockOpened_mover, lockOpened_mover, same]
  obtain rfl | rfl := mover_cases x <;> cases s.mover _ <;> rfl

/-- LOCK_CLOSED on the pin of a mover that is LOCKING brings it to IDLE, whatever the pin does to the other (R106). -/
theorem lockShut_shuts (here : s.mover m = some r) (bound : (s.moverCfg m).lockClosed = some pin)
    (locking : r.phase = .locking) : State.lockShut pin s m = s.enterIdle m (endCodeOf r) := by
  unfold State.lockShut
  rw [here]
  exact if_pos ⟨locking, bound⟩

theorem Heedless.lockShut (h : Heedless s m r) (other : m ≠ x) : Heedless (State.lockShut pin s x) m r := by
  unfold State.lockShut
  split
  · exact h
  · split
    · exact h.enterIdle other _
    · exact h

/-- What enters IDLE with a code, and what is then done to the other mover leaves so. -/
structure IdleFor (s : State) (m : MoverId) (code : RefusalCode) : Prop where
  mover : ∃ r, Heedless s m r ∧ r.phase = .idle ∧ r.lastRefusal = code
  claim : s.claim m = .unclaimed
  entry : s.demandOf (.mover m) = none

theorem idleFor_enterIdle (here : s.mover m = some r) (code : RefusalCode) : IdleFor (s.enterIdle m code) m code := by
  obtain ⟨mover, claim, entry⟩ := enterIdle_ends here code
  exact ⟨⟨_, ⟨mover, .inl nofun⟩, rfl, rfl⟩, claim, entry⟩

theorem IdleFor.enterIdle {code : RefusalCode} (h : IdleFor s m code) (other : m ≠ x) (why : RefusalCode) :
    IdleFor (s.enterIdle x why) m code := by
  obtain ⟨⟨r, heedless, idle, last⟩, claim, entry⟩ := h
  exact ⟨⟨r, heedless.enterIdle other why, idle, last⟩, enterIdle_unclaimed claim x why,
    by rw [State.enterIdle_demandOf, entry, ite_self]⟩

theorem IdleFor.onMover {code : RefusalCode} (h : IdleFor s m code) (other : m ≠ x) (f : Mover → Mover) :
    IdleFor (s.onMover x f) m code := by
  obtain ⟨⟨r, heedless, idle, last⟩, claim, entry⟩ := h
  exact ⟨⟨r, heedless.onMover other f, idle, last⟩, claim, entry⟩

theorem IdleFor.announced {code : RefusalCode} (h : IdleFor t m code) (before : State) :
    ∃ u, (announceChange before t).mover m = some u ∧ u.phase = .idle ∧ u.lastRefusal = code ∧
      (announceChange before t).claim m = .unclaimed ∧ (announceChange before t).demandOf (.mover m) = none := by
  obtain ⟨⟨r, ⟨here, -⟩, idle, last⟩, claim, entry⟩ := h
  rw [announceChange_mover, announceChange_claim, announceChange_demandOf]
  exact ⟨r, here, idle, last, claim, entry⟩

theorem IdleFor.lockShut {code : RefusalCode} (h : IdleFor s m code) (other : m ≠ x) :
    IdleFor (State.lockShut pin s x) m code := by
  unfold State.lockShut
  split
  · exact h
  · split
    · exact h.enterIdle other _
    · exact h

theorem IdleFor.reachEnd {code : RefusalCode} (h : IdleFor s m code) (other : m ≠ x) : IdleFor (s.reachEnd x) m code := by
  unfold State.reachEnd
  split
  · exact h
  · split
    case h_1 | h_2 => exact h.enterIdle other _
    case h_3 => exact h.onMover other _
    all_goals exact h

theorem Heedless.endSwitch (h : Heedless s m r) (other : m ≠ x) : Heedless (State.endSwitch pin s x) m r := by
  unfold State.endSwitch
  split
  · exact h
  · split
    · exact h
    · split
      · exact h.reachEnd other
      · exact h

theorem IdleFor.endSwitch {code : RefusalCode} (h : IdleFor s m code) (other : m ≠ x) :
    IdleFor (State.endSwitch pin s x) m code := by
  unfold State.endSwitch
  split
  · exact h
  · split
    · exact h
    · split
      · exact h.reachEnd other
      · exact h

/-- Both movers act in turn. What mover m's own act makes true, and the other's leaves true, holds at the end, where the
other's act leaves m's record as it finds it. -/
theorem both_act {f : State → MoverId → State} (goal : State → Prop)
    (heeds : ∀ u x, m ≠ x → Heedless u m r → Heedless (f u x) m r)
    (same : ∀ u x, (f u x).cfg = u.cfg ∧ (f u x).now = u.now ∧ (f u x).fpr = u.fpr)
    (stays : ∀ u x, m ≠ x → goal u → goal (f u x))
    (acts : ∀ u, Heedless u m r → u.cfg = s.cfg → u.now = s.now → u.fpr = s.fpr → goal (f u m)) (h : Heedless s m r) :
    goal (f (f s 0) 1) := by
  obtain ⟨cfg, now, fpr⟩ := same s 0
  obtain rfl | rfl := mover_cases m
  · exact stays _ 1 (by decide) (acts s h rfl rfl rfl)
  · exact acts _ (heeds s 0 (by decide) h) cfg now fpr

theorem lockShut_same (s : State) (m : MoverId) : (State.lockShut pin s m).cfg = s.cfg ∧
    (State.lockShut pin s m).now = s.now ∧ (State.lockShut pin s m).fpr = s.fpr := by
  unfold State.lockShut
  split
  · exact ⟨rfl, rfl, rfl⟩
  · split <;> simp

theorem endSwitch_same (s : State) (m : MoverId) : (State.endSwitch pin s m).cfg = s.cfg ∧
    (State.endSwitch pin s m).now = s.now ∧ (State.endSwitch pin s m).fpr = s.fpr := by
  unfold State.endSwitch
  split
  · exact ⟨rfl, rfl, rfl⟩
  · split
    · exact ⟨rfl, rfl, rfl⟩
    · split <;> simp

theorem lockShut_idles (here : s.mover m = some r) (bound : (s.moverCfg m).lockClosed = some pin)
    (locking : r.phase = .locking) :
    IdleFor (State.lockShut pin (State.lockShut pin s 0) 1) m (endCodeOf r) :=
  both_act (fun t => IdleFor t m (endCodeOf r)) (fun _ _ other h => h.lockShut other) (fun u x => lockShut_same u x)
    (fun _ _ other h => h.lockShut other)
    (fun u h cfg _ _ => by
      rw [lockShut_shuts h.1 (by rw [moverCfg_congr cfg]; exact bound) locking]
      exact idleFor_enterIdle h.1 _)
    ⟨here, .inl (by rw [locking]; nofun)⟩

/-! ### End switches -/

theorem endSwitch_ends {d : Dir} (here : s.mover m = some r) (direction : r.direction = some d)
    (kind : (s.moverCfg m).kind ≠ .windlass) (bound : switchOf (s.moverCfg m) d = some pin) :
    State.endSwitch pin s m = s.reachEnd m := by
  unfold State.endSwitch
  rw [here]
  dsimp only
  rw [direction]
  exact if_pos ⟨kind, bound⟩

theorem reachEnd_abandons (here : s.mover m = some r) (phase : r.phase = .requesting ∨ r.phase = .unlocking) :
    s.reachEnd m = s.enterIdle m .atLimit := by
  obtain e | e := phase <;> simp only [State.reachEnd, here, e]

theorem reachEnd_stops (here : s.mover m = some r) (running : r.phase = .running) :
    s.reachEnd m = s.enterStopping m .atEnd none := by
  simp only [State.reachEnd, here, running]

/-- The record of a mover that enters STOPPING for a reason, with no reversal marked. -/
def stopped (s : State) (m : MoverId) (r : Mover) (reason : StopReason) : Mover :=
  { r with
    phase := .stopping
    stopReason := some reason
    reversal := none
    timer := some (s.now + (s.moverCfg m).stopDwell)
    overTime := none
    stallSpan := none }

theorem stopped_congr (cfg : t.cfg = s.cfg) (now : t.now = s.now) (m : MoverId) (r : Mover) (reason : StopReason) :
    stopped t m r reason = stopped s m r reason := by
  unfold stopped
  rw [moverCfg_congr cfg, now]

theorem heedless_enterStopping (here : s.mover m = some r) (reason : StopReason) :
    Heedless (s.enterStopping m reason none) m (stopped s m r reason) :=
  ⟨by rw [State.enterStopping_mover, here]; rfl, .inl nofun⟩

theorem endReached_switch {d : Dir} (kind : (s.moverCfg m).kind ≠ .windlass) :
    s.endReached m d = s.input (switchOf (s.moverCfg m) d) := by
  unfold State.endReached
  cases e : (s.moverCfg m).kind with
  | windlass => exact absurd e kind
  | hatch | platform => cases d <;> simp [e, switchOf]

theorem exec_endSwitchChange (work : s.working = true)
    (fn : (s.cfg.pins[pin]).fn = .endA ∨ (s.cfg.pins[pin]).fn = .endB) (change : (s.fpr.pins[pin]).delivered = false) :
    exec (.endSwitchChange pin true) s =
      .next (announceChange s (State.endSwitch pin (State.endSwitch pin (s.deliverPin pin true) 0) 1)) :=
  congrArg Host.Outcome.next
    (onChange_of (State.endSwitchNow pin true) work (by obtain e | e := fn <;> rw [e] <;> decide) change)

section Ends

variable {d : Dir} (here : s.mover m = some r) (direction : r.direction = some d)
  (kind : (s.moverCfg m).kind ≠ .windlass) (bound : switchOf (s.moverCfg m) d = some pin)

include here direction kind bound

theorem endSwitch_stops (running : r.phase = .running) :
    Heedless (State.endSwitch pin (State.endSwitch pin s 0) 1) m (stopped s m r .atEnd) :=
  both_act (fun t => Heedless t m (stopped s m r .atEnd)) (fun _ _ other h => h.endSwitch other)
    (fun u x => endSwitch_same u x) (fun _ _ other h => h.endSwitch other)
    (fun u h cfg now _ => by
      rw [endSwitch_ends h.1 direction (by rw [moverCfg_congr cfg]; exact kind) (by rw [moverCfg_congr cfg]; exact bound),
        reachEnd_stops h.1 running, ← stopped_congr cfg now]
      exact heedless_enterStopping h.1 .atEnd)
    ⟨here, .inl (by rw [running]; nofun)⟩

theorem endSwitch_abandons (active : s.input (some pin) = true) (phase : r.phase = .requesting ∨ r.phase = .unlocking) :
    IdleFor (State.endSwitch pin (State.endSwitch pin s 0) 1) m .atLimit := by
  have ends : s.atPresentEnd m r = true := by
    unfold State.atPresentEnd
    rw [direction]
    dsimp only
    rw [endReached_switch kind, bound, active]
  exact both_act (fun t => IdleFor t m .atLimit) (fun _ _ other h => h.endSwitch other)
    (fun u x => endSwitch_same u x) (fun _ _ other h => h.endSwitch other)
    (fun u h cfg _ _ => by
      rw [endSwitch_ends h.1 direction (by rw [moverCfg_congr cfg]; exact kind) (by rw [moverCfg_congr cfg]; exact bound),
        reachEnd_abandons h.1 phase]
      exact idleFor_enterIdle h.1 _)
    ⟨here, .inr (.inr ends)⟩

end Ends

/-- Settles O48: the pin's consumers act in turn, each as if the other were not there. -/
theorem lockAndEndInputsAct : Obligations.LockAndEndInputsAct := by
  intro pin m r s work here change
  refine ⟨fun fn bound unlocking free => ?_, fun fn => ?_, fun fn bound locking => ?_,
    fun d fn kind direction bound => ⟨fun running => ?_, fun phase => ?_⟩⟩
  · have other : ∀ u : State, u.mover (otherMover m) = s.mover (otherMover m) → u.cfg = s.cfg →
        State.lockOpened pin u (otherMover m) = u := by
      intro u mover cfg
      refine lockOpened_unbound ?_
      rwa [mover, moverCfg_congr cfg]
    have opens : State.lockOpened pin (s.deliverPin pin true) m = (s.deliverPin pin true).enterRunning m :=
      lockOpened_opens here bound unlocking
    rw [exec_lockOpenChange work fn change]
    have result : State.lockOpened pin (State.lockOpened pin (s.deliverPin pin true) 0) 1 =
        (s.deliverPin pin true).enterRunning m := by
      obtain rfl | rfl := mover_cases m
      · rw [opens]
        exact other _ (State.onMover_mover_other _ _ _ _ (by decide)) rfl
      · rw [show State.lockOpened pin (s.deliverPin pin true) 0 = _ from other _ rfl rfl, opens]
    rw [result]
    exact congrArg Host.Outcome.next (announceChange_still rfl rfl rfl)
  · refine ⟨_, exec_lockOpenChange work fn change, fun x y there => ?_⟩
    rw [announceChange_mover, lockOpened_both, deliverPin_mover, there, Option.map_some]
    exact apply_ite some _ _ _
  · obtain ⟨u, mover, idle, code, claim, entry⟩ :=
      (lockShut_idles (s := s.deliverPin pin true) here bound locking).announced s
    refine ⟨_, u, congrArg Host.Outcome.next
      (onChange_of (State.lockClosedNow pin true) work (by rw [fn]; decide) change), mover, idle, claim, entry, code.trans ?_⟩
    unfold endCodeOf
    cases r.stopReason <;> rfl
  · obtain ⟨mover, -⟩ := endSwitch_stops (s := s.deliverPin pin true) (pin := pin) here direction kind
      (by cases d <;> exact bound) running
    exact ⟨_, exec_endSwitchChange work fn change, (announceChange_mover _ _ _).trans mover⟩
  · obtain ⟨u, mover, idle, code, claim, -⟩ := (endSwitch_abandons (s := s.deliverPin pin true) (pin := pin) here direction
      kind (by cases d <;> exact bound) (by rw [deliverPin_input, if_pos rfl]) phase).announced s
    exact ⟨_, u, exec_endSwitchChange work fn change, mover, idle, code, claim⟩

/-! ### POWER_FAULT -/

theorem faultInMotion_resting (here : s.mover m = some r) (resting : r.phase.inMotion = false) (reason : FaultReason) :
    s.faultInMotion m reason = s := by
  unfold State.faultInMotion
  rw [here]
  exact if_neg (by rw [resting]; nofun)

theorem pumpFault_of_bound (bound : (s.moverCfg m).powerFault = some pin) :
    State.pumpFault pin s m = s.faultInMotion m .pumpFault := if_pos bound

theorem pumpFault_of_unbound (free : (s.moverCfg m).powerFault ≠ some pin) : State.pumpFault pin s m = s := if_neg free

/-- The mover is FAULTED for this reason, with its claim released and its entry given up (R107). -/
structure Dropped (s : State) (m : MoverId) (reason : FaultReason) : Prop where
  faulted : FaultedFor s m reason
  claim : s.claim m = .unclaimed
  entry : s.demandOf (.mover m) = none

theorem dropped_enterFaulted (here : s.mover m = some r) (reason : FaultReason) :
    Dropped (s.enterFaulted m reason) m reason :=
  ⟨faultedFor_enterFaulted here reason, State.enterFaulted_claim s m reason,
    by rw [State.enterFaulted_demandOf, if_pos rfl]⟩

theorem enterFaulted_unclaimed (free : s.claim x = .unclaimed) (m : MoverId) (reason : FaultReason) :
    (s.enterFaulted m reason).claim x = .unclaimed := by
  unfold State.enterFaulted
  rw [State.lookAgain_claim]
  unfold State.claim
  rw [State.reportReason_zcu]
  refine releaseClaim_unclaimed ?_ m
  exact free

theorem Dropped.faultInMotion {reason why : FaultReason} (h : Dropped s m reason) (x : MoverId) :
    Dropped (s.faultInMotion x why) m reason := by
  by_cases same : x = m
  · subst x
    obtain ⟨r, here, faulted, -⟩ := h.faulted
    rwa [faultInMotion_resting here (by rw [faulted]; rfl)]
  · refine ⟨faultInMotion_faultedFor h.faulted (Ne.symm same), ?_, ?_⟩ <;> unfold State.faultInMotion <;> split
    · split
      · exact enterFaulted_unclaimed h.claim x why
      · exact h.claim
    · exact h.claim
    · split
      · rw [State.enterFaulted_demandOf, h.entry, ite_self]
      · exact h.entry
    · exact h.entry

theorem dropped_of_inMotion (moving : InMotion s m) (reason : FaultReason) :
    Dropped (s.faultInMotion m reason) m reason := by
  obtain ⟨r, here, -⟩ := mover_of_inMotion moving
  rw [faultInMotion_of_inMotion moving]
  exact dropped_enterFaulted here reason

theorem Dropped.haltMovers {reason : FaultReason} (h : Dropped s m reason) : Dropped s.haltMovers m reason :=
  (h.faultInMotion 0).faultInMotion 1

theorem haltMovers_drops (moving : InMotion s m) : Dropped s.haltMovers m .halted := by
  show Dropped ((s.faultInMotion 0 .halted).faultInMotion 1 .halted) m .halted
  obtain rfl | rfl := mover_cases m
  · exact (dropped_of_inMotion moving .halted).faultInMotion 1
  · exact dropped_of_inMotion (faultInMotion_inMotion_other (by decide) moving .halted) .halted

theorem Heedless.haltMovers (h : Heedless s m r) (resting : r.phase.inMotion = false) : Heedless s.haltMovers m r := by
  show Heedless ((s.faultInMotion 0 .halted).faultInMotion 1 .halted) m r
  have each : ∀ {u} x, Heedless u m r → Heedless (u.faultInMotion x .halted) m r := fun {u} x h => by
    by_cases same : x = m
    · subst x
      rwa [faultInMotion_resting h.1 resting]
    · exact h.faultInMotion (Ne.symm same) _
  exact each 1 (each 0 h)

theorem faultInMotion_halted_fcl (s : State) (m : MoverId) : (s.faultInMotion m .halted).fcl = s.fcl := by
  unfold State.faultInMotion
  split
  · split
    · show (State.lookAgain (State.reportReason _ .halted) _).fcl = s.fcl
      rw [State.lookAgain_fcl, show ∀ u : State, u.reportReason .halted = u from fun _ => rfl, State.releaseClaim_fcl,
        State.removeEntry_fcl, State.onMover_fcl]
    · rfl
  · rfl

theorem haltMovers_fcl (s : State) : s.haltMovers.fcl = s.fcl :=
  (faultInMotion_halted_fcl _ 1).trans (faultInMotion_halted_fcl s 0)

/-- The pin's movers in motion are faulted, the others go on (R108). -/
def pumped (s : State) (pin : PinId) : State := State.pumpFault pin (State.pumpFault pin s 0) 1

theorem pumpFault_leaves (s : State) (pin : PinId) (m : MoverId) : (State.pumpFault pin s m).cfg = s.cfg ∧
    (State.pumpFault pin s m).fpr = s.fpr ∧ (State.pumpFault pin s m).suc = s.suc ∧
    ∀ x, ((State.pumpFault pin s m).mover x).isSome = (s.mover x).isSome := by
  unfold State.pumpFault
  split
  · refine ⟨by simp, by simp, by simp, fun x => ?_⟩
    unfold State.faultInMotion
    split
    · split
      · rw [← sign_isSome, enterFaulted_sign]
        split
        · next same => rw [Option.isSome_map, same]
        · exact sign_isSome s x
      · rfl
    · rfl
  · exact ⟨rfl, rfl, rfl, fun _ => rfl⟩

theorem pumped_leaves (s : State) (pin : PinId) : (pumped s pin).cfg = s.cfg ∧ (pumped s pin).fpr = s.fpr ∧
    ∀ x, ((pumped s pin).mover x).isSome = (s.mover x).isSome := by
  obtain ⟨cfg, fpr, -, some'⟩ := pumpFault_leaves s pin 0
  obtain ⟨cfg', fpr', -, some''⟩ := pumpFault_leaves (State.pumpFault pin s 0) pin 1
  exact ⟨cfg'.trans cfg, fpr'.trans fpr, fun x => (some'' x).trans (some' x)⟩

theorem pumped_drops (moving : InMotion s m) (bound : (s.moverCfg m).powerFault = some pin) :
    Dropped (pumped s pin) m .pumpFault := by
  have keeps : ∀ {u} x, Dropped u m .pumpFault → Dropped (State.pumpFault pin u x) m .pumpFault := fun {u} x h => by
    unfold State.pumpFault
    split
    · exact h.faultInMotion x
    · exact h
  unfold pumped
  obtain rfl | rfl := mover_cases m
  · refine keeps 1 ?_
    rw [pumpFault_of_bound bound]
    exact dropped_of_inMotion moving _
  · rw [pumpFault_of_bound (s := State.pumpFault pin s 0) (by rw [moverCfg_congr (pumpFault_leaves s pin 0).1]; exact bound)]
    refine dropped_of_inMotion ?_ _
    unfold State.pumpFault
    split
    · exact faultInMotion_inMotion_other (by decide) moving _
    · exact moving

theorem pumped_goes_on (moving : InMotion s m) (free : (s.moverCfg m).powerFault ≠ some pin) :
    InMotion (pumped s pin) m := by
  have others : ∀ {u} x, x ≠ m → InMotion u m → InMotion (State.pumpFault pin u x) m := fun {u} x other h => by
    unfold State.pumpFault
    split
    · exact faultInMotion_inMotion_other other.symm h _
    · exact h
  unfold pumped
  obtain rfl | rfl := mover_cases m
  · rw [pumpFault_of_unbound free]
    exact others 1 (by decide) moving
  · rw [pumpFault_of_unbound (s := State.pumpFault pin s 0) (by rw [moverCfg_congr (pumpFault_leaves s pin 0).1]; exact free)]
    exact others 0 (by decide) moving

theorem Heedless.pumped (h : Heedless s m r) (resting : r.phase.inMotion = false) : Heedless (pumped s pin) m r := by
  have each : ∀ {u} x, Heedless u m r → Heedless (State.pumpFault pin u x) m r := fun {u} x h => by
    unfold State.pumpFault
    split
    · by_cases same : x = m
      · subst x
        rwa [faultInMotion_resting h.1 resting]
      · exact h.faultInMotion (Ne.symm same) _
    · exact h
  exact each 1 (each 0 h)

theorem anyPowerFault_of (here : (s.mover m).isSome = true) (active : s.input (s.moverCfg m).powerFault = true) :
    s.anyPowerFault = true := by
  obtain ⟨r, here⟩ := Option.isSome_iff_exists.mp here
  unfold State.anyPowerFault
  rw [List.any_eq_true]
  refine ⟨m, mem_allMovers m, ?_⟩
  rw [here]
  exact active

/-- The first HALT: PUMP_FAULT is active, and the HALT reaches the movers that go on (R109, R169). -/
theorem powerFailed_first (clear : s.haltActive = false) (power : (pumped s pin).anyPowerFault = true) :
    ((pumped s pin).reportReason .pumpFault).active .pumpFault = true ∧
      State.powerFailed pin s = ((pumped s pin).reportReason .pumpFault).haltMovers := by
  have active : ((pumped s pin).reportReason .pumpFault).active .pumpFault = true := by
    rw [reportReason_active _ rfl, if_pos rfl, State.reasonHolds, power]
    rfl
  have halt : ((pumped s pin).reportReason .pumpFault).haltActive = true := by
    rw [State.haltActive, active]
    rfl
  refine ⟨active, if_pos ?_⟩
  rw [clear]
  exact halt

theorem Dropped.congr {reason : FaultReason} (h : Dropped s m reason) (mover : t.mover m = s.mover m)
    (zcu : t.zcu = s.zcu) (sbu : t.sbu.demands = s.sbu.demands) : Dropped t m reason := by
  obtain ⟨⟨r, here, rest⟩, claim, entry⟩ := h
  unfold State.claim at claim
  unfold State.demandOf at entry
  exact ⟨⟨r, mover.trans here, rest⟩, by rw [State.claim, zcu, claim], by rw [State.demandOf, sbu, entry]⟩

/-- Settles O50: the pin's movers are faulted first, and the HALT then reaches the one that goes on. -/
theorem powerFaultHaltsTheMovers : Obligations.PowerFaultHaltsTheMovers := by
  intro pin s work fn
  refine ⟨fun change clear bound => ?_, fun change => ?_⟩
  · obtain ⟨m, here, bound⟩ := bound
    obtain ⟨cfg, fpr, records⟩ := pumped_leaves (s.deliverPin pin true) pin
    have power : (pumped (s.deliverPin pin true) pin).anyPowerFault = true := by
      refine anyPowerFault_of (m := m) ((records m).trans here) ?_
      rw [input_of_fpr fpr, moverCfg_congr cfg, show (s.deliverPin pin true).moverCfg m = s.moverCfg m from rfl, bound,
        deliverPin_input, if_pos rfl]
    obtain ⟨active, failed⟩ := powerFailed_first (s := s.deliverPin pin true) clear power
    have run : exec (.powerFaultChange pin true) s = .next (announceChange s
        ((pumped (s.deliverPin pin true) pin).reportReason .pumpFault).haltMovers) := by
      rw [← failed]
      exact congrArg Host.Outcome.next (onChange_of (State.powerFaultNow pin true) work (by rw [fn]; decide) change)
    refine ⟨_, run, ?_, fun x r there motion => ?_, fun x r there resting => ?_⟩
    · rw [announceChange_active, active_of_fcl (haltMovers_fcl _), active]
    · have moving : InMotion (s.deliverPin pin true) x := inMotion_of_mover there motion
      have dropped : Dropped (((pumped (s.deliverPin pin true) pin).reportReason .pumpFault).haltMovers) x
          (if (s.moverCfg x).powerFault = some pin then .pumpFault else .halted) := by
        split
        · next serves =>
          exact ((pumped_drops moving serves).congr (State.reportReason_mover _ _ x) (by simp) (by simp)).haltMovers
        · next free =>
          refine haltMovers_drops ((pumped_goes_on moving free).of_phase ?_)
          unfold phaseOf
          rw [State.reportReason_mover]
      obtain ⟨⟨u, now, faulted, reason, -⟩, claim, entry⟩ := dropped
      rw [announceChange_mover, announceChange_claim, announceChange_demandOf]
      exact ⟨u, now, faulted, reason, claim, entry⟩
    · have heedless : Heedless (s.deliverPin pin true) x r :=
        ⟨there, .inl fun requesting => by rw [requesting] at resting; cases resting⟩
      rw [announceChange_mover]
      exact (((heedless.pumped resting).congr (State.reportReason_mover _ _ x) (by simp) (by simp)
        (by simp)).haltMovers resting).1
  · have run : exec (.powerFaultChange pin false) s =
        .next (announceChange s ((s.deliverPin pin false).reportReason .pumpFault)) :=
      congrArg Host.Outcome.next (onChange_of (State.powerFaultNow pin false) work (by rw [fn]; decide) change)
    rw [announceChange_still (s := s) (t := (s.deliverPin pin false).reportReason .pumpFault) (State.reportReason_zcu _ _) (State.reportReason_cfg _ _)
      (State.reportReason_suc _ _)] at run
    refine ⟨_, run, ?_, State.reportReason_mvu _ _, ?_⟩
    · rw [State.reportReason_fpr]
      simp [State.deliverPin]
    · rw [reportReason_active _ rfl, if_pos rfl, anyFaulted_reportReason,
        anyPowerFault_congr (s := s.deliverPin pin false) (by simp) (by simp) (by simp)]
      rfl

/-! ### HOME -/

theorem homed_unbound (free : s.mover m = none ∨ (s.moverCfg m).home ≠ some pin) : State.homed pin s m = s := by
  unfold State.homed
  split
  · rfl
  · next here => exact if_neg fun ⟨_, bound⟩ => free.elim (fun absent => by rw [absent] at here; cases here) (· bound)

theorem homed_bound (here : s.mover m = some r) (windlass : (s.moverCfg m).kind = .windlass)
    (bound : (s.moverCfg m).home = some pin) : State.homed pin s m =
      if r.direction = some .dirB then (s.atHome m).reachEnd m else s.atHome m := by
  unfold State.homed
  rw [here]
  exact if_pos ⟨windlass, bound⟩

theorem atHome_mover (here : s.mover m = some r) : (s.atHome m).mover m = some { r with count := 0, known := true } := by
  rw [State.atHome, State.onMover_mover_same, here]
  rfl

/-- What HOME makes of a windlass it serves alone (R121, R123). -/
theorem homed_mover (here : s.mover m = some r) (windlass : (s.moverCfg m).kind = .windlass)
    (bound : (s.moverCfg m).home = some pin) : ∃ u, (State.homed pin s m).mover m = some u ∧ u.count = 0 ∧ u.known = true ∧
      (r.phase = .running → r.direction = some .dirB → u.phase = .stopping ∧ u.stopReason = some .atEnd) ∧
      (r.phase = .requesting → r.direction = some .dirB → u.phase = .idle ∧ u.lastRefusal = .atLimit) ∧
      (r.direction ≠ some .dirB → u = { r with count := 0, known := true }) := by
  rw [homed_bound here windlass bound]
  split
  · next haul =>
    obtain ⟨u, there, count, known⟩ := reachEnd_mover (atHome_mover here)
    refine ⟨u, there, count, known, fun running _ => ?_, fun requesting _ => ?_, fun other => absurd haul other⟩
    · rw [reachEnd_stops (atHome_mover here) running, State.enterStopping_mover, atHome_mover here] at there
      cases there
      exact ⟨rfl, rfl⟩
    · rw [reachEnd_abandons (atHome_mover here) (.inl requesting), State.enterIdle_mover, atHome_mover here] at there
      cases there
      exact ⟨rfl, rfl⟩
  · next out =>
    exact ⟨_, atHome_mover here, rfl, rfl, fun _ haul => absurd haul out, fun _ haul => absurd haul out, fun _ => rfl⟩

theorem homed_mover_other_none (absent : s.mover (otherMover m) = none) :
    (State.homed pin s m).mover (otherMover m) = none := by
  have home : (s.atHome m).mover (otherMover m) = none := (State.onMover_mover_other s m _ _ (otherMover_ne m)).trans absent
  unfold State.homed
  split
  · exact absent
  · split
    · split
      · exact reachEnd_mover_other_none home
      · exact home
    · exact absent

theorem homed_cfg (s : State) (pin : PinId) (m : MoverId) : (State.homed pin s m).cfg = s.cfg := by
  unfold State.homed
  split
  · rfl
  · split
    · split <;> simp
    · rfl

theorem homed_alone (free : s.mover (otherMover m) = none ∨ (s.moverCfg (otherMover m)).home ≠ some pin) :
    allMovers.foldl (State.homed pin) s = State.homed pin s m := by
  have after : State.homed pin (State.homed pin s m) (otherMover m) = State.homed pin s m :=
    homed_unbound (free.imp homed_mover_other_none fun unbound => by rwa [moverCfg_congr (homed_cfg s pin m)])
  show State.homed pin (State.homed pin s 0) 1 = _
  obtain rfl | rfl := mover_cases m
  · exact after
  · rw [show State.homed pin s 0 = s from homed_unbound free]

theorem reportCount_active (s : State) : s.reportCount.active .countUnknown = s.reportCount.anyCountUnknown := by
  have same : s.reportCount.anyCountUnknown = s.anyCountUnknown := by
    unfold State.anyCountUnknown State.mover State.moverCfg State.reportCount
    simp
  rw [same, State.reportCount, State.reportCond_active, if_pos rfl]

/-- What a panel reads of a mover (R113, R115, R128). -/
theorem summary_windlass (here : s.mover m = some r) (fitted : r.phase ≠ .unfitted)
    (windlass : (s.moverCfg m).kind = .windlass) : s.summary m =
      if s.input (s.moverCfg m).home = true then .atBEnd else if r.known = true then .between else .unknown := by
  unfold State.summary
  dsimp only
  rw [here]
  dsimp only
  rw [windlass]
  exact if_neg fitted

theorem summary_other (here : s.mover m = some r) (fitted : r.phase ≠ .unfitted)
    (other : (s.moverCfg m).kind ≠ .windlass) : s.summary m =
      match s.input (s.moverCfg m).endA, s.input (s.moverCfg m).endB with
      | true, true => .unknown
      | true, false => .atAEnd
      | false, true => .atBEnd
      | false, false => .between := by
  unfold State.summary
  dsimp only
  rw [here]
  cases kind : (s.moverCfg m).kind with
  | windlass => exact absurd kind other
  | hatch | platform =>
    dsimp only
    rw [if_neg fitted]
    cases s.input (s.moverCfg m).endA <;> cases s.input (s.moverCfg m).endB <;> rfl

theorem moverStatus_of (here : s.mover m = some r) : s.moverStatus m = some
    { index := m
      kind := (s.moverCfg m).kind
      phase := r.phase
      summary := s.summary m
      detail := if (s.moverCfg m).kind = .windlass then rodeLength (s.moverCfg m) r.count else 0
      refusal := r.lastRefusal.code } := by
  unfold State.moverStatus
  rw [here]

/-- Settles O52: HOME acts on its one windlass and reports the count; the status entry is read off the record. -/
theorem homeAndThePositionShown : Obligations.HomeAndThePositionShown := by
  refine ⟨fun pin m r s work fn here windlass bound => ⟨fun change free => ?_, fun change => ?_⟩,
    fun m r s here fitted => ?_⟩
  · obtain ⟨u, there, count, known, stops, abandons, stays⟩ :=
      homed_mover (s := s.deliverPin pin true) (pin := pin) here windlass bound
    have run : exec (.homeChange pin true) s =
        .next (announceChange s (State.homed pin (s.deliverPin pin true) m).reportCount) := by
      rw [← homed_alone (s := s.deliverPin pin true) free]
      exact congrArg Host.Outcome.next (onChange_of (State.homeNow pin true) work (by rw [fn]; decide) change)
    refine ⟨_, u, run, ?_, count, known, ?_, stops, abandons, stays⟩
    · rw [announceChange_mover, State.mover, State.reportCount_mvu]
      exact there
    · rw [announceChange_active, reportCount_active]
      unfold State.anyCountUnknown State.mover State.moverCfg
      rw [announceChange_mvu, announceChange_cfg]
  · have run : exec (.homeChange pin false) s = .next (announceChange s (s.deliverPin pin false)) :=
      congrArg Host.Outcome.next (onChange_of (State.homeNow pin false) work (by rw [fn]; decide) change)
    rw [run, announceChange_still (s := s) (t := s.deliverPin pin false) rfl rfl rfl]
  · have status := moverStatus_of here
    refine ⟨_, status, rfl, rfl, rfl, rfl, fun windlass => ⟨?_, ?_, ?_⟩, fun other => ⟨?_, ?_⟩⟩
    · exact if_pos windlass
    · intro count pitch
      dsimp only
      rw [if_pos windlass, rodeLength]
      have product : r.count * (s.moverCfg m).chain.pitch ≤ 4095 * 1000 := Nat.mul_le_mul count pitch
      omega
    · exact summary_windlass here fitted windlass
    · exact if_neg other
    · exact summary_other here fitted other

/-! ### STANDBY -/

/-- Stand-down has begun, with the STANDBY pin's new value, and no mover has acted yet (R175). -/
def begun (s : State) (pin : PinId) : State := { s.deliverPin pin true with suc := { s.suc with standDown := true } }

theorem Heedless.standbyStop (h : Heedless s m r) (other : m ≠ x) : Heedless (s.standbyStop x) m r := by
  unfold State.standbyStop
  split
  · exact h
  · split
    case h_1 | h_2 => exact h.enterIdle other _
    case h_3 => exact h.onMover other _
    all_goals exact h

theorem IdleFor.standbyStop {code : RefusalCode} (h : IdleFor s m code) (other : m ≠ x) : IdleFor (s.standbyStop x) m code := by
  unfold State.standbyStop
  split
  · exact h
  · split
    case h_1 | h_2 => exact h.enterIdle other _
    case h_3 => exact h.onMover other _
    all_goals exact h

theorem standbyStop_same (s : State) (m : MoverId) : (s.standbyStop m).cfg = s.cfg ∧ (s.standbyStop m).now = s.now ∧
    (s.standbyStop m).fpr = s.fpr := by simp

theorem standbyStop_stops (here : s.mover m = some r) (running : r.phase = .running) :
    s.standbyStop m = s.enterStopping m .standby none := by
  simp only [State.standbyStop, here, running]

theorem standbyStop_abandons (here : s.mover m = some r) (phase : r.phase = .unlocking ∨ r.phase = .requesting) :
    s.standbyStop m = s.enterIdle m .standby := by
  obtain e | e := phase <;> simp only [State.standbyStop, here, e]

theorem standbyStop_leaves (here : s.mover m = some r) (running : r.phase ≠ .running) (unlocking : r.phase ≠ .unlocking)
    (requesting : r.phase ≠ .requesting) : s.standbyStop m = s := by
  unfold State.standbyStop
  rw [here]
  dsimp only
  split <;> simp_all

/-- Settles O55: with stand-down begun neither mover starts at the other's release, so each acts alone. -/
theorem standbyStopsAndReleases : Obligations.StandbyStopsAndReleases := by
  intro pin s bound fn running
  have work : s.working = true := by
    unfold State.running at running
    rw [State.working, running, Bool.or_true]
  refine ⟨fun change => ?_, fun change => ?_⟩
  · have run : exec .standbyAssert s = .next (announceChange s (((begun s pin).standbyStop 0).standbyStop 1)) := by
      have taken : (s.deliverPin pin true).standbyAsserted = ((begun s pin).standbyStop 0).standbyStop 1 := if_pos running
      rw [← taken]
      refine congrArg Host.Outcome.next ?_
      rw [bound]
      exact onChange_of State.standbyAsserted work (by rw [fn]; decide) change
    have suc : (announceChange s (((begun s pin).standbyStop 0).standbyStop 1)).suc = { s.suc with standDown := true } := by
      rw [announceChange_suc, State.standbyStop_suc, State.standbyStop_suc]
      rfl
    have heedless : ∀ {m r}, s.mover m = some r → Heedless (begun s pin) m r := fun here => ⟨here, .inr (.inl rfl)⟩
    refine ⟨_, run, suc, by simp [begun], ?_, fun m r here running => ?_, fun m r here phase => ?_,
      fun m r here running unlocking requesting => ?_⟩
    · unfold State.standDownState
      rw [suc, if_pos rfl]
      split <;> nofun
    · rw [announceChange_mover]
      exact (both_act (f := State.standbyStop) (fun t => Heedless t m (stopped s m r .standby))
        (fun _ _ other h => h.standbyStop other) (fun u x => standbyStop_same u x) (fun _ _ other h => h.standbyStop other)
        (fun u h cfg now _ => by
          rw [standbyStop_stops h.1 running, ← stopped_congr (s := s) cfg now]
          exact heedless_enterStopping h.1 .standby)
        (heedless here)).1
    · have idle := both_act (f := State.standbyStop) (fun t => IdleFor t m .standby)
        (fun _ _ other h => h.standbyStop other) (fun u x => standbyStop_same u x) (fun _ _ other h => h.standbyStop other)
        (fun u h _ _ _ => by
          rw [standbyStop_abandons h.1 phase]
          exact idleFor_enterIdle h.1 _)
        (heedless here)
      obtain ⟨u, there, phase, code, claim, -⟩ := idle.announced s
      exact ⟨u, there, phase, code, claim⟩
    · rw [announceChange_mover]
      exact (both_act (f := State.standbyStop) (fun t => Heedless t m r) (fun _ _ other h => h.standbyStop other)
        (fun u x => standbyStop_same u x) (fun _ _ other h => h.standbyStop other)
        (fun u h _ _ _ => by rwa [standbyStop_leaves h.1 running unlocking requesting]) (heedless here)).1
  · have run : exec .standbyDeassert s = .next (announceChange s (s.deliverPin pin false).endStandDown) := by
      refine congrArg Host.Outcome.next ?_
      rw [bound]
      exact onChange_of State.endStandDown work (by rw [fn]; decide) change
    rw [run]
    exact congrArg Host.Outcome.next (announceChange_of_same rfl)

end Sys2Proof.Safety
end

section
/-! PROOFS. The peer table: filing, FORGET and ageing, a clash, and how an intent gives way to a peer's claim and resumes
(R5, R8 to R12, R73, R74, R80, R110). -/

namespace Sys2Proof.Safety

open Sys2Proof Sys2Proof.Machine

variable {s t : State} {m x : MoverId} {r : Mover} {p : PortId} {frame : List Byte} {src target : Nat} {a : Announce}
  {i : SlotId}

/-! ### Filing and FORGET -/

theorem mutual_number {n : Nat} (station : stationNumber n = true) : ∃ i, slotOf n = some i := by
  unfold slotOf
  have within : 1 ≤ n ∧ n ≤ 48 := by simpa [stationNumber] using station
  exact ⟨_, dif_pos within⟩

/-- The source of an ANNOUNCE that is not malformed is a station number (R161). -/
theorem parse_announce_source (parsed : parseFrame frame = some (.announce src a)) : ∃ i, slotOf src = some i := by
  unfold parseFrame at parsed
  split at parsed
  · next station =>
    split at parsed
    · unfold parseDrive at parsed
      split at parsed <;> cases parsed
    · obtain ⟨b, -, made⟩ := Option.map_eq_some_iff.mp parsed
      cases made
      exact mutual_number station
    · unfold parseSet at parsed
      split at parsed <;> cases parsed
    · unfold parseScene at parsed
      split at parsed <;> cases parsed
    · unfold parseForget at parsed
      split at parsed <;> cases parsed
    · cases parsed
  · cases parsed

theorem fileAnnounce_ptu (s : State) (i : SlotId) (a : Announce) :
    (s.fileAnnounce i a).ptu = (s.setPeer i (some { status := .live, heard := s.now, ann := a })).ptu := by
  unfold State.fileAnnounce
  simp only [State.reexamine_ptu]
  rw [foldl_keeps State.ptu _ (fun u x => by unfold State.judgeClash; split <;> simp) allMovers, State.reportOrphans_ptu]

theorem deliverAnnounce_files (other : s.suc.ownNumber ≠ some src) (slot : slotOf src = some i) (a : Announce) :
    s.deliverAnnounce src a = s.fileAnnounce i a := by
  unfold State.deliverAnnounce
  rw [if_neg other, slot]

theorem deliverForget_obeyed {x : PeerRec} (officer : src ∈ s.cfg.officers) (other : s.suc.ownNumber ≠ some target)
    (slot : slotOf target = some i) (held : s.ptu.peers[i] = some x) :
    s.deliverForget src target = ((s.setPeer i none).reportOrphans).reexamine := by
  unfold State.deliverForget
  rw [if_pos ⟨officer, other⟩, slot]
  dsimp only
  rw [held]

theorem deliverForget_absent (slot : slotOf target = some i) (absent : s.ptu.peers[i] = none) :
    s.deliverForget src target = s := by
  unfold State.deliverForget
  split
  · rw [slot]
    dsimp only
    rw [absent]
  · rfl

/-- A good frame of a phase that delivers, of its own row, is a good frame of its row. -/
theorem goodFrameOf {f : Frame} (good : GoodFrame s p frame f) : GoodFrameOf (rowOf p frame f) s p frame := by
  obtain ⟨hears, -, whole, crc, parsed⟩ := good
  exact ⟨hears, whole, crc, .inr ⟨f, parsed, rfl⟩⟩

theorem checkAndDeliver_good {f : Frame} (good : GoodFrame s p frame f) :
    (s.takeGoodFrame p).checkAndDeliver frame = (s.takeGoodFrame p).deliver f := by
  obtain ⟨-, delivers, -, -, parsed⟩ := good
  have still : (s.takeGoodFrame p).delivers = true := by
    unfold State.delivers State.working
    rw [State.takeGoodFrame_suc]
    exact delivers
  unfold State.checkAndDeliver
  rw [if_pos still, parsed]

/-! ### Ageing -/

theorem ageTo_leaves (s : State) (i : SlotId) (status : PeerStatus) :
    s.ageTo i status = { s with ptu := (s.ageTo i status).ptu, fcl := (s.ageTo i status).fcl } ∧
      ∀ j : SlotId, (s.ageTo i status).ptu.peers[j] =
        if j = i then (s.ptu.peers[i]).map fun r => { r with status := status } else s.ptu.peers[j] := by
  have ptu : (s.ageTo i status).ptu = (s.setPeer i ((s.ptu.peers[i]).map fun r => { r with status := status })).ptu :=
    State.reportOrphans_ptu _
  refine ⟨?_, fun j => ?_⟩
  · rw [ptu]
    exact reportCond_eq _ _ _
  · rw [ptu, State.setPeer_record]

theorem ageTo_orphan {x : PeerRec} (here : s.ptu.peers[i] = some x) : (s.ageTo i .orphan).active .peerOrphaned = true := by
  have orphan : ((s.setPeer i ((s.ptu.peers[i]).map fun r => { r with status := .orphan })).records.any
      fun r => r.status = .orphan) = true := by
    rw [List.any_eq_true]
    refine ⟨{ x with status := .orphan }, (State.mem_records _ _).mpr ⟨i, ?_⟩, decide_eq_true rfl⟩
    rw [State.setPeer_record, if_pos rfl, here]
    rfl
  unfold State.ageTo State.reportOrphans
  rw [orphan, State.reportCond_active, if_pos rfl]

theorem exec_peerStale {x : PeerRec} (here : s.ptu.peers[i] = some x) : exec (.peerStale i) s =
    .next (if x.status = .live ∧ x.heard + 3 * x.ann.period.ms ≤ s.now then s.ageTo i .stale else s) := by
  refine congrArg Host.Outcome.next (if_congr ?_ rfl rfl)
  rw [State.staleDue, here]
  rw [Bool.and_eq_true_iff, decide_eq_true_iff, decide_eq_true_iff, silentSince]

theorem exec_peerOrphan {x : PeerRec} (here : s.ptu.peers[i] = some x) : exec (.peerOrphan i) s =
    .next (if x.status ≠ .orphan ∧ x.heard + 10 * x.ann.period.ms ≤ s.now then s.ageTo i .orphan else s) := by
  refine congrArg Host.Outcome.next (if_congr ?_ rfl rfl)
  rw [State.orphanDue, here]
  rw [Bool.and_eq_true_iff, decide_eq_true_iff, decide_eq_true_iff, silentSince]

theorem exec_forget (good : GoodFrame s p frame (.forget src target)) (calm : Calm s p) :
    exec (.forget p frame) s = .next (announceChange s ((heardNow s p).deliverForget src target)) := by
  show Host.Outcome.next (s.receive p frame isForget) = _
  rw [receive_goodFrame good calm rfl]
  rfl

theorem exec_announce (good : GoodFrame s p frame (.announce src a)) (calm : Calm s p) :
    exec (.announceReceived p frame) s = .next (announceChange s ((heardNow s p).deliverAnnounce src a)) := by
  show Host.Outcome.next (s.receive p frame isAnnounce) = _
  rw [receive_goodFrame good calm rfl]
  rfl

/-- Settles O27: the FORGET is delivered to the station that has heard it; a record ages at its own instants. -/
theorem peersAgeAndAreForgotten : Obligations.PeersAgeAndAreForgotten := by
  refine ⟨fun p frame src target i s good slot calm => ⟨fun officer other => ?_, fun ignored => ?_⟩,
    fun n r s here => ⟨fun live silent => ?_, fun known silent => ?_, fun early => ⟨?_, ?_⟩⟩⟩
  · have run := exec_forget good calm
    refine ⟨_, run, ?_⟩
    rw [announceChange_ptu, announceChange_lcu, announceChange_fpr, announceChange_ktu]
    cases held : s.ptu.peers[i] with
    | none =>
      rw [deliverForget_absent slot (by rw [heardNow_ptu]; exact held), heardNow_ptu]
      exact ⟨held, fun _ _ => rfl, by simp, by simp, by simp⟩
    | some x =>
      rw [deliverForget_obeyed (by rw [heardNow_cfg]; exact officer) (by rw [heardNow_suc]; exact other) slot
        (by rw [heardNow_ptu]; exact held), State.reexamine_ptu, State.reportOrphans_ptu]
      refine ⟨?_, fun j away => ?_, by simp, by simp, by simp⟩
      · rw [State.setPeer_record, if_pos rfl]
      · rw [State.setPeer_record, if_neg away, heardNow_ptu]
  · have run := exec_forget good calm
    have kept : (heardNow s p).deliverForget src target = heardNow s p := by
      unfold State.deliverForget
      rw [heardNow_cfg, heardNow_suc, if_neg (fun ⟨officer, other⟩ => ignored.elim (· officer) (other ·))]
    rw [run, kept, announceChange_still heardNow_zcu heardNow_cfg (heardNow_suc s p)]
  · obtain ⟨leaves, records⟩ := ageTo_leaves s n .stale
    refine ⟨_, (exec_peerStale here).trans (congrArg _ (if_pos ⟨live, silent⟩)), leaves, ?_, fun j away => ?_⟩
    · rw [records, if_pos rfl, here]
      rfl
    · rw [records, if_neg away]
  · obtain ⟨leaves, records⟩ := ageTo_leaves s n .orphan
    refine ⟨_, (exec_peerOrphan here).trans (congrArg _ (if_pos ⟨known, silent⟩)), leaves, ?_, fun j away => ?_,
      ageTo_orphan here⟩
    · rw [records, if_pos rfl, here]
      rfl
    · rw [records, if_neg away]
  · exact (exec_peerStale here).trans (congrArg _ (if_neg fun ⟨_, late⟩ => by omega))
  · exact (exec_peerOrphan here).trans (congrArg _ (if_neg fun ⟨_, late⟩ => by omega))

/-! ### A clash -/

/-- What FAULTED keeps of a record: all but the phase and what belongs to a motion (R107). -/
def kept (r : Mover) : Mover := { dropMotion r with phase := .idle }

/-- Mover m is in motion with its claim HELD, and its record keeps what r keeps. -/
def HeldOn (s : State) (m : MoverId) (r : Mover) : Prop :=
  ∃ y, s.mover m = some y ∧ y.phase.inMotion = true ∧ kept y = kept r ∧ s.claim m = .held

/-- The record of a mover FAULTED with CLASH (R107, R110). -/
def clashed (r : Mover) : Mover :=
  { dropMotion r with phase := .faulted, faultReason := some .clash, lastRefusal := .clash }

theorem clashed_of_kept {y : Mover} (same : kept y = kept r) : clashed y = clashed r :=
  congrArg (fun z => { z with phase := .faulted, faultReason := some .clash, lastRefusal := .clash }) same

theorem proceed_kept (s : State) (m : MoverId) (here : s.mover m = some r) (motion : r.phase.inMotion = true) :
    ∃ y, (s.proceed m).mover m = some y ∧ y.phase.inMotion = true ∧ kept y = kept r := by
  obtain e | ⟨-, e | e⟩ := State.proceed_mover s m m
  · exact ⟨r, e.trans here, motion, rfl⟩
  · rw [State.enterRunning_mover, here] at e
    exact ⟨_, e, rfl, rfl⟩
  · rw [here] at e
    exact ⟨_, e, rfl, rfl⟩

theorem HeldOn.lookAgain (h : HeldOn s m r) : HeldOn (s.lookAgain m) m r := by
  obtain ⟨y, here, motion, same, held⟩ := h
  have claim : (s.lookAgain m).claim m = .held := (State.lookAgain_claim s m m).trans held
  unfold State.lookAgain at claim ⊢
  rw [here] at claim ⊢
  dsimp only at claim ⊢
  split
  · obtain ⟨z, there, motion', same'⟩ := proceed_kept s m here motion
    rename_i asks
    rw [if_pos asks] at claim
    exact ⟨z, there, motion', same'.trans same, claim⟩
  · exact ⟨y, here, motion, same, held⟩

theorem examineClaims_held (held : s.claim m = .held) : s.examineClaims.claim m = .held := by
  have each : ∀ {u : State} x, u.claim m = .held → (u.examineClaim x).claim m = .held := fun {u} x held => by
    rw [State.examineClaim_claim]
    split
    · next same => subst same; exact (State.nextClaim_stands u m (.inr held)).trans held
    · exact held
  exact each 1 (each 0 held)

/-- The other mover's fault leaves a mover that holds on in motion, its claim HELD. -/
theorem HeldOn.faultOther (h : HeldOn s m r) (other : m ≠ x) (reason : FaultReason) :
    HeldOn (s.faultInMotion x reason) m r := by
  unfold State.faultInMotion
  split
  · split
    · obtain rfl := eq_otherMover other
      obtain ⟨y, here, motion, same, held⟩ := h
      refine HeldOn.lookAgain ⟨y, ?_, motion, same, ?_⟩
      · rw [State.reportReason_mover, State.releaseClaim_mover, State.removeEntry_mover,
          State.onMover_mover_other _ _ _ _ other, here]
      · unfold State.claim
        rw [State.reportReason_zcu]
        refine examineClaims_held ?_
        rw [State.setClaim_claim, if_neg other]
        exact held
    · exact h
  · exact h

theorem HeldOn.judgeOther (h : HeldOn s m r) (other : m ≠ x) (filed : List ClaimStatus) :
    HeldOn (State.judgeClash filed s x) m r := by
  unfold State.judgeClash
  split
  · exact h.faultOther other _
  · exact h

/-- Mover m is FAULTED with CLASH, its claim released, its entry given up, and the kind reported. -/
structure Clashed (s : State) (m : MoverId) (r : Mover) : Prop where
  mover : s.mover m = some (clashed r)
  claim : s.claim m = .unclaimed
  entry : s.demandOf (.mover m) = none
  active : s.active .clash = true

theorem Clashed.heedless (h : Clashed s m r) : Heedless s m (clashed r) := ⟨h.mover, .inl nofun⟩

theorem HeldOn.clashes (h : HeldOn s m r) : Clashed (s.faultInMotion m .clash) m r := by
  obtain ⟨y, here, motion, same, -⟩ := h
  rw [faultInMotion_of_inMotion (inMotion_of_mover here motion)]
  exact ⟨by rw [State.enterFaulted_mover, here, ← clashed_of_kept same]; rfl, State.enterFaulted_claim s m .clash,
    by rw [State.enterFaulted_demandOf, if_pos rfl], enterFaulted_reports here rfl⟩

theorem Clashed.judgeOther (h : Clashed s m r) (other : m ≠ x) (filed : List ClaimStatus) :
    Clashed (State.judgeClash filed s x) m r := by
  unfold State.judgeClash
  split
  · unfold State.faultInMotion
    split
    · next y here =>
      split
      · exact ⟨(h.heedless.enterFaulted other .clash).1, enterFaulted_unclaimed h.claim x .clash,
          by rw [State.enterFaulted_demandOf, h.entry, ite_self], enterFaulted_reports here rfl⟩
      · exact h
    · exact h
  · exact h

theorem react_out (here : s.mover m = some r) (resting : r.phase.inMotion = false) : s.react m = s := by
  cases phase : r.phase <;> rw [phase] at resting <;> simp only [State.react, here, phase] <;> exact absurd resting nofun

theorem Heedless.proceed (h : Heedless s m r) (other : m ≠ x) : Heedless (s.proceed x) m r :=
  h.congr (proceed_mover_other other) (by simp) (by simp) (by simp)

/-- Looking at the other mover leaves one at rest as it is, without a claim and without an entry. -/
theorem Clashed.react (h : Clashed s m r) (x : MoverId) : Clashed (s.react x) m r := by
  by_cases same : x = m
  · subst x
    rwa [react_out h.mover rfl]
  · have other : m ≠ x := Ne.symm same
    obtain ⟨mover, claim, entry, active⟩ := h
    have heedless : Heedless s m (clashed r) := ⟨mover, .inl nofun⟩
    unfold State.react
    split
    · exact ⟨mover, claim, entry, active⟩
    · split
      case h_1 =>
        exact ⟨(heedless.proceed other).1, by rwa [State.claim, State.proceed_zcu], by rwa [State.demandOf, State.proceed_sbu],
          by rwa [active_of_fcl (State.proceed_fcl _ _)]⟩
      case h_2 =>
        split
        · exact ⟨mover, claim, entry, active⟩
        · exact ⟨(heedless.enterIdle other _).1, enterIdle_unclaimed claim x _,
            by rw [State.enterIdle_demandOf, entry, ite_self], by rwa [active_of_fcl (State.enterIdle_fcl _ _ _)]⟩
      case h_3 =>
        split
        · exact ⟨(heedless.onMover other _).1, claim, entry, active⟩
        · exact ⟨mover, claim, entry, active⟩
      all_goals exact ⟨mover, claim, entry, active⟩

theorem Clashed.reexamine (h : Clashed s m r) : Clashed s.reexamine m r := by
  have looked : Clashed s.examineClaims m r :=
    ⟨by rw [State.mover, State.examineClaims_mvu]; exact h.mover, examineClaims_unclaimed h.claim,
      by rw [State.demandOf, State.examineClaims_sbu]; exact h.entry,
      by rw [active_of_fcl (State.examineClaims_fcl s)]; exact h.active⟩
  exact (looked.react 0).react 1

theorem judgeClash_clashes {filed : List ClaimStatus} (h : HeldOn s m r)
    (meets : ∃ c ∈ filed, c.held = true ∧ zonesMeet (s.zonesOf m) c.zones = true) :
    Clashed (State.judgeClash filed s m) m r := by
  have clash : s.clashes m filed = true := by
    obtain ⟨y, -, -, -, held⟩ := h
    obtain ⟨c, mem, itsHeld, common⟩ := meets
    unfold State.clashes
    rw [held, decide_eq_true rfl, Bool.true_and, List.any_eq_true]
    exact ⟨c, mem, by rw [itsHeld, common]; rfl⟩
  unfold State.judgeClash
  rw [if_pos clash]
  exact h.clashes

theorem judgeClash_cfg (filed : List ClaimStatus) (s : State) (x : MoverId) :
    (State.judgeClash filed s x).cfg = s.cfg := by
  unfold State.judgeClash
  split <;> simp

theorem zonesOf_congr (cfg : t.cfg = s.cfg) (m : MoverId) : t.zonesOf m = s.zonesOf m := by
  unfold State.zonesOf
  rw [cfg]

theorem fileAnnounce_clashes (here : s.mover m = some r) (motion : r.phase.inMotion = true) (held : s.claim m = .held)
    (meets : ∃ c ∈ a.claims, c.held = true ∧ zonesMeet (s.zonesOf m) c.zones = true) (i : SlotId) :
    Clashed (s.fileAnnounce i a) m r := by
  have filed : HeldOn ((s.setPeer i (some { status := .live, heard := s.now, ann := a })).reportOrphans) m r :=
    ⟨r, by rw [State.mover, State.reportOrphans_mvu]; exact here, motion, rfl,
      by rw [State.claim, State.reportOrphans_zcu]; exact held⟩
  have zones : ∀ u : State, u.cfg = s.cfg → ∃ c ∈ a.claims, c.held = true ∧ zonesMeet (u.zonesOf m) c.zones = true :=
    fun u cfg => by rw [zonesOf_congr cfg]; exact meets
  refine Clashed.reexamine ?_
  show Clashed (State.judgeClash a.claims (State.judgeClash a.claims _ 0) 1) m r
  obtain rfl | rfl := mover_cases m
  · exact (judgeClash_clashes filed (zones _ (by rw [State.reportOrphans_cfg]; rfl))).judgeOther (by decide) a.claims
  · exact judgeClash_clashes (filed.judgeOther (by decide) a.claims)
      (zones _ (by rw [judgeClash_cfg, State.reportOrphans_cfg]; rfl))

theorem malformed_not_port : FaultKind.malformed ∉ portKinds ++ fitnessKinds := by decide

/-- Settles O26: the ANNOUNCE is filed in its source's slot; a clash faults the mover before the claims are looked at. -/
theorem announceIsFiledAndMayClash : Obligations.AnnounceIsFiledAndMayClash := by
  refine ⟨fun p frame src a i s good other slot => ?_, fun p frame src a m r s good other calm here motion held meets => ?_⟩
  · have number : (s.takeGoodFrame p).suc.ownNumber ≠ some src := by rwa [State.takeGoodFrame_suc]
    have run : exec (.announceReceived p frame) s =
        .next (announceChange s ((s.takeGoodFrame p).deliver (.announce src a))) := by
      rw [← checkAndDeliver_good good]
      exact exec_goodFrameOf (goodFrameOf good)
    have filed : (s.takeGoodFrame p).deliver (.announce src a) = (s.takeGoodFrame p).fileAnnounce i a :=
      deliverAnnounce_files number slot a
    rw [filed] at run
    refine ⟨_, run, ?_, fun j away => ?_, ?_, ?_, ?_, ?_⟩
    · rw [announceChange_ptu, fileAnnounce_ptu, State.setPeer_record, if_pos rfl, State.takeGoodFrame_now]
    · rw [announceChange_ptu, fileAnnounce_ptu, State.setPeer_record, if_neg away, State.takeGoodFrame_ptu]
    · rw [announceChange_active, (reports_fileAnnounce _ i a).active (by decide)]
      exact (reports_movePort s p _).active malformed_not_port
    · simp
    · simp
    · simp
  · have ⟨_, _, _, _, parsed⟩ := good
    obtain ⟨i, slot⟩ := parse_announce_source parsed
    have run : exec (.announceReceived p frame) s = .next (announceChange s ((heardNow s p).fileAnnounce i a)) := by
      rw [← deliverAnnounce_files (by rw [heardNow_suc]; exact other) slot a]
      exact exec_announce good calm
    obtain ⟨mover, claim, entry, active⟩ := fileAnnounce_clashes (s := heardNow s p) (heardNow_mover.trans here) motion
      (heardNow_claim.trans held) (by rw [zonesOf_congr heardNow_cfg]; exact meets) i
    refine ⟨_, run, ?_, ?_, ?_, ?_⟩
    · rw [announceChange_claim, claim]
    · rw [announceChange_demandOf, entry]
    · rw [announceChange_active, active]
    · rw [announceChange_mover, mover]
      rfl

end Sys2Proof.Safety
end

section
/-! PROOFS. An intent gives way to a peer's claim and resumes once nothing stands in its way (R70, R73, R74, R79, R82). -/

namespace Sys2Proof.Safety

open Sys2Proof Sys2Proof.Machine

variable {s t : State} {m x : MoverId} {r : Mover} {c : Claim} {p : PortId} {frame : List Byte} {src target : Nat}
  {a : Announce} {i : SlotId}

/-! ### What the records hold against a claim -/

/-- A claim of some record stands in the way of mover m (R70). -/
def peerBlocks (s : State) (m : MoverId) : Bool := s.peerClaims.any (blocksClaim (s.zonesOf m) (s.claimKey m))

/-- A claim that stands in the way of mover m: it meets its zones, and is HELD or has no higher key (R70). -/
def Against (s : State) (m : MoverId) (c : ClaimStatus) : Prop :=
  zonesMeet (s.zonesOf m) c.zones = true ∧ (c.held = true ∨ c.key ≤ s.claimKey m)

theorem blocksClaim_iff (s : State) (m : MoverId) (c : ClaimStatus) :
    blocksClaim (s.zonesOf m) (s.claimKey m) c = true ↔ Against s m c := by
  simp [blocksClaim, Against]

theorem peerBlocks_iff : peerBlocks s m = true ↔
    ∃ (j : SlotId) (y : PeerRec) (c : ClaimStatus), s.ptu.peers[j] = some y ∧ c ∈ y.ann.claims ∧ Against s m c := by
  unfold peerBlocks State.peerClaims
  simp only [List.any_eq_true, List.mem_flatMap, State.mem_records, blocksClaim_iff]
  constructor
  · rintro ⟨c, ⟨y, ⟨j, there⟩, mem⟩, against⟩
    exact ⟨j, y, c, there, mem, against⟩
  · rintro ⟨j, y, c, there, mem, against⟩
    exact ⟨c, ⟨y, ⟨j, there⟩, mem⟩, against⟩

theorem peerBlocks_congr (ptu : t.ptu = s.ptu) (cfg : t.cfg = s.cfg) (suc : t.suc = s.suc) :
    peerBlocks t m = peerBlocks s m := by
  unfold peerBlocks State.peerClaims State.records State.zonesOf State.claimKey State.number
  rw [ptu, cfg, suc]

theorem peerBlocks_examineClaim (s : State) (x m : MoverId) : peerBlocks (s.examineClaim x) m = peerBlocks s m :=
  peerBlocks_congr (State.examineClaim_ptu s x) (State.examineClaim_cfg s x) (State.examineClaim_suc s x)

theorem against_congr (cfg : t.cfg = s.cfg) (suc : t.suc = s.suc) (c : ClaimStatus) : Against t m c ↔ Against s m c := by
  unfold Against State.claimKey State.number
  rw [zonesOf_congr cfg, suc]

/-- Nothing in the records is against the claim but for slot i, and what slot i holds now is not. -/
theorem peerBlocks_false (free : ∀ j y, j ≠ i → s.ptu.peers[(j : SlotId)] = some y → ∀ c ∈ y.ann.claims, ¬Against s m c)
    (here : ∀ y, s.ptu.peers[i] = some y → ∀ c ∈ y.ann.claims, ¬Against s m c) : peerBlocks s m = false := by
  rw [Bool.eq_false_iff, ne_eq, peerBlocks_iff]
  rintro ⟨j, y, c, there, mem, against⟩
  by_cases same : j = i
  · subst j
    exact here y there c mem against
  · exact free j y same there c mem against

theorem obstacle_of_peer (blocks : peerBlocks s m = true) : s.obstacle m = true := by
  unfold State.obstacle
  exact Bool.or_eq_true_iff.mpr (.inl blocks)

theorem obstacle_of_free (blocks : peerBlocks s m = false) (other : s.claim (otherMover m) = .unclaimed) :
    s.obstacle m = false := by
  unfold State.obstacle State.ownOtherBlocks
  rw [other, Bool.and_false, Bool.or_false]
  exact blocks

/-! ### An intent that has come to stand -/

/-- Mover m's request stands with claim c whatever the other mover does now: it waits behind a peer's claim, or it listens
with its window still open, the records free and the other claim NONE. -/
structure Stands (s : State) (m : MoverId) (r : Mover) (c : Claim) : Prop where
  mover : s.mover m = some r
  requesting : r.phase = .requesting
  claim : s.claim m = c
  why : (peerBlocks s m = true ∧ c = .waiting) ∨
    (peerBlocks s m = false ∧ s.claim (otherMover m) = .unclaimed ∧
      ∃ k, c = .listening k ∧ s.now < k + s.cfg.listenWindow)

theorem Stands.not_held (h : Stands s m r c) : s.claim m ≠ .held := by
  obtain ⟨-, -, claim, ⟨-, e⟩ | ⟨-, -, k, e, -⟩⟩ := h <;> rw [claim, e] <;> nofun

theorem Stands.nextClaim (h : Stands s m r c) : s.nextClaim m = c := by
  obtain ⟨-, -, claim, ⟨blocks, rfl⟩ | ⟨free, other, k, rfl, early⟩⟩ := h
  · unfold State.nextClaim
    rw [claim]
    exact if_pos (obstacle_of_peer blocks)
  · have late : ¬k + s.cfg.listenWindow ≤ s.now := by omega
    unfold State.nextClaim
    rw [claim]
    simp [obstacle_of_free free other, State.promotable, late]

theorem Stands.congr (h : Stands s m r c) (mover : t.mover m = s.mover m) (claim : t.claim m = s.claim m)
    (other : s.claim (otherMover m) = .unclaimed → t.claim (otherMover m) = .unclaimed) (ptu : t.ptu = s.ptu)
    (cfg : t.cfg = s.cfg) (suc : t.suc = s.suc) (now : t.now = s.now) : Stands t m r c := by
  obtain ⟨here, requesting, stands, why⟩ := h
  refine ⟨mover.trans here, requesting, claim.trans stands, ?_⟩
  rw [peerBlocks_congr ptu cfg suc, cfg, now]
  exact why.imp_right fun ⟨free, fresh, rest⟩ => ⟨free, other fresh, rest⟩

theorem Stands.same (h : Stands s m r c) (mvu : t.mover m = s.mover m) (zcu : t.zcu = s.zcu) (ptu : t.ptu = s.ptu)
    (cfg : t.cfg = s.cfg) (suc : t.suc = s.suc) (now : t.now = s.now) : Stands t m r c := by
  have claims : ∀ x, t.claim x = s.claim x := fun x => by unfold State.claim; rw [zcu]
  exact h.congr mvu (claims m) (fun none => (claims _).trans none) ptu cfg suc now

theorem Stands.examineClaim (h : Stands s m r c) (x : MoverId) : Stands (s.examineClaim x) m r c := by
  refine h.congr (by unfold State.mover; rw [State.examineClaim_mvu]) ?_ (fun none => examineClaim_unclaimed none x)
    (by simp) (by simp) (by simp) (by simp)
  rw [State.examineClaim_claim]
  split
  · next same =>
    subst same
    rw [h.nextClaim, h.claim]
  · rfl

theorem Stands.examineClaims (h : Stands s m r c) : Stands s.examineClaims m r c :=
  (h.examineClaim 0).examineClaim 1

/-- A mover whose claim is not HELD does not proceed (R97). -/
theorem not_cleared (unheld : s.claim m ≠ .held) : ¬Cleared s m := fun ⟨standing, _⟩ =>
  unheld (standing_cleared_iff.mp standing).1

theorem lookAgain_unheld (unheld : s.claim m ≠ .held) : s.lookAgain m = s := by
  unfold State.lookAgain
  split
  · rw [proceed_of_not_cleared (not_cleared unheld), ite_self]
  · rfl

theorem Stands.lookAgain (h : Stands s m r c) : Stands (s.lookAgain m) m r c := by
  rwa [lookAgain_unheld h.not_held]

theorem Stands.releaseOther (h : Stands s m r c) : Stands (s.releaseClaim (otherMover m)) m r c := by
  refine Stands.examineClaims (h.congr rfl ?_ (fun _ => ?_) rfl rfl rfl rfl)
  · rw [State.setClaim_claim, if_neg (otherMover_ne m).symm]
  · rw [State.setClaim_claim, if_pos rfl]

theorem Stands.onOther (h : Stands s m r c) (f : Mover → Mover) : Stands (s.onMover (otherMover m) f) m r c :=
  h.same (State.onMover_mover_other _ _ _ _ (otherMover_ne m).symm) rfl rfl rfl rfl rfl

theorem Stands.otherIdles (h : Stands s m r c) (code : RefusalCode) : Stands (s.enterIdle (otherMover m) code) m r c := by
  unfold State.enterIdle
  rw [otherMover_other]
  exact Stands.lookAgain (Stands.releaseOther ((h.onOther _).same (State.removeEntry_mover _ _ _) (by simp) (by simp)
    (by simp) (by simp) (by simp)))

theorem Stands.otherFaults (h : Stands s m r c) (reason : FaultReason) :
    Stands (s.enterFaulted (otherMover m) reason) m r c := by
  unfold State.enterFaulted
  rw [otherMover_other]
  refine Stands.lookAgain (Stands.same (Stands.releaseOther ((h.onOther _).same (State.removeEntry_mover _ _ _) (by simp)
    (by simp) (by simp) (by simp) (by simp))) (State.reportReason_mover _ _ _) (by simp) (by simp) (by simp) (by simp)
    (by simp))

theorem Stands.reactOther (h : Stands s m r c) : Stands (s.react (otherMover m)) m r c := by
  unfold State.react
  split
  · exact h
  · split
    case h_1 =>
      exact h.same (proceed_mover_other (otherMover_ne m).symm) (by simp) (by simp) (by simp) (by simp) (by simp)
    case h_2 =>
      split
      · exact h
      · exact h.otherIdles _
    case h_3 =>
      split
      · exact h.onOther _
      · exact h
    all_goals exact h

theorem Stands.react (h : Stands s m r c) (x : MoverId) : Stands (s.react x) m r c := by
  by_cases same : x = m
  · subst x
    rwa [react_of_requesting h.mover h.requesting, proceed_of_not_cleared (not_cleared h.not_held)]
  · obtain rfl := eq_otherMover same
    exact h.reactOther

theorem Stands.reactAll (h : Stands s m r c) : Stands s.reactAll m r c := (h.react 0).react 1

/-! ### How an intent comes to stand -/

/-- The claim of mover m's request is an intent with a peer's claim in its way, which the next look at it makes wait. -/
structure Barred (s : State) (m : MoverId) (r : Mover) : Prop where
  mover : s.mover m = some r
  requesting : r.phase = .requesting
  intent : s.claim m = .waiting ∨ ∃ start, s.claim m = .listening start
  blocks : peerBlocks s m = true

theorem Stands.barred (h : Stands s m r .waiting) : Barred s m r := by
  obtain ⟨mover, requesting, claim, ⟨blocks, -⟩ | ⟨-, -, k, e, -⟩⟩ := h
  · exact ⟨mover, requesting, .inl claim, blocks⟩
  · cases e

theorem Barred.nextClaim (h : Barred s m r) : s.nextClaim m = .waiting := by
  have way := obstacle_of_peer h.blocks
  unfold State.nextClaim
  obtain e | ⟨start, e⟩ := h.intent <;> rw [e] <;> exact if_pos way

theorem Barred.examineOther (h : Barred s m r) : Barred (s.examineClaim (otherMover m)) m r := by
  obtain ⟨mover, requesting, intent, blocks⟩ := h
  have claim : (s.examineClaim (otherMover m)).claim m = s.claim m := by
    rw [State.examineClaim_claim, if_neg (otherMover_ne m).symm]
  exact ⟨by rw [State.mover, State.examineClaim_mvu]; exact mover, requesting, by rw [claim]; exact intent,
    by rw [peerBlocks_examineClaim]; exact blocks⟩

theorem Barred.examine (h : Barred s m r) : Stands (s.examineClaim m) m r .waiting := by
  refine ⟨by rw [State.mover, State.examineClaim_mvu]; exact h.mover, h.requesting, ?_, .inl ⟨?_, rfl⟩⟩
  · rw [State.examineClaim_claim, if_pos rfl, h.nextClaim]
  · rw [peerBlocks_examineClaim]
    exact h.blocks

theorem Barred.examineClaims (h : Barred s m r) : Stands s.examineClaims m r .waiting := by
  show Stands ((s.examineClaim 0).examineClaim 1) m r .waiting
  obtain rfl | rfl := mover_cases m
  · exact h.examine.examineClaim 1
  · exact (Barred.examineOther h).examine

theorem Barred.same (h : Barred s m r) (mover : t.mover m = s.mover m) (claim : t.claim m = s.claim m)
    (ptu : t.ptu = s.ptu) (cfg : t.cfg = s.cfg) (suc : t.suc = s.suc) : Barred t m r := by
  obtain ⟨here, requesting, intent, blocks⟩ := h
  exact ⟨mover.trans here, requesting, by rw [claim]; exact intent, by rw [peerBlocks_congr ptu cfg suc]; exact blocks⟩

theorem Barred.reexamine (h : Barred s m r) : Stands s.reexamine m r .waiting := h.examineClaims.reactAll

theorem Barred.releaseOther (h : Barred s m r) : Stands (s.releaseClaim (otherMover m)) m r .waiting :=
  Barred.examineClaims (h.same rfl (by rw [State.setClaim_claim, if_neg (otherMover_ne m).symm]) rfl rfl rfl)

theorem Barred.otherFaults (h : Barred s m r) (reason : FaultReason) :
    Stands (s.enterFaulted (otherMover m) reason) m r .waiting := by
  unfold State.enterFaulted
  rw [otherMover_other]
  refine Stands.lookAgain (Stands.same (Barred.releaseOther (Barred.same h ?_ ?_ ?_ ?_ ?_))
    (State.reportReason_mover _ _ _) (by simp) (by simp) (by simp) (by simp) (by simp))
  · exact (State.removeEntry_mover _ _ _).trans (State.onMover_mover_other _ _ _ _ (otherMover_ne m).symm)
  · rw [State.claim, State.removeEntry_zcu]
    rfl
  · simp
  · simp
  · simp

/-- Mover m's claim waits, and with nothing left in its way the next look at it makes it listen from now (R74). -/
structure Freed (s : State) (m : MoverId) (r : Mover) : Prop where
  mover : s.mover m = some r
  requesting : r.phase = .requesting
  claim : s.claim m = .waiting
  free : peerBlocks s m = false
  other : s.claim (otherMover m) = .unclaimed
  window : 0 < s.cfg.listenWindow

theorem Freed.examineOther (h : Freed s m r) : Freed (s.examineClaim (otherMover m)) m r := by
  obtain ⟨mover, requesting, claim, free, other, window⟩ := h
  refine ⟨by rw [State.mover, State.examineClaim_mvu]; exact mover, requesting, ?_, ?_, examineClaim_unclaimed other _, ?_⟩
  · rw [State.examineClaim_claim, if_neg (otherMover_ne m).symm, claim]
  · rw [peerBlocks_examineClaim]
    exact free
  · rwa [State.examineClaim_cfg]

theorem Freed.examine (h : Freed s m r) : Stands (s.examineClaim m) m r (.listening s.now) := by
  obtain ⟨mover, requesting, claim, free, other, window⟩ := h
  refine ⟨by rw [State.mover, State.examineClaim_mvu]; exact mover, requesting, ?_,
    .inr ⟨?_, examineClaim_unclaimed other _, s.now, rfl, ?_⟩⟩
  · rw [State.examineClaim_claim, if_pos rfl, State.nextClaim, claim]
    exact if_neg (by rw [obstacle_of_free free other]; nofun)
  · rw [peerBlocks_examineClaim]
    exact free
  · rw [State.examineClaim_now, State.examineClaim_cfg]
    omega

theorem Freed.examineClaims (h : Freed s m r) : Stands s.examineClaims m r (.listening s.now) := by
  show Stands ((s.examineClaim 0).examineClaim 1) m r (.listening s.now)
  obtain rfl | rfl := mover_cases m
  · exact h.examine.examineClaim 1
  · have later := (Freed.examineOther h).examine
    rwa [State.examineClaim_now] at later

theorem Freed.reexamine (h : Freed s m r) : Stands s.reexamine m r (.listening s.now) := h.examineClaims.reactAll

/-! ### Filing, FORGET and the release of the other claim -/

theorem judgeClash_unheld (unheld : s.claim x ≠ .held) (filed : List ClaimStatus) : State.judgeClash filed s x = s := by
  unfold State.judgeClash State.clashes
  rw [decide_eq_false unheld, Bool.false_and]
  exact if_neg Bool.false_ne_true

theorem Barred.judgeClash (h : Barred s m r) (filed : List ClaimStatus) (x : MoverId) :
    Barred (State.judgeClash filed s x) m r := by
  by_cases same : x = m
  · subst x
    rwa [judgeClash_unheld (by obtain e | ⟨start, e⟩ := h.intent <;> rw [e] <;> nofun)]
  · obtain rfl := eq_otherMover same
    unfold State.judgeClash State.faultInMotion
    split
    · split
      · split
        · exact (h.otherFaults _).barred
        · exact h
      · exact h
    · exact h

/-- The table with the ANNOUNCE filed, before anything acts on it (R5, R10). -/
def filedIn (s : State) (i : SlotId) (a : Announce) : State :=
  (s.setPeer i (some { status := .live, heard := s.now, ann := a })).reportOrphans

theorem filedIn_leaves (s : State) (i : SlotId) (a : Announce) : (filedIn s i a).mvu = s.mvu ∧
    (filedIn s i a).zcu = s.zcu ∧ (filedIn s i a).cfg = s.cfg ∧ (filedIn s i a).suc = s.suc ∧
    (filedIn s i a).now = s.now := by
  unfold filedIn
  simp

theorem filedIn_record (s : State) (i j : SlotId) (a : Announce) : (filedIn s i a).ptu.peers[j] =
    if j = i then some { status := .live, heard := s.now, ann := a } else s.ptu.peers[j] := by
  unfold filedIn
  rw [State.reportOrphans_ptu, State.setPeer_record]

theorem fileAnnounce_unheld (unheld : ∀ x, s.claim x ≠ .held) (i : SlotId) (a : Announce) :
    s.fileAnnounce i a = (filedIn s i a).reexamine := by
  obtain ⟨-, zcu, -⟩ := filedIn_leaves s i a
  have still : ∀ x, (filedIn s i a).claim x ≠ .held := fun x => by
    unfold State.claim
    rw [zcu]
    exact unheld x
  show (State.judgeClash a.claims (State.judgeClash a.claims (filedIn s i a) 0) 1).reexamine = _
  rw [judgeClash_unheld (still 0), judgeClash_unheld (still 1)]

section Filing

variable (here : s.mover m = some r) (requesting : r.phase = .requesting)

include here requesting

theorem fileAnnounce_bars (intent : s.claim m = .waiting ∨ ∃ start, s.claim m = .listening start)
    (against : ∃ c ∈ a.claims, Against s m c) (i : SlotId) : Stands (s.fileAnnounce i a) m r .waiting := by
  obtain ⟨mvu, zcu, cfg, suc, -⟩ := filedIn_leaves s i a
  obtain ⟨c, mem, against⟩ := against
  have filed : Barred (filedIn s i a) m r :=
    ⟨by rw [State.mover, mvu]; exact here, requesting, by rw [State.claim, zcu]; exact intent,
      peerBlocks_iff.mpr ⟨i, _, c, by rw [filedIn_record, if_pos rfl], mem, (against_congr cfg suc c).mpr against⟩⟩
  exact ((filed.judgeClash a.claims 0).judgeClash a.claims 1).reexamine

variable (other : s.claim (otherMover m) = .unclaimed) (free : ∀ c ∈ a.claims, ¬Against s m c)
  (others : ∀ j y, j ≠ i → s.ptu.peers[(j : SlotId)] = some y → ∀ c ∈ y.ann.claims, ¬Against s m c)

include other free others

omit here requesting other in
theorem filedIn_free : peerBlocks (filedIn s i a) m = false := by
  obtain ⟨-, -, cfg, suc, -⟩ := filedIn_leaves s i a
  refine peerBlocks_false (i := i) (fun j y away there c mem => ?_) fun y there c mem => ?_
  · rw [filedIn_record, if_neg away] at there
    rw [against_congr cfg suc]
    exact others j y away there c mem
  · rw [filedIn_record, if_pos rfl] at there
    cases there
    rw [against_congr cfg suc]
    exact free c mem

omit here requesting free others in
theorem unheld_of (intent : s.claim m ≠ .held) (x : MoverId) : s.claim x ≠ .held := by
  by_cases same : x = m
  · rwa [same]
  · rw [eq_otherMover same, other]
    nofun

theorem fileAnnounce_listens {start : Nat} (listening : s.claim m = .listening start)
    (early : s.now < start + s.cfg.listenWindow) : Stands (s.fileAnnounce i a) m r (.listening start) := by
  obtain ⟨mvu, zcu, cfg, suc, now⟩ := filedIn_leaves s i a
  rw [fileAnnounce_unheld (unheld_of other (by rw [listening]; nofun))]
  exact Stands.reactAll (Stands.examineClaims ⟨by rw [State.mover, mvu]; exact here, requesting,
    by rw [State.claim, zcu]; exact listening, .inr ⟨filedIn_free free others, by rw [State.claim, zcu]; exact other, start,
      rfl, by rw [now, cfg]; exact early⟩⟩)

theorem fileAnnounce_resumes (waiting : s.claim m = .waiting) (window : 0 < s.cfg.listenWindow) :
    Stands (s.fileAnnounce i a) m r (.listening s.now) := by
  obtain ⟨mvu, zcu, cfg, suc, now⟩ := filedIn_leaves s i a
  rw [fileAnnounce_unheld (unheld_of other (by rw [waiting]; nofun)), ← now]
  exact Freed.reexamine ⟨by rw [State.mover, mvu]; exact here, requesting, by rw [State.claim, zcu]; exact waiting,
    filedIn_free free others, by rw [State.claim, zcu]; exact other, by rw [cfg]; exact window⟩

end Filing

/-- A FORGET of the slot whose claim stood in the way (R11, R74, R84). -/
theorem forget_resumes (here : s.mover m = some r) (requesting : r.phase = .requesting) (waiting : s.claim m = .waiting)
    (window : 0 < s.cfg.listenWindow) (other : s.claim (otherMover m) = .unclaimed)
    (others : ∀ j y, j ≠ i → s.ptu.peers[(j : SlotId)] = some y → ∀ c ∈ y.ann.claims, ¬Against s m c) :
    Stands (((s.setPeer i none).reportOrphans).reexamine) m r (.listening s.now) := by
  have now : ((s.setPeer i none).reportOrphans).now = s.now := by simp
  have cfg : ((s.setPeer i none).reportOrphans).cfg = s.cfg := by simp
  have suc : ((s.setPeer i none).reportOrphans).suc = s.suc := by simp
  rw [← now]
  refine Freed.reexamine ⟨?_, requesting, ?_, ?_, ?_, ?_⟩
  · unfold State.mover
    rw [State.reportOrphans_mvu]
    exact here
  · unfold State.claim
    rw [State.reportOrphans_zcu]
    exact waiting
  · refine peerBlocks_false (i := i) (fun j y away there c mem => ?_) fun y there => ?_
    · rw [State.reportOrphans_ptu, State.setPeer_record, if_neg away] at there
      rw [against_congr cfg suc]
      exact others j y away there c mem
    · rw [State.reportOrphans_ptu, State.setPeer_record, if_pos rfl] at there
      cases there
  · unfold State.claim
    rw [State.reportOrphans_zcu]
    exact other
  · rwa [cfg]

theorem releaseOther_resumes (here : s.mover m = some r) (requesting : r.phase = .requesting)
    (waiting : s.claim m = .waiting) (window : 0 < s.cfg.listenWindow) (free : peerBlocks s m = false) :
    Stands (s.releaseClaim (otherMover m)) m r (.listening s.now) := by
  have freed : Freed (s.setClaim (otherMover m) .unclaimed) m r :=
    ⟨here, requesting, by rw [State.setClaim_claim, if_neg (otherMover_ne m).symm]; exact waiting, free,
      by rw [State.setClaim_claim, if_pos rfl], window⟩
  exact freed.examineClaims

/-- The release of the own other claim (R74, R79). -/
theorem release_resumes (here : s.mover m = some r) (requesting : r.phase = .requesting) (waiting : s.claim m = .waiting)
    (window : 0 < s.cfg.listenWindow)
    (free : ∀ j y, s.ptu.peers[(j : SlotId)] = some y → ∀ c ∈ y.ann.claims, ¬Against s m c) (code : RefusalCode) :
    Stands (s.enterIdle (otherMover m) code) m r (.listening s.now) := by
  have blocks : peerBlocks s m = false :=
    peerBlocks_false (i := 0) (fun j y _ there => free j y there) fun y there => free 0 y there
  let left := (s.onMover (otherMover m) fun r => { dropMotion r with phase := .idle, lastRefusal := code }).removeEntry
    (.mover (otherMover m))
  have stands : Stands (left.releaseClaim (otherMover m)) m r (.listening left.now) := by
    refine releaseOther_resumes ?_ requesting ?_ ?_ ?_
    · exact (State.removeEntry_mover _ _ _).trans
        ((State.onMover_mover_other _ _ _ _ (otherMover_ne m).symm).trans here)
    · rw [State.claim, State.removeEntry_zcu]
      exact waiting
    · rw [State.removeEntry_cfg]
      exact window
    · rw [peerBlocks_congr (s := s) (by simp [left]) (by simp [left]) (by simp [left])]
      exact blocks
  rw [show left.now = s.now by simp [left]] at stands
  unfold State.enterIdle
  rw [otherMover_other]
  exact stands.lookAgain

/-! ### What is announced -/

theorem waiting_unannounced (waiting : t.claim m = .waiting) : ¬Announced t m := by
  unfold Announced
  rw [waiting]
  rintro (e | ⟨start, e⟩) <;> cases e

theorem listening_announced {k : Nat} (listening : t.claim m = .listening k) : Announced t m := .inr ⟨k, listening⟩

/-- A claim that comes to stand differently is announced at once, where the station may transmit (R82). -/
theorem Stands.announces (h : Stands t m r c) (suc : t.suc = s.suc) (twin : t.active .twin = s.active .twin)
    (differs : ¬(Announced t m ↔ Announced s m)) : (announceChange s t).claim m = c ∧
      (announceChange s t).mover m = some r ∧ (s.mayTransmit = true → AnnouncesNow (announceChange s t)) := by
  refine ⟨(announceChange_claim s t m).trans h.claim, (announceChange_mover s t m).trans h.mover, fun permitted => ?_⟩
  refine announceChange_announces ?_ ?_
  · rw [← permitted, State.mayTransmit, State.mayTransmit, State.running, State.running, twin, suc]
  · rw [announceChange_claims]
    exact announcedClaims_ne suc differs

theorem twin_not_heard : ∀ p : PortId, FaultKind.twin ≠ unfitKind p := by decide

theorem fileAnnounce_heard (s : State) (p : PortId) (i : SlotId) (a : Announce) :
    ((heardNow s p).fileAnnounce i a).suc = s.suc ∧ ((heardNow s p).fileAnnounce i a).active .twin = s.active .twin :=
  ⟨by simp, ((reports_fileAnnounce _ i a).active (by decide)).trans (heardNow_active (twin_not_heard p))⟩

/-- Settles O60: the intent comes to stand as the view has it, and its standing is announced where it changed. -/
theorem intentsGiveWayAndResume : Obligations.IntentsGiveWayAndResume := by
  intro m r s here requesting window
  have heard : ∀ p, (heardNow s p).mover m = some r := fun p => heardNow_mover.trans here
  have same : ∀ p c, Against (heardNow s p) m c ↔ Against s m c := fun p c => against_congr heardNow_cfg (heardNow_suc s p) c
  refine ⟨fun p frame src a i good other slot calm => ?_, fun p frame src target i good officer other slot held calm waiting
    fresh free => ?_, fun x there asks due waiting free => ?_⟩
  · have run : exec (.announceReceived p frame) s = .next (announceChange s ((heardNow s p).fileAnnounce i a)) := by
      rw [exec_announce good calm, deliverAnnounce_files (by rw [heardNow_suc]; exact other) slot]
    obtain ⟨suc, twin⟩ := fileAnnounce_heard s p i a
    have clear : (∀ c ∈ a.claims, ¬Against s m c) → ∀ c ∈ a.claims, ¬Against (heardNow s p) m c :=
      fun free c mem => by rw [same]; exact free c mem
    have others : (∀ j y, j ≠ i → s.ptu.peers[(j : SlotId)] = some y → ∀ c ∈ y.ann.claims, ¬Against s m c) →
        ∀ j y, j ≠ i → (heardNow s p).ptu.peers[(j : SlotId)] = some y → ∀ c ∈ y.ann.claims, ¬Against (heardNow s p) m c :=
      fun free j y away there c mem => by
        rw [heardNow_ptu] at there
        rw [same]
        exact free j y away there c mem
    have bars : (∃ c ∈ a.claims, Against s m c) → ∃ c ∈ a.claims, Against (heardNow s p) m c :=
      fun ⟨c, mem, against⟩ => ⟨c, mem, (same p c).mpr against⟩
    refine ⟨fun start listening against => ?_, fun start listening early fresh free free' => ?_, fun waiting against => ?_,
      fun waiting fresh free free' => ?_⟩
    · have stands := fileAnnounce_bars (heard p) requesting (.inr ⟨start, heardNow_claim.trans listening⟩) (bars against) i
      obtain ⟨claim, mover, announces⟩ := stands.announces suc twin fun both =>
        waiting_unannounced stands.claim (both.mpr (listening_announced listening))
      refine ⟨_, run, claim, mover, fun c mem key => ?_, announces⟩
      have own : s.claimKey m = (announceChange s ((heardNow s p).fileAnnounce i a)).claimKey m := by
        unfold State.claimKey State.number
        rw [announceChange_suc, suc]
      exact waiting_unannounced claim (announced_iff.mp ⟨c, mem, key.trans own⟩)
    · have stands := fileAnnounce_listens (heard p) requesting (heardNow_claim.trans fresh) (clear free) (others free')
        (heardNow_claim.trans listening) (by rw [heardNow_now, heardNow_cfg]; exact early)
      exact ⟨_, run, (announceChange_claim _ _ m).trans stands.claim, (announceChange_mover _ _ m).trans stands.mover⟩
    · have stands := fileAnnounce_bars (heard p) requesting (.inl (heardNow_claim.trans waiting)) (bars against) i
      exact ⟨_, run, (announceChange_claim _ _ m).trans stands.claim, (announceChange_mover _ _ m).trans stands.mover⟩
    · have stands := fileAnnounce_resumes (heard p) requesting (heardNow_claim.trans fresh) (clear free) (others free')
        (heardNow_claim.trans waiting) (by rw [heardNow_cfg]; exact window)
      rw [heardNow_now] at stands
      exact ⟨_, run, stands.announces suc twin fun both =>
        waiting_unannounced waiting (both.mp (listening_announced stands.claim))⟩
  · obtain ⟨y, held⟩ := Option.ne_none_iff_exists'.mp held
    have run : exec (.forget p frame) s =
        .next (announceChange s ((((heardNow s p).setPeer i none).reportOrphans).reexamine)) := by
      rw [exec_forget good calm, deliverForget_obeyed (by rw [heardNow_cfg]; exact officer)
        (by rw [heardNow_suc]; exact other) slot (by rw [heardNow_ptu]; exact held)]
    have stands := forget_resumes (i := i) (heard p) requesting (heardNow_claim.trans waiting)
      (by rw [heardNow_cfg]; exact window) (heardNow_claim.trans fresh) fun j y away there c mem => by
        rw [heardNow_ptu] at there
        rw [same]
        exact free j y away there c mem
    rw [heardNow_now] at stands
    refine ⟨_, run, stands.announces (by simp) ?_ fun both =>
      waiting_unannounced waiting (both.mp (listening_announced stands.claim))⟩
    refine (active_of_fcl (State.reexamine_fcl _) _).trans (Eq.trans ?_ (heardNow_active (twin_not_heard p)))
    exact (reports_setPeer (heardNow s p) i none).active (by decide)
  · have run : exec (.requestTimeLimit (otherMover m)) s =
        .next (announceChange s (s.enterIdle (otherMover m) (s.limitCode (otherMover m)))) :=
      congrArg Host.Outcome.next (if_pos due)
    have stands := release_resumes here requesting waiting window (fun j y there =>
      free (if j = 0 then 1 else 0) j y (by split <;> simp_all) there) (s.limitCode (otherMover m))
    exact ⟨_, run, stands.announces (by simp) (active_of_fcl (State.enterIdle_fcl _ _ _) _) fun both =>
      waiting_unannounced waiting (both.mp (listening_announced stands.claim))⟩

end Sys2Proof.Safety
end

section
/-! PROOFS. The load channels: sense readings, the fade beat, the inrush window and the trip (R51, R54 to R59, R146,
R147). -/

namespace Sys2Proof.Safety

open Sys2Proof Sys2Proof.Machine

variable {s t : State} {c x : ChannelId} {k : Nat}

/-! ### Channels changed one at a time -/

theorem onChannel_same (s : State) (c : ChannelId) (f : Channel → Channel) :
    (s.onChannel c f).lcu.channels[c] = f s.lcu.channels[c] := by rw [onChannel_record, if_pos rfl]

theorem onChannel_other (s : State) (f : Channel → Channel) (other : x ≠ c) :
    (s.onChannel c f).lcu.channels[x] = s.lcu.channels[x] := by rw [onChannel_record, if_neg other]

theorem onChannel_congr {f g : Channel → Channel} (same : f s.lcu.channels[c] = g s.lcu.channels[c]) :
    s.onChannel c f = s.onChannel c g := by
  unfold State.onChannel modifyAt
  rw [same]

/-- An operation on each channel of a list in turn, where each moves its own channel only: a channel of the list ends as
the operation makes it from the start (the operation reading nothing of the other channels). -/
theorem foldl_channels {f : State → ChannelId → State} {g : ChannelId → Channel → Channel}
    (own : ∀ u c, (f u c).now = u.now → (f u c).cfg = u.cfg → u.now = s.now → u.cfg = s.cfg →
      (f u c).lcu.channels[c] = g c u.lcu.channels[c])
    (other : ∀ u (c x : ChannelId), x ≠ c → (f u c).lcu.channels[x] = u.lcu.channels[x])
    (now : ∀ u c, (f u c).now = u.now) (cfg : ∀ u c, (f u c).cfg = u.cfg) (l : List ChannelId) (once : l.Nodup) (u : State)
    (start : u.now = s.now ∧ u.cfg = s.cfg) (c : ChannelId) :
    (l.foldl f u).lcu.channels[c] = if c ∈ l then g c u.lcu.channels[c] else u.lcu.channels[c] := by
  induction l generalizing u with
  | nil => simp
  | cons d l ih =>
    obtain ⟨fresh, rest⟩ := List.nodup_cons.mp once
    rw [List.foldl_cons, ih rest (f u d) ⟨(now u d).trans start.1, (cfg u d).trans start.2⟩]
    by_cases same : c = d
    · subst d
      rw [if_neg fresh, if_pos List.mem_cons_self, own u c (now u c) (cfg u c) start.1 start.2]
    · rw [other u d c same]
      simp [same]

/-! ### Sense readings -/

/-- A reading is held to 0-2047 (R147). -/
theorem readingOf_eq (raw o : Int) : (readingOf raw o : Int) = max 0 (min 2047 (raw - o)) := by
  unfold readingOf Config.readingMax
  rw [Int.toNat_of_nonneg (le_max_left 0 _)]

theorem compareReading_eq (now : Nat) (k : ChannelCfg) (ch : Channel) : compareReading now k ch =
    { ch with
      overTime :=
        if ch.position = 0 then ch.overTime
        else if (if ch.inrush = none then k.trip else 2 * k.trip) < ch.lastReading then some (ch.overTime.getD now)
        else none } := by
  unfold compareReading thresholdInForce
  by_cases off : ch.position = 0
  · simp only [off, if_true]
    cases ch
    cases off
    rfl
  · simp only [if_neg off]
    cases ch.inrush with
    | none => by_cases above : k.trip < ch.lastReading <;> simp [above]
    | some _ => by_cases above : 2 * k.trip < ch.lastReading <;> simp [above]

theorem convert_reads {cs : SenseId} {raw o : Int} (used : senseInUse s.cfg cs = true) (work : s.working = true)
    (sound : s.senseFaulty cs = false) (offset : (s.csa.inputs[cs]).offset = some o) :
    s.convert cs raw = (s.onSense cs fun x => { x with raw := raw }).deliverReading cs (readingOf raw o) := by
  have phase : s.suc.phase ≠ .calibrate := by
    intro e
    rw [State.working, e] at work
    cases work
  unfold State.convert
  dsimp only
  rw [if_pos used, if_neg phase, if_pos (by rw [work, sound]; rfl), offset]

/-- Settles O35: the conversion is delivered to the channel or the mover its input serves. -/
theorem senseReadingIsOffsetAndSaturated : Obligations.SenseReadingIsOffsetAndSaturated := by
  intro cs raw s used
  refine ⟨fun calibrate => ?_, fun o work sound offset => ⟨readingOf raw o, readingOf_eq raw o, fun c own => ?_,
    fun m own => ?_⟩⟩
  · refine congrArg Host.Outcome.next ?_
    unfold State.convert
    dsimp only
    rw [if_pos used, if_pos calibrate]
    unfold State.onSense
    simp [modifyAt]
  · refine congrArg Host.Outcome.next ((convert_reads used work sound offset).trans ?_)
    have channel : cs.val < 12 := own ▸ c.isLt
    obtain rfl : c = ⟨cs.val, channel⟩ := Fin.ext own
    unfold State.deliverReading
    rw [dif_pos channel]
    refine congrArg _ (funext fun x => ?_)
    rw [compareReading_eq]
    rfl
  · refine congrArg Host.Outcome.next ((convert_reads used work sound offset).trans ?_)
    unfold State.deliverReading
    rw [dif_neg (by omega)]
    have reads : ∀ u : State, u.moverReading m (readingOf raw o) = u.onMover m fun r =>
        if r.phase = .running then
          { r with
            lastSense := readingOf raw o
            overTime := if (u.moverCfg m).overcurrent < readingOf raw o then some (r.overTime.getD u.now) else none
            stallSpan :=
              if (u.moverCfg m).kind = .windlass ∧ (u.moverCfg m).chain.stallThreshold ≤ readingOf raw o
              then some (r.stallSpan.getD u.now) else none }
        else { r with lastSense := readingOf raw o } := fun u => by
      unfold State.moverReading
      simp only [Bool.and_eq_true, decide_eq_true_eq]
    obtain rfl | rfl := mover_cases m
    · rw [if_pos (by simpa using own.symm), reads]
      rfl
    · rw [if_neg (by have := own; simp at this; omega), reads]
      rfl

/-! ### The fade beat -/

/-- What the beat makes of a channel (R51). -/
def beaten (now : Nat) (k : ChannelCfg) (ch : Channel) : Channel :=
  if k.kind = .dimmed ∧ k.fade ≠ 0 ∧ ch.position ≠ ch.leff then moveTo now (fadeStep k ch.position ch.leff) ch else ch

theorem beatChannel_eq (s : State) (c : ChannelId) : s.beatChannel c =
    if s.cfg.channels[c].kind = .dimmed ∧ s.cfg.channels[c].fade ≠ 0 ∧ s.lcu.channels[c].position ≠ s.lcu.channels[c].leff
    then s.onChannel c (moveTo s.now (fadeStep s.cfg.channels[c] s.lcu.channels[c].position s.lcu.channels[c].leff))
    else s := by
  unfold State.beatChannel
  simp only [Bool.and_eq_true, decide_eq_true_eq, and_assoc]

theorem beatChannel_same (s : State) (c : ChannelId) :
    (s.beatChannel c).lcu.channels[c] = beaten s.now s.cfg.channels[c] s.lcu.channels[c] := by
  rw [beatChannel_eq]
  unfold beaten
  split
  · exact onChannel_same s c _
  · rfl

theorem beatChannel_other (s : State) (c x : ChannelId) (other : x ≠ c) :
    (s.beatChannel c).lcu.channels[x] = s.lcu.channels[x] := by
  rw [beatChannel_eq]
  split
  · exact onChannel_other s _ other
  · rfl

theorem allChannels_once : allChannels.Nodup := by decide

theorem beats_record (s : State) (c : ChannelId) : (allChannels.foldl State.beatChannel s).lcu.channels[c] =
    beaten s.now s.cfg.channels[c] s.lcu.channels[c] := by
  rw [foldl_channels (s := s) (g := fun c => beaten s.now s.cfg.channels[c])
    (fun u c _ _ now cfg => by rw [beatChannel_same, now, cfg]) beatChannel_other (fun u c => State.beatChannel_now u c)
    (fun u c => State.beatChannel_cfg u c) allChannels allChannels_once s ⟨rfl, rfl⟩, if_pos (mem_allChannels c)]

theorem beats_leave (s : State) : allChannels.foldl State.beatChannel s =
    { s with lcu := (allChannels.foldl State.beatChannel s).lcu } := by
  have each : ∀ u c, State.beatChannel u c = { u with lcu := (State.beatChannel u c).lcu } := fun u c => by
    rw [beatChannel_eq]
    split <;> rfl
  generalize allChannels = l
  induction l generalizing s with
  | nil => rfl
  | cons c l ih =>
    rw [List.foldl_cons, ih (s.beatChannel c), each s c]

theorem moveTo_on {now pos : Nat} {ch : Channel} (on : pos ≠ 0) (was : ch.position ≠ 0) :
    moveTo now pos ch = { ch with position := pos } := by
  simp [moveTo, on, was]

theorem moveTo_comes_on {now pos : Nat} {ch : Channel} (on : pos ≠ 0) (was : ch.position = 0) :
    moveTo now pos ch = { ch with position := pos, inrush := some (now + 500) } := by
  simp [moveTo, on, was, Config.inrushSpan]

theorem moveTo_goes_off {now : Nat} {ch : Channel} (was : 0 < ch.position) :
    moveTo now 0 ch =
      { ch with
        position := 0
        inrush := none
        overTime := none
        owedTrip := match ch.overTime with
          | some k => if k + 100 ≤ now then some now else ch.owedTrip
          | none => ch.owedTrip } := by
  have owed : (if overrun now ch = true then some now else ch.owedTrip) =
      match ch.overTime with
      | some k => if k + 100 ≤ now then some now else ch.owedTrip
      | none => ch.owedTrip := by
    unfold overrun elapsed
    rw [decide_eq_true was]
    cases ch.overTime with
    | none => rfl
    | some k => simp [due, Config.channelOverSpan]
  unfold moveTo
  simpa using owed

theorem fadeStep_to_dark {k : ChannelCfg} {pos : Nat} (lit : 0 < pos) : fadeStep k pos 0 =
    if pos - k.fade < k.lmin ∨ pos ≤ k.fade then 0 else pos - k.fade := by
  unfold fadeStep
  rw [if_neg (Nat.not_lt_zero _), if_pos lit]
  by_cases low : pos - k.fade < k.lmin
  · rw [if_pos (by simpa using low), if_pos (.inl low)]
  · rw [if_neg (by simpa using low)]
    split <;> omega

/-- Settles O32: each channel takes its own step, and the step's cases are those of R51. -/
theorem fadeBeatMovesOneStep : Obligations.FadeBeatMovesOneStep := by
  intro s beat
  refine ⟨_, congrArg Host.Outcome.next (if_pos beat), beats_leave s, fun c => ⟨fun still => ?_, fun dimmed rate =>
    ⟨fun on rises => ?_, fun off rises => ?_, fun falls lit => ?_, fun dark on => ?_⟩⟩⟩
  · rw [beats_record]
    refine if_neg ?_
    rintro ⟨dimmed, rate, apart⟩
    obtain e | e | e := still
    · rw [dimmed] at e
      cases e
    · exact apart e
    · exact rate e
  all_goals rw [beats_record]
  · rw [beaten, if_pos ⟨dimmed, rate, Nat.ne_of_lt rises⟩, fadeStep, if_pos rises, if_neg (Nat.ne_of_gt on)]
    exact moveTo_on (by omega) (Nat.ne_of_gt on)
  · rw [beaten, if_pos ⟨dimmed, rate, by omega⟩, fadeStep, if_pos (by omega), if_pos off]
    exact moveTo_comes_on (by omega) off
  · rw [beaten, if_pos ⟨dimmed, rate, Nat.ne_of_gt falls⟩, fadeStep, if_neg (by omega), if_pos falls,
      if_neg (by rw [decide_eq_false (Nat.ne_of_gt lit)]; nofun)]
    exact moveTo_on (by omega) (by omega)
  · have apart : s.lcu.channels[c].position ≠ s.lcu.channels[c].leff := by omega
    have lands : fadeStep s.cfg.channels[c] s.lcu.channels[c].position s.lcu.channels[c].leff = _ :=
      (congrArg _ dark).trans (fadeStep_to_dark on)
    rw [beaten, if_pos ⟨dimmed, rate, apart⟩, lands]
    split
    · exact moveTo_goes_off on
    · exact moveTo_on (by omega) (Nat.ne_of_gt on)

end Sys2Proof.Safety
end

section
/-! PROOFS. SET and SCENE (R44 to R50, R60, R61), and the trip that overrules what came first at its instant (R55 to
R59). -/

namespace Sys2Proof.Safety

open Sys2Proof Sys2Proof.Machine

variable {s t : State} {c x : ChannelId} {k : Nat} {p : PortId} {frame : List Byte} {src : Nat}

/-! ### A level taken up -/

/-- A channel in service or TRIPPED that takes a level. -/
def withLevel (s : State) (c : ChannelId) (level : Nat) : State :=
  ((s.onChannel c fun x => { x with lreq := deriveLevel s.cfg.channels[c] level, mark := .inService }).alignEntry c
    (s.lcu.channels[c]).lreq (deriveLevel s.cfg.channels[c] level)).refreshChannel c

/-- A SET to a channel in service or TRIPPED is taken up, unless it asks a channel in service for the level it has
(R45). -/
theorem applyLevel_taken (level : Nat)
    (serves : (s.lcu.channels[c]).mark = .inService ∨ (s.lcu.channels[c]).mark = .tripped) :
    s.applyLevel c level =
      if (s.lcu.channels[c]).mark = .inService ∧ deriveLevel s.cfg.channels[c] level = (s.lcu.channels[c]).lreq then s
      else withLevel s c level := by
  unfold State.applyLevel withLevel
  dsimp only
  obtain service | tripped := serves
  · rw [service]
    dsimp only
    simp only [true_and]
    split
    · rfl
    · rw [onChannel_congr (c := c) (g := fun x => { x with
        lreq := deriveLevel s.cfg.channels[c] level, mark := .inService }) (by rw [← service])]
  · rw [tripped]
    dsimp only
    rw [if_neg (fun same => ChannelMark.noConfusion same.1)]

theorem applyLevel_refused (level : Nat)
    (out : (s.lcu.channels[c]).mark = .lockedOut ∨ (s.lcu.channels[c]).mark = .unfitted) :
    s.applyLevel c level = s := by
  unfold State.applyLevel
  dsimp only
  obtain e | e := out <;> rw [e]

theorem newDemand_eq (island : Bool) (src : Source) (cls : Fin 8) (rank want : Nat) :
    newDemand island src cls rank want =
      { source := src, cls := cls, rank := rank, want := want
        settled := if cls = 0 then want else 0
        pending := none
        drawing := if cls = 0 then want else 0
        ceiling := if cls ≠ 0 ∧ island = true then some 0 else none } := by
  unfold newDemand
  by_cases zero : cls = 0 <;> simp [zero]

/-- A level of one channel leaves the station's other blocks, the other channels and the other entries alone. -/
structure LevelOnly (c : ChannelId) (s t : State) : Prop where
  leaves : t = { s with lcu := t.lcu, sbu := { s.sbu with demands := t.sbu.demands, offers := t.sbu.offers } }
  channels : ∀ x : ChannelId, x ≠ c → t.lcu.channels[x] = s.lcu.channels[x]
  entries : ∀ other, other ≠ .chan c → t.demandOf other = s.demandOf other

theorem LevelOnly.refl (c : ChannelId) (s : State) : LevelOnly c s s := ⟨rfl, fun _ _ => rfl, fun _ _ => rfl⟩

theorem alignEntry_leaves (s : State) (c : ChannelId) (old new : Nat) : s.alignEntry c old new =
    { s with sbu := { s.sbu with
      demands := (s.alignEntry c old new).sbu.demands, offers := (s.alignEntry c old new).sbu.offers } } := by
  unfold State.alignEntry
  dsimp only
  split
  · rfl
  · split
    · rfl
    · split <;> rfl

/-- What bringing the channel's entry into line does to the demand list (R46). -/
theorem alignEntry_demandOf (s : State) (c : ChannelId) (old new : Nat) (other : Source) :
    (s.alignEntry c old new).demandOf other =
      if other ≠ .chan c ∨ (s.cfg.channels[c]).rating = 0 then s.demandOf other
      else if new = 0 then none
      else if old = 0 then
        some (newDemand s.inIsland (.chan c) (s.cfg.channels[c]).cls (s.cfg.channels[c]).rank
          (channelWant s.cfg.channels[c] new))
      else (s.demandOf other).map (changeWant s.inIsland (channelWant s.cfg.channels[c] new)) := by
  unfold State.alignEntry
  dsimp only
  by_cases unrated : (s.cfg.channels[c]).rating = 0
  · rw [if_pos unrated, if_pos (.inr unrated)]
  · rw [if_neg unrated]
    by_cases own : other = .chan c
    · have moves : ¬ (other ≠ .chan c ∨ (s.cfg.channels[c]).rating = 0) := by tauto
      rw [if_neg moves]
      split
      · rw [State.removeEntry_demandOf, if_pos own]
      · split
        · rw [State.createEntry_demandOf, if_pos own]
        · rw [State.changeEntry_demandOf, if_pos own]
    · have stands : other ≠ .chan c ∨ (s.cfg.channels[c]).rating = 0 := .inl own
      rw [if_pos stands]
      split
      · rw [State.removeEntry_demandOf, if_neg own]
      · split
        · rw [State.createEntry_demandOf, if_neg own]
        · rw [State.changeEntry_demandOf, if_neg own]

theorem levelOnly_withLevel (s : State) (c : ChannelId) (level : Nat) : LevelOnly c s (withLevel s c level) where
  leaves := by
    unfold withLevel
    rw [refreshChannel_eq, alignEntry_leaves]
    rfl
  channels x other := by
    unfold withLevel
    rw [refreshChannel_other other, State.alignEntry_lcu, onChannel_other s _ other]
  entries other ne := by
    unfold withLevel
    rw [State.demandOf_congr (State.refreshChannel_sbu _ _), alignEntry_demandOf, if_pos (.inl ne)]
    rfl

theorem levelOnly_applyLevel (s : State) (c : ChannelId) (level : Nat) : LevelOnly c s (s.applyLevel c level) := by
  cases mark : (s.lcu.channels[c]).mark with
  | inService | tripped =>
    rw [applyLevel_taken level (by rw [mark]; simp)]
    split
    · exact .refl c s
    · exact levelOnly_withLevel s c level
  | lockedOut | unfitted =>
    rw [applyLevel_refused level (by rw [mark]; simp)]
    exact .refl c s

theorem refreshChannel_same (s : State) (c : ChannelId) : (s.refreshChannel c).lcu.channels[c] =
    refreshed s.now s.cfg.channels[c] (s.chanDrawing c) s.lcu.channels[c] := by
  rw [refreshChannel_eq, onChannel_same, chanDrawing_load]

/-- A channel that has taken a level stands at it, in service, its Leff recomputed (R45, R47, R50). -/
theorem withLevel_channel (s : State) (c : ChannelId) (level : Nat) : ∃ drawing, (withLevel s c level).lcu.channels[c] =
    refreshed s.now s.cfg.channels[c] drawing
      { s.lcu.channels[c] with lreq := deriveLevel s.cfg.channels[c] level, mark := .inService } := by
  have e := refreshChannel_same ((s.onChannel c fun x =>
    { x with lreq := deriveLevel s.cfg.channels[c] level, mark := .inService }).alignEntry c (s.lcu.channels[c]).lreq
      (deriveLevel s.cfg.channels[c] level)) c
  rw [State.alignEntry_now, State.alignEntry_cfg, State.alignEntry_lcu, onChannel_same] at e
  exact ⟨_, e⟩

theorem refreshed_keeps (now : Nat) (k : ChannelCfg) (drawing : Option Nat) (ch : Channel) :
    (refreshed now k drawing ch).lreq = ch.lreq ∧ (refreshed now k drawing ch).mark = ch.mark ∧
      (refreshed now k drawing ch).tripMemory = ch.tripMemory := by
  unfold refreshed
  dsimp only
  split <;> exact ⟨rfl, rfl, rfl⟩

theorem applyLevel_channel (level : Nat)
    (serves : (s.lcu.channels[c]).mark = .inService ∨ (s.lcu.channels[c]).mark = .tripped) :
    ((s.applyLevel c level).lcu.channels[c]).lreq = deriveLevel s.cfg.channels[c] level ∧
      ((s.applyLevel c level).lcu.channels[c]).mark = .inService ∧
      ((s.applyLevel c level).lcu.channels[c]).tripMemory = (s.lcu.channels[c]).tripMemory := by
  rw [applyLevel_taken level serves]
  split
  next same => exact ⟨same.2.symm, same.1, rfl⟩
  next =>
    obtain ⟨drawing, e⟩ := withLevel_channel s c level
    rw [e]
    exact refreshed_keeps _ _ _ _

theorem withLevel_demandOf (s : State) (c : ChannelId) (level : Nat) (src : Source) :
    (withLevel s c level).demandOf src =
      (s.alignEntry c (s.lcu.channels[c]).lreq (deriveLevel s.cfg.channels[c] level)).demandOf src := by
  unfold withLevel
  rw [State.demandOf_congr (State.refreshChannel_sbu _ _), alignEntry_demandOf, alignEntry_demandOf]
  rfl

/-- The entry of a channel whose Lreq a SET changes (R46). -/
theorem applyLevel_entry (level : Nat)
    (serves : (s.lcu.channels[c]).mark = .inService ∨ (s.lcu.channels[c]).mark = .tripped)
    (rated : (s.cfg.channels[c]).rating ≠ 0) (on : deriveLevel s.cfg.channels[c] level ≠ 0)
    (moves : deriveLevel s.cfg.channels[c] level ≠ (s.lcu.channels[c]).lreq) :
    (s.applyLevel c level).demandOf (.chan c) =
      if (s.lcu.channels[c]).lreq = 0 then
        some (newDemand s.inIsland (.chan c) (s.cfg.channels[c]).cls (s.cfg.channels[c]).rank
          (wants s.cfg.channels[c] (deriveLevel s.cfg.channels[c] level)))
      else (s.demandOf (.chan c)).map
        (changeWant s.inIsland (wants s.cfg.channels[c] (deriveLevel s.cfg.channels[c] level))) := by
  have aligned : ¬ (Source.chan c ≠ .chan c ∨ (s.cfg.channels[c]).rating = 0) := by tauto
  rw [applyLevel_taken level serves, if_neg (fun same => moves same.2), withLevel_demandOf, alignEntry_demandOf,
    if_neg aligned, if_neg on]
  rfl

/-! ### Where the station takes levels -/

theorem heardNow_takesLoads (s : State) (p : PortId) : (heardNow s p).takesLoads = s.takesLoads := by
  have suc : (heardNow s p).suc = s.suc := heardNow_view (·.suc) fun _ _ => rfl
  unfold State.takesLoads State.working
  rw [suc, heardNow_active (twin_not_heard p)]

theorem takesLoads_of (work : s.working = true) (up : s.suc.standDown = false) (single : s.active .twin = false) :
    s.takesLoads = true := by
  unfold State.takesLoads
  rw [work, up, single]
  rfl

theorem not_takesLoads (out : s.suc.standDown = true ∨ s.active .twin = true ∨ s.suc.phase = .listenOnly) :
    s.takesLoads = false := by
  unfold State.takesLoads State.working
  obtain e | e | e := out <;> simp [e]

theorem heardNow_inIsland (s : State) (p : PortId) : (heardNow s p).inIsland = s.inIsland :=
  heardNow_view (·.inIsland) fun _ _ => rfl

/-- A frame of the row that is delivered, on a calm port. -/
theorem exec_set {target channel level : Nat} (good : GoodFrame s p frame (.set src target channel level))
    (calm : Calm s p) :
    exec (.set p frame) s = .next (announceChange s
      (if s.suc.ownNumber = some target then (heardNow s p).deliverSet channel level else heardNow s p)) := by
  have suc : (heardNow s p).suc = s.suc := heardNow_view (·.suc) fun _ _ => rfl
  show Host.Outcome.next (s.receive p frame isSet) = _
  rw [receive_goodFrame good calm rfl]
  show Host.Outcome.next (announceChange s
    (if (heardNow s p).suc.ownNumber = some target then (heardNow s p).deliverSet channel level else heardNow s p)) = _
  rw [suc]

theorem exec_scene {number : Nat} (good : GoodFrame s p frame (.scene src number)) (calm : Calm s p) :
    exec (.scene p frame) s = .next (announceChange s ((heardNow s p).deliverScene number)) := by
  show Host.Outcome.next (s.receive p frame isScene) = _
  rw [receive_goodFrame good calm rfl]
  rfl

/-- What moves the channels and their entries alone announces no change of claims. -/
theorem announceChange_levels (leaves : t = { heardNow s p with
    lcu := t.lcu, sbu := { (heardNow s p).sbu with demands := t.sbu.demands, offers := t.sbu.offers } }) :
    announceChange s t = t := by
  rw [leaves]
  exact announceChange_still heardNow_zcu heardNow_cfg (heardNow_view (·.suc) fun _ _ => rfl)

theorem announceChange_heardNow (s : State) (p : PortId) : announceChange s (heardNow s p) = heardNow s p :=
  announceChange_levels rfl

theorem heardNow_levelsOk (h : LevelsOk s) : LevelsOk (heardNow s p) :=
  h.keep ⟨heardNow_lcu, heardNow_cfg, congrArg Suc.phase (heardNow_view (·.suc) fun _ _ => rfl),
    congrArg chanLoads heardNow_sbu⟩

/-! ### SET -/

/-- Settles O30: the level is taken from the station that has heard the SET, and what the channel's entry and Leff are
then follows from Chapter 3, which a level keeps. -/
theorem setGivesTheLevelAndTheEntry : Obligations.SetGivesTheLevelAndTheEntry := by
  intro p frame src own level c s good number calm work up single levels serves
  have takes : (heardNow s p).takesLoads = true := (heardNow_takesLoads s p).trans (takesLoads_of work up single)
  have only := levelOnly_applyLevel (heardNow s p) c level
  have start : LevelsOk (heardNow s p) := heardNow_levelsOk levels
  have after : ChannelAt ((heardNow s p).applyLevel c level) c :=
    (start.applyLevel (working_of_takesLoads takes) c level).channelAt c
  have before : ChannelAt s c := levels.channelAt c
  have run : exec (.set p frame) s = .next ((heardNow s p).applyLevel c level) := by
    rw [exec_set good calm, if_pos number, State.deliverSet, dif_pos c.isLt, if_pos takes]
    exact congrArg Host.Outcome.next (announceChange_levels only.leaves)
  have serves' : ((heardNow s p).lcu.channels[c]).mark = .inService ∨ ((heardNow s p).lcu.channels[c]).mark = .tripped := by
    rwa [heardNow_lcu]
  obtain ⟨lreq, mark, memory⟩ := applyLevel_channel level serves'
  rw [heardNow_cfg] at lreq
  rw [heardNow_lcu] at memory
  unfold ChannelAt at after
  rw [State.applyLevel_cfg, heardNow_cfg] at after
  refine ⟨_, run, ?_, lreq, mark, ?_, memory, fun x other => ?_, fun other ne => ?_, fun off => ?_, ?_, ?_⟩
  · exact only.leaves.trans (by rw [heardNow_sbu])
  · rw [after.level, lreq, chanDrawing_load]
  · rw [only.channels x other, heardNow_lcu]
  · rw [only.entries other ne, heardNow_demandOf]
  · rw [← Option.map_eq_none_iff (f := loadOf), demandOf_load]
    exact after.eq_none (lreq ▸ off.symm)
  · intro rated on wasOff
    have entry := applyLevel_entry (s := heardNow s p) level serves' (by rwa [heardNow_cfg]) (by rwa [heardNow_cfg])
      (by rwa [heardNow_cfg, heardNow_lcu, wasOff])
    rw [entry, heardNow_lcu, if_pos wasOff, heardNow_cfg, heardNow_inIsland, newDemand_eq]
  · intro d here on above moves
    have entered : (chanLoads s.sbu c).isSome = true := by
      rw [← demandOf_isSome, here]
      rfl
    obtain ⟨wasOn, rated⟩ := before.entry.1 entered
    obtain ⟨cls, -, -⟩ := before.want _ (by rw [← demandOf_load, here]; rfl)
    have classed : d.cls ≠ 0 := fun zero => above (cls.symm.trans zero)
    have entry := applyLevel_entry (s := heardNow s p) level serves' (by rwa [heardNow_cfg]) (by rwa [heardNow_cfg])
      (by rwa [heardNow_cfg, heardNow_lcu])
    rw [entry, heardNow_lcu, if_neg wasOn, heardNow_cfg, heardNow_inIsland, heardNow_demandOf, here, Option.map_some,
      changeWant, if_neg classed]

/-! ### SCENE -/

/-- What the pairs of a scene make of the station, each a SET of its level (R61). -/
structure Scened (pairs : List ScenePair) (s t : State) : Prop where
  leaves : t = { s with lcu := t.lcu, sbu := { s.sbu with demands := t.sbu.demands, offers := t.sbu.offers } }
  taken : ∀ q ∈ pairs, (s.lcu.channels[q.channel]).mark = .inService ∨ (s.lcu.channels[q.channel]).mark = .tripped →
    (t.lcu.channels[q.channel]).lreq = deriveLevel s.cfg.channels[q.channel] q.level ∧
      (t.lcu.channels[q.channel]).mark = .inService
  still : ∀ c : ChannelId, (∀ q ∈ pairs, q.channel ≠ c) ∨ (s.lcu.channels[c]).mark = .lockedOut ∨
    (s.lcu.channels[c]).mark = .unfitted → t.lcu.channels[c] = s.lcu.channels[c] ∧
      t.demandOf (.chan c) = s.demandOf (.chan c)
  movers : ∀ m : MoverId, t.demandOf (.mover m) = s.demandOf (.mover m)

theorem scened_pairs (pairs : List ScenePair) (once : (pairs.map fun q => q.channel).Nodup) (s : State) :
    Scened pairs s (pairs.foldl (fun acc q => acc.applyLevel q.channel q.level) s) := by
  induction pairs generalizing s with
  | nil => exact ⟨rfl, nofun, fun _ _ => ⟨rfl, rfl⟩, fun _ => rfl⟩
  | cons q pairs ih =>
    rw [List.map_cons, List.nodup_cons] at once
    obtain ⟨fresh, once⟩ := once
    have first := levelOnly_applyLevel s q.channel q.level
    have rest := ih once (s.applyLevel q.channel q.level)
    have apart : ∀ r ∈ pairs, r.channel ≠ q.channel := fun r named same => fresh (List.mem_map.2 ⟨r, named, same⟩)
    rw [List.foldl_cons]
    refine ⟨?_, fun r named serves => ?_, fun c out => ?_, fun m => ?_⟩
    · rw [rest.leaves, first.leaves]
    · obtain rfl | named := List.mem_cons.1 named
      · rw [(rest.still r.channel (.inl apart)).1]
        obtain ⟨lreq, mark, -⟩ := applyLevel_channel r.level serves
        exact ⟨lreq, mark⟩
      · have same := first.channels r.channel (apart r named)
        have taken := rest.taken r named (by rwa [same])
        rwa [State.applyLevel_cfg] at taken
    · by_cases own : c = q.channel
      · subst own
        obtain unnamed | out := out
        · exact absurd rfl (unnamed q List.mem_cons_self)
        · have same := applyLevel_refused q.level out
          have still := rest.still q.channel (.inl apart)
          rwa [same] at still ⊢
      · have same := first.channels c own
        have still := rest.still c (out.imp (fun unnamed r named => unnamed r (List.mem_cons_of_mem _ named))
          fun out => by rwa [same])
        rw [same, first.entries (.chan c) (by simpa using own)] at still
        exact still
    · rw [rest.movers m, first.entries (.mover m) (by simp)]

/-- Settles O31: the pairs are taken one after the other, each moving its own channel and entry alone. -/
theorem sceneSetsEachPairWhereTaken : Obligations.SceneSetsEachPairWhereTaken := by
  refine ⟨fun p frame s calm => ⟨fun src target channel level good ignored => ?_, fun src number good out => ?_⟩,
    fun p frame src n s good calm work up single levels once => ?_⟩
  · rw [exec_set good calm]
    have still : (if s.suc.ownNumber = some target then (heardNow s p).deliverSet channel level else heardNow s p) =
        heardNow s p := by
      split
      next here =>
        unfold State.deliverSet
        split
        next inRange =>
          split
          next takes =>
            rw [heardNow_takesLoads] at takes
            obtain e | e | e | e | e | ⟨c, rfl, e⟩ := ignored
            · cases (not_takesLoads (.inl e)).symm.trans takes
            · cases (not_takesLoads (.inr (.inl e))).symm.trans takes
            · cases (not_takesLoads (.inr (.inr e))).symm.trans takes
            · exact absurd here e
            · omega
            · exact applyLevel_refused (s := heardNow s p) (c := c) level (by rwa [heardNow_lcu])
          next => rfl
        next => rfl
      next => rfl
    rw [still, announceChange_heardNow]
  · rw [exec_scene good calm]
    have still : (heardNow s p).deliverScene number = heardNow s p := by
      unfold State.deliverScene
      split
      · rw [if_neg (by rw [heardNow_takesLoads, not_takesLoads out]; nofun)]
      · rfl
    rw [still, announceChange_heardNow]
  · have takes : (heardNow s p).takesLoads = true := (heardNow_takesLoads s p).trans (takesLoads_of work up single)
    have scened := scened_pairs s.cfg.scenes[n] once (heardNow s p)
    have run : exec (.scene p frame) s =
        .next (s.cfg.scenes[n].foldl (fun acc q => acc.applyLevel q.channel q.level) (heardNow s p)) := by
      rw [exec_scene good calm, State.deliverScene, dif_pos n.isLt, if_pos takes, heardNow_cfg]
      exact congrArg Host.Outcome.next (announceChange_levels scened.leaves)
    refine ⟨_, run, ?_, (heardNow_levelsOk levels).applyPairs (working_of_takesLoads takes) _, fun q named serves => ?_,
      fun c out => ?_, fun m => ?_⟩
    · exact scened.leaves.trans (by rw [heardNow_sbu] <;> rfl)
    · have taken := scened.taken q named (by rwa [heardNow_lcu])
      rwa [heardNow_cfg] at taken
    · have still := scened.still c (by rwa [heardNow_lcu])
      rwa [heardNow_lcu, heardNow_demandOf] at still
    · rw [scened.movers m, heardNow_demandOf]

end Sys2Proof.Safety
end

section
/-! PROOFS. The inrush window and the overcurrent trip, whatever comes first at the trip's instant (R54 to R59, R62). -/

namespace Sys2Proof.Safety

open Sys2Proof Sys2Proof.Machine

variable {s t u : State} {c x : ChannelId} {now : Nat} {tm : Option Nat} {ch : Channel}

theorem windowOut_eq (now : Nat) (k : ChannelCfg) (ch : Channel) : windowOut now k ch =
    { ch with
      inrush := none
      overTime :=
        if ch.position = 0 then ch.overTime
        else if k.trip < ch.lastReading then some (ch.overTime.getD now)
        else none } := by
  unfold windowOut
  rw [compareReading_eq]
  rfl

/-! ### A trip due -/

/-- A trip is due on a channel in service: its over-time has run in full, or it had when its output was put off at this
instant (R55, R59); with the trip memory it holds. -/
structure TripStands (now : Nat) (memory : Option Nat) (ch : Channel) : Prop where
  mark : ch.mark = .inService
  memory : ch.tripMemory = memory
  due : overrun now ch = true ∨ tripOwed now ch = true

theorem TripStands.moveTo (h : TripStands now tm ch) (pos : Nat) : TripStands now tm (moveTo now pos ch) :=
  ⟨h.mark, h.memory, moveTo_keeps_trip now pos ch h.mark h.due⟩

/-- Neither level is read by a trip. -/
theorem TripStands.levels (h : TripStands now tm ch) (lreq leff : Nat) :
    TripStands now tm { ch with lreq := lreq, leff := leff } := ⟨h.mark, h.memory, h.due⟩

theorem TripStands.refreshed (h : TripStands now tm ch) (k : ChannelCfg) (drawing : Option Nat) :
    TripStands now tm (refreshed now k drawing ch) := by
  unfold Safety.refreshed
  dsimp only
  split
  · exact (h.levels ch.lreq _).moveTo _
  · exact h.levels ch.lreq _

theorem overrun_of {k : Nat} (on : 0 < ch.position) (runs : ch.overTime = some k) (out : k + 100 ≤ now) :
    overrun now ch = true := by
  unfold overrun elapsed due
  rw [runs, decide_eq_true on]
  exact decide_eq_true out

/-- The trip of channel c stands in a station at instant `now`. -/
def TripAt (now : Nat) (tm : Option Nat) (c : ChannelId) (s : State) : Prop :=
  s.now = now ∧ TripStands now tm s.lcu.channels[c]

theorem TripAt.keep (h : TripAt now tm c s) (clock : t.now = s.now) (lcu : t.lcu = s.lcu) : TripAt now tm c t :=
  ⟨clock.trans h.1, lcu ▸ h.2⟩

theorem TripAt.foldl {α : Type} {f : State → α → State} (each : ∀ s a, TripAt now tm c s → TripAt now tm c (f s a))
    (l : List α) (h : TripAt now tm c s) : TripAt now tm c (l.foldl f s) := by
  induction l generalizing s with
  | nil => exact h
  | cons a l ih => exact ih (each s a h)

theorem TripAt.onChannel (h : TripAt now tm c s) (x : ChannelId) {f : Channel → Channel}
    (keeps : TripStands now tm s.lcu.channels[c] → TripStands now tm (f s.lcu.channels[c])) :
    TripAt now tm c (s.onChannel x f) := by
  refine ⟨h.1, ?_⟩
  by_cases same : c = x
  · subst x
    rw [onChannel_same]
    exact keeps h.2
  · rw [onChannel_other s f same]
    exact h.2

theorem TripAt.refreshChannel (h : TripAt now tm c s) (x : ChannelId) : TripAt now tm c (s.refreshChannel x) := by
  rw [refreshChannel_eq, h.1]
  exact h.onChannel x fun stands => stands.refreshed _ _

theorem TripAt.applyLevel (h : TripAt now tm c s) (x : ChannelId) (level : Nat) :
    TripAt now tm c (s.applyLevel x level) := by
  by_cases same : x = c
  · subst x
    rw [applyLevel_taken level (.inl h.2.mark)]
    split
    · exact h
    · have levelled := h.onChannel c (f := fun x =>
        { x with lreq := deriveLevel s.cfg.channels[c] level, mark := .inService })
        fun stands => ⟨rfl, stands.memory, stands.due.imp id fun owed => by
          unfold tripOwed at owed ⊢
          rwa [stands.mark] at owed⟩
      exact (levelled.keep (State.alignEntry_now _ _ _ _) (State.alignEntry_lcu _ _ _ _)).refreshChannel c
  · refine ⟨(State.applyLevel_now s x level).trans h.1, ?_⟩
    rw [(levelOnly_applyLevel s x level).channels c (Ne.symm same)]
    exact h.2

theorem TripAt.beatChannel (h : TripAt now tm c s) (x : ChannelId) : TripAt now tm c (s.beatChannel x) := by
  rw [beatChannel_eq, h.1]
  split
  · exact h.onChannel x fun stands => stands.moveTo _
  · exact h

theorem TripAt.tickChannel (h : TripAt now tm c s) (x : ChannelId) : TripAt now tm c (s.tickChannel x) := by
  have fresh := h.refreshChannel x
  unfold State.tickChannel State.cutChannel
  dsimp only
  split
  · rw [fresh.1]
    exact fresh.onChannel x fun stands => stands.moveTo _
  · exact fresh

/-! ### What may come first -/

theorem TripAt.deliver (h : TripAt now tm c s) (f : Frame) : TripAt now tm c (s.deliver f) := by
  unfold State.deliver
  split
  · exact h.keep (by simp) (by simp)
  · unfold State.deliverScene
    split
    · split
      · exact h.foldl (fun _ pair stands => stands.applyLevel pair.channel pair.level) _
      · exact h
    · exact h
  · exact h.keep (by simp) (by simp)
  · split
    · unfold State.deliverSet
      split
      · split
        · exact h.applyLevel _ _
        · exact h
      · exact h
    · exact h
  · split
    · exact h.keep (by simp) (by simp)
    · exact h

theorem TripAt.receive (h : TripAt now tm c s) (p : PortId) (frame : List Byte) (mine : Frame → Bool) :
    TripAt now tm c (s.receive p frame mine) := by
  have good : TripAt now tm c ((s.takeGoodFrame p).checkAndDeliver frame) := by
    have heard : TripAt now tm c (s.takeGoodFrame p) := h.keep (by simp) (by simp)
    unfold State.checkAndDeliver
    split
    · split
      · exact heard.keep (by simp) (by simp)
      · exact heard.deliver _
    · exact heard
  unfold State.receive
  split
  · split
    · split
      · exact good.keep (by simp) (by simp)
      · exact h
    · exact h.keep (by simp) (by simp)
  · exact h

theorem TripAt.ownTick (h : TripAt now tm c s) (supply : Bool) : TripAt now tm c (s.ownTick supply) := by
  have blocks : TripAt now tm c (s.tickBlocks supply) := by
    unfold State.tickBlocks
    split
    · have allotted : TripAt now tm c (s.sampleSupply supply).budgetTick :=
        h.keep ((State.budgetTick_now _).trans (sampleSupply_leaves s supply).now)
          ((State.budgetTick_lcu _).trans (sampleSupply_keepsLoads s supply).1)
      have ticked := allotted.foldl (fun _ x stands => TripAt.tickChannel stands x) allChannels
      exact ticked.foldl (fun _ m stands => stands.keep (by simp) (by simp)) allMovers
    · exact h
  exact blocks.keep (by unfold State.ownTick; simp [State.advanceTick]) (by unfold State.ownTick; simp [State.advanceTick])

theorem tripDue_of (h : TripAt now tm c s) : s.tripDue c = true := by
  unfold State.tripDue
  rw [h.1, Bool.or_eq_true]
  exact h.2.due

/-- A trip in its record and its entry, and what it reports (R56, R57). -/
theorem trip_reports (s : State) (c : ChannelId) :
    (s.trip c).fcl.flags[FaultKind.channelTrip.idx] = occurred s.now ∧
      ((s.lcu.channels[c]).tripMemory ≠ none → (s.trip c).active .channelLockout = true) ∧
      ((s.lcu.channels[c]).tripMemory = none → (s.trip c).active .channelLockout = s.active .channelLockout) := by
  have tripped : ((s.removeEntry (.chan c)).raiseEvent .channelTrip).fcl.flags[FaultKind.channelTrip.idx] =
      occurred s.now := (State.activate_flags _ _ _ _).trans (if_pos rfl)
  have lockout : ((s.removeEntry (.chan c)).raiseEvent .channelTrip).active .channelLockout = s.active .channelLockout :=
    (State.raiseEvent_active _ _ _).trans (if_neg (by decide))
  unfold State.trip
  dsimp only
  split
  next runs =>
    refine ⟨?_, fun _ => (State.raiseCond_active _ _ _).trans (if_pos rfl), fun none => ?_⟩
    · unfold State.raiseCond
      split
      · exact tripped
      · exact (State.activate_flags _ _ _ _).trans ((if_neg (by decide)).trans tripped)
    · rw [none] at runs
      cases runs
  next idle => exact ⟨tripped, fun memory => absurd (Option.isSome_iff_ne_none.2 memory) idle, fun _ => lockout⟩

theorem trip_demandOf (s : State) (c : ChannelId) (other : Source) :
    (s.trip c).demandOf other = if other = .chan c then none else s.demandOf other := by
  rw [State.demandOf_congr (trip_sbu s c), State.removeEntry_demandOf]

theorem trip_leaves (s : State) (c : ChannelId) :
    s.trip c = { s with lcu := (s.trip c).lcu, sbu := (s.trip c).sbu, fcl := (s.trip c).fcl } := by
  unfold State.trip State.raiseCond
  dsimp only
  split
  · split <;> rfl
  · rfl

theorem trip_own (s : State) (c : ChannelId) : (s.trip c).lcu.channels[c] = { s.lcu.channels[c] with
    lreq := 0
    leff := 0
    position := 0
    inrush := none
    overTime := none
    owedTrip := none
    mark := if (s.lcu.channels[c]).tripMemory = none then .tripped else .lockedOut
    tripMemory := if (s.lcu.channels[c]).tripMemory = none then some (s.now + 60000) else none } := by
  rw [State.trip_channel, if_pos rfl]
  cases memory : (s.lcu.channels[c]).tripMemory with
  | none => rfl
  | some _ => rfl

/-- Settles O33: what may come first keeps the trip due, and the trip is taken from the record it is due in. -/
theorem inrushEndsAndTripsCutTheOutput : Obligations.InrushEndsAndTripsCutTheOutput := by
  refine ⟨fun c s k runs out => ?_, fun c s k on runs out => ?_, fun c s t k first on runs out service row run => ?_⟩
  · have expired : due (s.lcu.channels[c]).inrush s.now = true := by
      rw [runs]
      exact decide_eq_true out
    refine congrArg Host.Outcome.next ((if_pos expired).trans (onChannel_congr ?_))
    rw [windowOut_eq]
  · have ran : overrun s.now s.lcu.channels[c] = true := overrun_of on runs out
    have tripDue : s.tripDue c = true := by rw [State.tripDue, ran, Bool.true_or]
    obtain ⟨tripped, locked, unlocked⟩ := trip_reports s c
    refine ⟨_, congrArg Host.Outcome.next (if_pos tripDue), trip_leaves s c, trip_own s c, fun x other => ?_, ?_,
      fun other ne => ?_, tripped, locked, unlocked⟩
    · rw [State.trip_channel, if_neg other]
    · rw [trip_demandOf, if_pos rfl]
    · rw [trip_demandOf, if_neg ne]
  · have start : TripAt s.now (s.lcu.channels[c]).tripMemory c s := ⟨rfl, service, rfl, .inl (overrun_of on runs out)⟩
    have stands : TripAt s.now (s.lcu.channels[c]).tripMemory c t := by
      obtain ⟨p, frame, rfl | rfl⟩ | ⟨supply, rfl⟩ | rfl := row
      · exact Host.Outcome.next.inj run ▸ start.receive p frame isSet
      · exact Host.Outcome.next.inj run ▸ start.receive p frame isScene
      · refine Host.Outcome.next.inj run ▸ ?_
        split
        · exact start.ownTick supply
        · exact start
      · refine Host.Outcome.next.inj run ▸ ?_
        split
        · exact start.foldl (fun _ x stands => stands.beatChannel x) allChannels
        · exact start
    obtain ⟨clock, held⟩ := stands
    obtain ⟨tripped, -, -⟩ := trip_reports t c
    obtain ⟨lreq, leff, position⟩ := trip_record t c
    refine ⟨_, congrArg Host.Outcome.next (if_pos (tripDue_of ⟨clock, held⟩)), lreq, leff, position, ?_, ?_, ?_, ?_⟩
    · rw [trip_demandOf, if_pos rfl]
    · rw [tripped, clock]
    · rw [trip_own, held.memory]
    · rw [trip_own, held.memory, clock]

end Sys2Proof.Safety
end

section
/-! PROOFS. The key table: what a press composes, the present level it reads, and the held DRIVE keys (R139 to R144,
R157). -/

namespace Sys2Proof.Safety

open Sys2Proof Sys2Proof.Machine

variable {s t u : State} {k j : KeyId} {f : Frame} {pin : PinId}

/-! ### The entries of the key table -/

theorem onKey_same (s : State) (k : KeyId) (f : Key → Key) : (s.onKey k f).ktu.keys[k] = f s.ktu.keys[k] := by
  simp

theorem onKey_other (s : State) (f : Key → Key) (other : j ≠ k) : (s.onKey k f).ktu.keys[j] = s.ktu.keys[j] := by
  rw [State.onKey_keys, Fin.getElem_fin, modifyAt_get, if_neg other]
  rfl

/-- The Held field of an entry, and with it the delivered value of its pin, are all a hold moves. -/
theorem hold_eq (s : State) (k : KeyId) (active : Bool) : s.hold k active =
    { s with ktu := (s.onKey k fun x => { x with held := active }).ktu, fpr := (s.hold k active).fpr } := by
  unfold State.hold
  dsimp only
  cases (s.cfg.keys[k]).pin <;> rfl

theorem hold_ktu (s : State) (k : KeyId) (active : Bool) :
    (s.hold k active).ktu = (s.onKey k fun x => { x with held := active }).ktu := by rw [hold_eq]

theorem hold_now (s : State) (k : KeyId) (active : Bool) : (s.hold k active).now = s.now := by rw [hold_eq]
theorem hold_liu (s : State) (k : KeyId) (active : Bool) : (s.hold k active).liu = s.liu := by rw [hold_eq]
theorem hold_suc (s : State) (k : KeyId) (active : Bool) : (s.hold k active).suc = s.suc := by rw [hold_eq]
theorem hold_cfg (s : State) (k : KeyId) (active : Bool) : (s.hold k active).cfg = s.cfg := by rw [hold_eq]

theorem hold_number (s : State) (k : KeyId) (active : Bool) : (s.hold k active).number = s.number := by
  unfold State.number
  rw [hold_suc]

theorem hold_bound (bound : (s.cfg.keys[k]).pin = some pin) (active : Bool) :
    s.hold k active = (s.onKey k fun x => { x with held := active }).deliverPin pin active := by
  unfold State.hold
  rw [bound]

/-! ### A frame composed by a key -/

/-- A command frame is any but an ANNOUNCE. -/
def isCommand : Frame → Bool
  | .announce _ _ => false
  | _ => true

/-- A command frame delivered to the own blocks moves neither the queue nor TWIN. -/
theorem deliver_command (command : isCommand f = true) (s : State) :
    (s.deliver f).liu = s.liu ∧ (s.deliver f).active .twin = s.active .twin := by
  cases f with
  | announce src a => cases command
  | scene src number => exact ⟨State.deliverScene_liu s number, active_of_fcl (State.deliverScene_fcl s number) _⟩
  | forget src target =>
    exact ⟨State.deliverForget_liu s src target, (reports_deliverForget s src target).active (by decide)⟩
  | set src target channel level =>
    unfold State.deliver
    dsimp only
    split
    · exact ⟨State.deliverSet_liu s channel level, active_of_fcl (State.deliverSet_fcl s channel level) _⟩
    · exact ⟨rfl, rfl⟩
  | drive src target m motion =>
    unfold State.deliver
    dsimp only
    split
    · exact ⟨State.deliverDrive_liu s src m motion,
        (acts_aside (acts_deliverDrive s src m motion)).reports.active (by decide)⟩
    · exact ⟨rfl, rfl⟩

/-- A frame offered to the queue as it stood in s: taken behind the others, or refused by a full queue with TXQ_FULL
(R157). -/
structure Offered (f : Frame) (s t : State) : Prop where
  taken : s.active .twin = false → s.liu.fifo.length < 4 → ∃ q,
    t.liu.fifo = s.liu.fifo ++ [q] ∧ q.frame = f ∧ q.queuedAt = s.now
  full : 4 ≤ s.liu.fifo.length → t.liu.fifo = s.liu.fifo
  refused : s.active .twin = false → 4 ≤ s.liu.fifo.length → t.active .txqFull = true

theorem offered_emit (command : isCommand f = true) (now : u.now = s.now) (liu : u.liu = s.liu) (fcl : u.fcl = s.fcl) :
    Offered f s (announceChange s (u.emit f)) := by
  obtain ⟨queue, twin⟩ := deliver_command command u
  have clock : (u.deliver f).now = s.now := (State.deliver_now u f).trans now
  rw [liu] at queue
  rw [active_of_fcl fcl] at twin
  unfold State.emit
  obtain ⟨dropped, e⟩ | ⟨single, full, e⟩ | ⟨single, room, e⟩ := State.offerFrame_cases (u.deliver f) f
  · rw [twin] at dropped
    rw [e]
    refine ⟨fun single => ?_, fun _ => ?_, fun single => ?_⟩
    · cases dropped.symm.trans single
    · rw [announceChange_fifo, queue]
    · cases dropped.symm.trans single
  · rw [queue] at full
    rw [e]
    refine ⟨fun _ room => absurd room (Nat.not_lt.2 full), fun _ => ?_, fun _ _ => ?_⟩
    · rw [announceChange_fifo, State.raiseEvent_liu, queue]
    · rw [announceChange_active, State.raiseEvent_active, if_pos rfl]
  · rw [queue] at room
    rw [e]
    refine ⟨fun _ _ => ⟨{ serial := (u.deliver f).liu.serial, frame := f, queuedAt := (u.deliver f).now }, ?_, rfl, clock⟩,
      fun full => absurd room (Nat.not_lt.2 full), fun _ full => absurd room (Nat.not_lt.2 full)⟩
    rw [announceChange_fifo]
    show (u.deliver f).liu.fifo ++ _ = _
    rw [queue]

theorem emit_ktu (s : State) (f : Frame) : (s.emit f).ktu = s.ktu :=
  (State.offerFrame_ktu _ f).trans (State.deliver_ktu s f)

/-- A key in QUIET or RUN whose pin is bound and which is not held is pressed (R139). -/
theorem press_of (work : s.working = true) (bound : (s.cfg.keys[k]).pin = some pin)
    (released : (s.ktu.keys[k]).held = false) (act : State → State) :
    s.press k act = announceChange s (act (s.hold k true)) := by
  refine if_pos ?_
  unfold State.canPress
  rw [work, bound, released]
  rfl

/-- A press that composes a frame. -/
theorem composed {c : Instr} (run : exec c s = .next (announceChange s (u.emit f)))
    (offered : Offered f s (announceChange s (u.emit f))) :
    ∃ t, exec c s = .next t ∧ t = announceChange s ((u.deliver f).offerFrame f) ∧
      (s.active .twin = false → s.liu.fifo.length < 4 → ∃ q,
        t.liu.fifo = s.liu.fifo ++ [q] ∧ q.frame = f ∧ q.queuedAt = s.now) ∧
      (4 ≤ s.liu.fifo.length → t.liu.fifo = s.liu.fifo) ∧
      (s.active .twin = false → 4 ≤ s.liu.fifo.length → t.active .txqFull = true) :=
  ⟨_, run, rfl, offered.taken, offered.full, offered.refused⟩

/-- Settles O53: each press holds its entry, composes its frame and offers it. -/
theorem keysComposeTheirFrame : Obligations.KeysComposeTheirFrame := by
  refine ⟨fun target c s => ⟨fun own => if_pos own, fun i other slot => ⟨fun x known => ?_, fun absent => ?_⟩⟩,
    fun k pin s work bound released => ?_⟩
  · rw [State.presentLevel, if_neg other, slot]
    dsimp only
    rw [known]
  · rw [State.presentLevel, if_neg other, slot]
    dsimp only
    rw [absent]
  · dsimp only
    rw [← hold_bound bound]
    have held : ∀ f, isCommand f = true → Offered f s (announceChange s ((s.hold k true).emit f)) := fun f command =>
      offered_emit command (hold_now s k true) (hold_liu s k true) (hold_fcl s k true)
    have acked : ∀ f, isCommand f = true →
        Offered f s (announceChange s (((s.hold k true).acknowledge k).emit f)) := fun f command =>
      offered_emit command (hold_now s k true) (hold_liu s k true) (hold_fcl s k true)
    have acknowledged : (s.hold k true).onKey k (fun x => { x with ackUntil := some (s.now + 1000) }) =
        (s.hold k true).acknowledge k := by
      unfold State.acknowledge
      rw [hold_now]
      rfl
    rw [acknowledged]
    refine ⟨fun target c level e => composed ?_ (held _ rfl), fun target c onLevel e => composed ?_ (held _ rfl),
      fun n e => composed ?_ (acked _ rfl), fun target m e => composed ?_ (held _ rfl),
      fun target e => composed ?_ (acked _ rfl)⟩
    · show execKeySetLevel k s = _
      rw [execKeySetLevel, e]
      dsimp only
      rw [press_of work bound released, hold_number]
    · show execKeyToggle k s = _
      rw [execKeyToggle, e]
      dsimp only
      rw [press_of work bound released, hold_number]
      rfl
    · show execKeyScene k s = _
      rw [execKeyScene, e]
      dsimp only
      rw [press_of work bound released, hold_number]
    · show execKeyClear k s = _
      rw [execKeyClear, e]
      dsimp only
      rw [press_of work bound released, hold_number]
    · show execKeyForget k s = _
      rw [execKeyForget, e]
      dsimp only
      rw [press_of work bound released, hold_number]

end Sys2Proof.Safety
end

section
/-! PROOFS. The HOLD_DRIVE keys: the drive at the press, its repeats, the contention and the release (R143, R144). -/

namespace Sys2Proof.Safety

open Sys2Proof Sys2Proof.Machine

variable {s t u : State} {k j : KeyId} {f : Frame} {pin : PinId} {m : MoverId} {d : Dir} {target : Nat}

theorem allKeys_once : allKeys.Nodup := by decide

theorem mem_allKeys (k : KeyId) : k ∈ allKeys := by revert k; decide

theorem motionOfDir_eq (d : Dir) : motionOfDir d = motionFor d := by cases d <;> rfl

/-! ### Contention -/

/-- An entry that a press of key k suppresses (R144). -/
def Suppresses (s : State) (k j : KeyId) : Prop :=
  j ≠ k ∧ contend (s.cfg.keys[k]).action (s.cfg.keys[j]).action = true ∧ (s.ktu.keys[j]).standing = .driving

theorem suppress_leaves (s : State) (k j : KeyId) : s.suppress k j = { s with ktu := (s.suppress k j).ktu } := by
  unfold State.suppress
  split <;> rfl

theorem suppress_other (s : State) (k : KeyId) {i : KeyId} (other : i ≠ j) :
    (s.suppress k j).ktu.keys[i] = s.ktu.keys[i] := by
  unfold State.suppress
  split
  · exact onKey_other s _ other
  · rfl

theorem suppress_taken (suppresses : Suppresses s k j) :
    (s.suppress k j).ktu.keys[j] = { s.ktu.keys[j] with standing := .suppressed, nextRepeat := none } :=
   (congrArg (fun v : State => v.ktu.keys[j]) (if_pos suppresses)).trans (onKey_same s j _)

theorem suppress_spared (spares : ¬ Suppresses s k j) : s.suppress k j = s := if_neg spares

theorem suppresses_leave (s : State) (k : KeyId) (l : List KeyId) :
    l.foldl (State.suppress k) s = { s with ktu := (l.foldl (State.suppress k) s).ktu } := by
  induction l generalizing s with
  | nil => rfl
  | cons i l ih =>
    rw [List.foldl_cons, ih, suppress_leaves]

/-- Among keys each named once, the suppressed ones are exactly those that contend and drive. -/
theorem suppresses_each (k j : KeyId) (l : List KeyId) (once : l.Nodup) (s : State) :
    (Suppresses s k j → j ∈ l → (l.foldl (State.suppress k) s).ktu.keys[j] =
      { s.ktu.keys[j] with standing := .suppressed, nextRepeat := none }) ∧
    (¬ Suppresses s k j ∨ j ∉ l → (l.foldl (State.suppress k) s).ktu.keys[j] = s.ktu.keys[j]) := by
  induction l generalizing s with
  | nil => exact ⟨nofun, fun _ => rfl⟩
  | cons i l ih =>
    obtain ⟨fresh, once⟩ := List.nodup_cons.1 once
    obtain ⟨later, spared⟩ := ih once (s.suppress k i)
    rw [List.foldl_cons]
    by_cases own : j = i
    · subst i
      rw [spared (.inr fresh)]
      refine ⟨fun suppresses _ => suppress_taken suppresses, fun out => ?_⟩
      rw [suppress_spared (out.resolve_right (not_not.2 List.mem_cons_self))]
    · have same := suppress_other s k own
      have still : Suppresses (s.suppress k i) k j ↔ Suppresses s k j := by
        unfold Suppresses
        rw [same, suppress_leaves]
      rw [still, same] at later spared
      exact ⟨fun suppresses named => later suppresses (List.mem_of_ne_of_mem own named),
        fun out => spared (out.imp id fun unnamed named => unnamed (List.mem_cons_of_mem _ named))⟩

/-! ### Press, repeat and release -/

theorem exec_keyHoldDrive (action : (s.cfg.keys[k]).action = .holdDrive target m d) (work : s.working = true)
    (bound : (s.cfg.keys[k]).pin = some pin) (released : (s.ktu.keys[k]).held = false) :
    exec (.keyHoldDrive k) s = .next (announceChange s
      (((allKeys.foldl (State.suppress k) (s.hold k true)).onKey k fun x =>
        { x with standing := .driving, nextRepeat := some (s.now + 100) }).emit
          (.drive s.number target m (motionFor d)))) := by
  show execKeyHoldDrive k s = _
  rw [execKeyHoldDrive, action]
  dsimp only
  rw [press_of work bound released, State.startHold, hold_now, hold_number, motionOfDir_eq]
  rfl

theorem exec_keyRepeat {n : Nat} (action : (s.cfg.keys[k]).action = .holdDrive target m d) (work : s.working = true)
    (held : (s.ktu.keys[k]).held = true) (driving : (s.ktu.keys[k]).standing = .driving)
    (next : (s.ktu.keys[k]).nextRepeat = some n) (out : n ≤ s.now) :
    exec (.keyRepeat k) s = .next (announceChange s
      ((s.onKey k fun x => { x with nextRepeat := some (n + 100) }).emit (.drive s.number target m (motionFor d)))) := by
  have repeats : s.repeatDue k = true := by
    unfold State.repeatDue
    rw [work, held, driving, next]
    exact decide_eq_true out
  refine congrArg Host.Outcome.next ((if_pos repeats).trans ?_)
  rw [State.repeatHold, action, next]
  dsimp only
  rw [motionOfDir_eq]
  rfl

/-- The entry of a key released: held no longer, with no drive standing (R143). -/
def letGo (s : State) (k : KeyId) : State :=
  (s.hold k false).onKey k fun x => { x with standing := .idle, nextRepeat := none }

theorem letGo_same (s : State) (k : KeyId) :
    (letGo s k).ktu.keys[k] = { s.ktu.keys[k] with held := false, standing := .idle, nextRepeat := none } := by
  unfold letGo
  rw [onKey_same, hold_ktu, onKey_same]

theorem letGo_other (s : State) (other : j ≠ k) : (letGo s k).ktu.keys[j] = s.ktu.keys[j] := by
  unfold letGo
  rw [onKey_other _ _ other, hold_ktu, onKey_other _ _ other]

theorem letGo_leaves (s : State) (k : KeyId) : letGo s k = { s with ktu := (letGo s k).ktu, fpr := (letGo s k).fpr } := by
  unfold letGo
  rw [hold_eq]
  rfl

theorem letGo_now (s : State) (k : KeyId) : (letGo s k).now = s.now := by rw [letGo_leaves]
theorem letGo_liu (s : State) (k : KeyId) : (letGo s k).liu = s.liu := by rw [letGo_leaves]
theorem letGo_fcl (s : State) (k : KeyId) : (letGo s k).fcl = s.fcl := by rw [letGo_leaves]
theorem letGo_mvu (s : State) (k : KeyId) : (letGo s k).mvu = s.mvu := by rw [letGo_leaves]

theorem releaseHold_eq (s : State) (k : KeyId) : (s.hold k false).releaseHold k =
    match (s.cfg.keys[k]).action with
    | .holdDrive target m _ =>
      if (s.ktu.keys[k]).standing = .driving then (letGo s k).emit (.drive s.number target m .stop) else letGo s k
    | _ => letGo s k := by
  have standing : ((s.hold k false).ktu.keys[k]).standing = (s.ktu.keys[k]).standing := by
    rw [hold_ktu, onKey_same]
  unfold State.releaseHold
  rw [standing, hold_cfg, hold_number]
  rfl

theorem exec_keyRelease (work : s.working = true) (held : (s.ktu.keys[k]).held = true) :
    exec (.keyRelease k) s = .next (announceChange s ((s.hold k false).releaseHold k)) :=
  congrArg Host.Outcome.next (if_pos (by unfold State.canRelease; rw [work, held]; rfl))

theorem announceChange_letGo (s : State) (k : KeyId) : announceChange s (letGo s k) = letGo s k := by
  rw [letGo_leaves]
  exact announceChange_still rfl rfl rfl

theorem onPin_record (s : State) (p q : PinId) (f : Pin → Pin) :
    (s.onPin p f).fpr.pins[q] = if q = p then f s.fpr.pins[q] else s.fpr.pins[q] := by
  by_cases same : q = p
  · subst q
    simp [State.onPin]
  · rw [if_neg same, State.onPin_pins, Fin.getElem_fin, modifyAt_get, if_neg same]
    rfl

theorem letGo_pin (s : State) (k : KeyId) (p : PinId) :
    ((s.cfg.keys[k]).pin = some p → ((letGo s k).fpr.pins[p]).delivered = false) ∧
      ((s.cfg.keys[k]).pin ≠ some p → (letGo s k).fpr.pins[p] = s.fpr.pins[p]) := by
  have same : (letGo s k).fpr = (s.hold k false).fpr := rfl
  rw [same, State.hold]
  cases bound : (s.cfg.keys[k]).pin with
  | none => exact ⟨nofun, fun _ => rfl⟩
  | some q =>
    dsimp only
    rw [State.deliverPin, onPin_record]
    refine ⟨fun own => ?_, fun other => if_neg fun own : p = q => other (congrArg some own.symm)⟩
    rw [if_pos (Option.some.inj own).symm]

/-- Settles O54: the entries follow the contention at a press and the release, and the frames are offered as any key's
are. -/
theorem holdKeysDriveRepeatAndStop : Obligations.HoldKeysDriveRepeatAndStop := by
  refine ⟨fun k s work held other => ?_, fun k target m d s action work => ⟨fun pin bound released => ?_,
    fun n held driving next out => ?_, fun held => ?_⟩⟩
  · have nothing : (s.hold k false).releaseHold k = letGo s k := by
      rw [releaseHold_eq]
      split
      next target m d e => exact absurd e (other target m d)
      next => rfl
    refine ⟨letGo s k, ?_, letGo_leaves s k, letGo_same s k, fun j ne => letGo_other s ne, letGo_pin s k⟩
    rw [exec_keyRelease work held, nothing, announceChange_letGo]
  · have leaves := suppresses_leave (s.hold k true) k allKeys
    have offered := offered_emit (f := .drive s.number target m (motionFor d)) (s := s)
      (u := (allKeys.foldl (State.suppress k) (s.hold k true)).onKey k fun x =>
        { x with standing := .driving, nextRepeat := some (s.now + 100) }) rfl
      ((congrArg State.now leaves).trans (hold_now s k true)) ((congrArg State.liu leaves).trans (hold_liu s k true))
      ((congrArg State.fcl leaves).trans (hold_fcl s k true))
    have same : ∀ j, j ≠ k → (s.hold k true).ktu.keys[j] = s.ktu.keys[j] := fun j ne => by
      rw [hold_ktu, onKey_other _ _ ne]
    have suppresses : ∀ j, j ≠ k → (Suppresses (s.hold k true) k j ↔ Suppresses s k j) := fun j ne => by
      unfold Suppresses
      rw [same j ne, hold_cfg]
    refine ⟨_, exec_keyHoldDrive action work bound released, ?_, ?_, ?_, fun j ne contends drives => ?_,
      fun j ne spares => ?_, offered.taken⟩
    all_goals rw [announceChange_ktu, emit_ktu]
    · rw [onKey_same, (suppresses_each k k allKeys allKeys_once _).2 (.inl fun own => own.1 rfl), hold_ktu, onKey_same]
    · rw [onKey_same]
    · rw [onKey_same]
    · rw [onKey_other _ _ ne, ((suppresses_each k j allKeys allKeys_once _).1
        ((suppresses j ne).2 ⟨ne, contends, drives⟩) (mem_allKeys j)), same j ne]
    · have spared : ¬ Suppresses s k j := fun ⟨_, contends, drives⟩ => by
        obtain e | e := spares
        · cases e.symm.trans contends
        · exact e drives
      rw [onKey_other _ _ ne, ((suppresses_each k j allKeys allKeys_once _).2 (.inl (mt (suppresses j ne).1 spared))),
        same j ne]
  · have offered := offered_emit (f := .drive s.number target m (motionFor d)) (s := s)
      (u := s.onKey k fun x => { x with nextRepeat := some (n + 100) }) rfl rfl rfl rfl
    refine ⟨_, exec_keyRepeat action work held driving next out, ?_, offered.taken⟩
    rw [announceChange_ktu, emit_ktu, onKey_same]
  · have released := releaseHold_eq s k
    rw [action] at released
    dsimp only at released
    by_cases drives : (s.ktu.keys[k]).standing = .driving
    · rw [if_pos drives] at released
      have offered := offered_emit (f := .drive s.number target m .stop) (s := s) (u := letGo s k) rfl
        (letGo_now s k) (letGo_liu s k) (letGo_fcl s k)
      refine ⟨_, (exec_keyRelease work held).trans (by rw [released]), ?_, fun _ => offered.taken, absurd drives⟩
      rw [announceChange_ktu, emit_ktu, letGo_same]
    · rw [if_neg drives] at released
      refine ⟨letGo s k, (exec_keyRelease work held).trans (by rw [released, announceChange_letGo]), letGo_same s k,
        fun e => absurd e drives, fun _ => ⟨congrArg Liu.fifo (letGo_liu s k), letGo_mvu s k⟩⟩

end Sys2Proof.Safety
end

section
/-! PROOFS. What the outside sees at the field pins, and the announced form of channels and of the stand-down (R43, R89,
R114, R124, R136, R137, R145, R174, R176). -/

namespace Sys2Proof.Safety

open Sys2Proof Sys2Proof.Machine

variable {s t : State} {m : MoverId} {r : Mover} {k : KeyId} {p : PinId} {c : ChannelId} {target : Nat} {i : SlotId}

/-! ### Movers -/

theorem moverOutputs_of (here : s.mover m = some r) : s.moverOutputs m = phaseOutputs (s.moverCfg m) s.fpr.blinkLit r := by
  unfold State.moverOutputs
  rw [here]
  rfl

/-- The outputs of a mover in force, phase by phase (Table 5-5, R124). -/
theorem moverOutputs_iff (here : s.mover m = some r) :
    let o := s.moverOutputs m
    (o.driveA = true ↔ r.phase = .running ∧ r.direction = some .dirA) ∧
    (o.driveB = true ↔ r.phase = .running ∧ r.direction = some .dirB) ∧
    (o.powerEnable = true ↔ r.phase = .unlocking ∨ r.phase = .running ∨ r.phase = .stopping ∨ r.phase = .locking) ∧
    (o.lockRelease = true ↔ (s.moverCfg m).lockFitted = true ∧
      (r.phase = .unlocking ∨ r.phase = .running ∨ r.phase = .stopping)) ∧
    (o.slow = true ↔ (s.moverCfg m).kind = .windlass ∧ r.phase = .running ∧ r.direction = some .dirB ∧
      (r.known = false ∨ r.count ≤ (s.moverCfg m).chain.slowCount)) ∧
    (o.beacon = true ↔ r.phase = .faulted ∨ (r.phase.inMotion = true ∧ s.fpr.blinkLit = true)) := by
  dsimp only
  rw [moverOutputs_of here]
  unfold phaseOutputs slowNow
  cases phase : r.phase <;> simp [MoverPhase.inMotion, and_assoc]

/-! ### Stand-down and fades -/

theorem quiet_iff (s : State) (m : MoverId) : moverQuiet (s.mover m) = true ↔
    ∀ r, s.mover m = some r → r.phase = .idle ∨ r.phase = .faulted ∨ r.phase = .unfitted := by
  unfold moverQuiet
  cases s.mover m with
  | none => simp
  | some r => cases e : r.phase <;> simp [e, MoverPhase.inMotion]

theorem unfading_iff (s : State) (c : ChannelId) : (!s.fading c) = true ↔
    ((s.cfg.channels[c]).kind = .dimmed → (s.lcu.channels[c]).position = (s.lcu.channels[c]).leff) := by
  unfold State.fading
  cases (s.cfg.channels[c]).kind <;> simp

/-- While stand-down holds the station is DRAINED once every mover is quiet and no output fades (R176). -/
theorem drained_iff (s : State) : s.standDownState = .drained ↔ s.suc.standDown = true ∧
    (∀ m r, s.mover m = some r → r.phase = .idle ∨ r.phase = .faulted ∨ r.phase = .unfitted) ∧
    ∀ c : ChannelId, (s.cfg.channels[c]).kind = .dimmed → (s.lcu.channels[c]).position = (s.lcu.channels[c]).leff := by
  have quiet : (allMovers.all (fun m => moverQuiet (s.mover m)) && allChannels.all (fun c => !s.fading c)) = true ↔
      (∀ m r, s.mover m = some r → r.phase = .idle ∨ r.phase = .faulted ∨ r.phase = .unfitted) ∧
      ∀ c : ChannelId, (s.cfg.channels[c]).kind = .dimmed →
        (s.lcu.channels[c]).position = (s.lcu.channels[c]).leff := by
    rw [Bool.and_eq_true, List.all_eq_true, List.all_eq_true]
    exact and_congr ⟨fun h m => (quiet_iff s m).1 (h m (mem_allMovers m)), fun h m _ => (quiet_iff s m).2 (h m)⟩
      ⟨fun h c => (unfading_iff s c).1 (h c (mem_allChannels c)), fun h c _ => (unfading_iff s c).2 (h c)⟩
  unfold State.standDownState
  rw [← quiet]
  split
  next down =>
    split
    next still => simp [down, still]
    next moves => simp [down, moves]
  next up => simp [up]

theorem normal_iff (s : State) : s.standDownState = .normal ↔ s.suc.standDown = false := by
  unfold State.standDownState
  split
  next down =>
    rw [down]
    split <;> simp
  next up => simp [Bool.eq_false_iff.2 up]

/-! ### Indicators -/

theorem presentLevel_own (own : s.suc.ownNumber = some target) : s.presentLevel target c = (s.lcu.channels[c]).leff :=
  if_pos own

theorem presentLevel_slot (other : s.suc.ownNumber ≠ some target) (slot : slotOf target = some i) :
    s.presentLevel target c = match s.ptu.peers[i] with
      | some x => (x.ann.channels[c]).level
      | none => 0 := by
  rw [State.presentLevel, if_neg other, slot] <;> rfl

/-- Where there is nothing to read of a mover, an indicator sees nothing (R145). -/
theorem moverSeen_none (nothing : ReadsNoMover s target m) : s.moverSeen target m = none := by
  unfold State.moverSeen
  obtain ⟨own, absent⟩ | ⟨other, unnamed⟩ := nothing
  · rw [if_pos own, absent]
    rfl
  · rw [if_neg other]
    cases slot : slotOf target with
    | none => rfl
    | some i =>
      dsimp only
      cases record : s.ptu.peers[i] with
      | none => rfl
      | some x =>
        dsimp only
        rw [List.find?_eq_none.2 fun y listed => by simpa using unnamed i x slot record y listed]
        rfl

theorem moverSeen_some {phase : MoverPhase} {summary : Summary} (reads : ReadsMover s target m phase summary) :
    s.moverSeen target m = some (phase, summary) := by
  unfold State.moverSeen
  obtain ⟨own, r, here, rfl, rfl⟩ | ⟨other, i, x, y, slot, record, listed, index, only, rfl, rfl⟩ := reads
  · rw [if_pos own, here]
    rfl
  · rw [if_neg other, slot]
    dsimp only
    rw [record]
    dsimp only
    cases found : x.ann.movers.find? fun z => decide (z.index = m) with
    | none => exact absurd (by simpa using index) (List.find?_eq_none.1 found y listed)
    | some z =>
      have named : z.index = m := by simpa using List.find?_some found
      rw [only z (List.mem_of_find?_eq_some found) named]
      rfl

theorem indicator_hold {d : Dir} (action : (s.cfg.keys[k]).action = .holdDrive target m d) :
    s.indicator k = holdIndicator d (s.moverSeen target m) := by
  unfold State.indicator
  rw [action]

theorem indicator_clear (action : (s.cfg.keys[k]).action = .clear target m) :
    s.indicator k = match s.moverSeen target m with
      | some (phase, _) => if phase = .faulted then .on else .off
      | none => .off := by
  unfold State.indicator
  rw [action] <;> rfl

theorem indicator_level {level : Nat}
    (action : (s.cfg.keys[k]).action = .setLevel target c level ∨ (s.cfg.keys[k]).action = .toggle target c level) :
    s.indicator k = if 0 < s.presentLevel target c then .on else .off := by
  unfold State.indicator
  obtain e | e := action <;> rw [e]

theorem lit_decide (b : Prop) [Decidable b] :
    (if b then Indicator.on else .off) = if decide b = true then .on else .off := by
  by_cases h : b <;> simp [h]

/-- A HOLD_DRIVE indicator by the phase and the summary it reads (Table 7-6). -/
theorem holdIndicator_eq (d : Dir) (phase : MoverPhase) (summary : Summary) : holdIndicator d (some (phase, summary)) =
    if phase = .faulted then .on
    else if phase = .requesting ∨ phase = .unlocking ∨ phase = .running ∨ phase = .stopping ∨ phase = .locking
    then .blinking
    else if phase = .idle ∧ summary = (match d with | .dirA => .atAEnd | .dirB => .atBEnd) then .on
    else .off := by
  cases d <;> cases phase <;> cases summary <;> rfl

/-! ### Pins -/

theorem pinDrive_of_working (work : s.working = true) (p : PinId) : s.pinDrive p = s.ownerDrive s.cfg.pins[p] := by
  unfold State.working at work
  unfold State.pinDrive
  cases phase : s.suc.phase <;> simp_all

theorem ownerDrive_input {x : PinCfg} (input : isOutput x.fn = false) (s : State) : s.ownerDrive x = .undriven := by
  unfold State.ownerDrive
  cases fn : x.fn <;> simp_all [isOutput, PinFn.isInput]

/-- A pin that is no output is driven in LISTEN_ONLY alone, where FP31 stands high (R136, R174). -/
theorem pinDrive_input (input : isOutput (s.cfg.pins[p]).fn = false) (configured : s.suc.phase ≠ .listenOnly) :
    s.pinDrive p = .undriven := by
  unfold State.pinDrive
  dsimp only
  split
  · rfl
  · rfl
  · rw [input]
    rfl
  · exact ownerDrive_input input s
  · exact ownerDrive_input input s
  · exact absurd ‹_› configured

theorem argChannel_val (c : ChannelId) : argChannel c.val = c := Fin.ext (Nat.mod_eq_of_lt c.isLt)

theorem argKey_val (k : KeyId) : argKey k.val = k := Fin.ext (Nat.mod_eq_of_lt k.isLt)

theorem argMover_val (m : MoverId) : argMover m.val = m := by revert m; decide

theorem shown_inactive (x : PinCfg) : shown x false = .level x.inverted := by simp [shown]

theorem shown_active (x : PinCfg) : shown x true = .level (!x.inverted) := by simp [shown]

theorem ownerDrive_channel {x : PinCfg} (fn : x.fn = .channelOut) (arg : c.val = x.arg) (s : State) :
    s.ownerDrive x = channelPin x s.cfg.channels[c] s.lcu.channels[c] := by
  have own : c = argChannel x.arg := by rw [← arg, argChannel_val]
  subst own
  unfold State.ownerDrive
  rw [fn]

/-! ### The announced channels -/

theorem channelStatuses_get (s : State) (c : ChannelId) : s.channelStatuses[c] = announcedChannel s.lcu.channels[c] := by
  fin_cases c <;> rfl

theorem announcedChannel_eq (ch : Channel) : announcedChannel ch =
    match ch.mark with
    | .tripped => { level := 0, status := .tripped }
    | .lockedOut => { level := 0, status := .lockedOut }
    | .unfitted => { level := 0, status := .lockedOut }
    | .inService =>
      if ch.lreq = 0 then { level := 0, status := .normal }
      else if ch.leff = ch.lreq then { level := ch.leff, status := .normal }
      else { level := ch.leff, status := .shed } := by
  unfold announcedChannel channelState
  cases ch.mark with
  | inService =>
    dsimp only
    by_cases off : ch.lreq = 0
    · simp [off]
    · by_cases full : ch.leff = ch.lreq <;> simp [off, full]
  | tripped | lockedOut | unfitted => rfl

/-- Settles O57: each output is a view of its owner's state. -/
theorem outputsFollowThePhases : Obligations.OutputsFollowThePhases := by
  refine ⟨fun m r s here => moverOutputs_iff here, fun p s => ⟨fun early => ?_, fun calibrate output => ?_, fun listen => ?_,
    fun input configured => pinDrive_input input configured, fun work fn => ?_, fun work fn small m arg => ?_,
    fun work fn c arg switched => ?_, fun work fn c arg dimmed lit part => ?_, fun work fn => ?_,
    fun work fn k arg => ?_⟩, fun k s => ⟨fun action => ?_, fun target c level action => ⟨fun own => ?_,
    fun i other slot => ⟨fun absent => ?_, fun x known => ?_⟩⟩, fun n action => ?_, fun target action => ?_,
    fun target m d action => ⟨fun nothing => ?_, fun phase summary reads => ?_⟩,
    fun target m action => ⟨fun nothing => ?_, fun phase summary reads => ?_⟩⟩,
    fun s => ⟨normal_iff s, drained_iff s⟩, fun c s => (channelStatuses_get s c).trans (announcedChannel_eq _)⟩
  · unfold State.pinDrive
    obtain e | e := early <;> rw [e]
  · rw [State.pinDrive, calibrate]
    dsimp only
    rw [if_pos output, shown_inactive]
  · rw [State.pinDrive, listen]
  · rw [pinDrive_of_working work, State.ownerDrive, fn]
    rfl
  · rw [pinDrive_of_working work, State.ownerDrive, fn]
    dsimp only
    rw [← arg, argMover_val]
    rfl
  · rw [pinDrive_of_working work, ownerDrive_channel fn arg, channelPin, switched]
    rfl
  · rw [pinDrive_of_working work, ownerDrive_channel fn arg, channelPin, dimmed]
    dsimp only
    rw [if_neg (Nat.ne_of_gt lit), if_neg (Nat.not_le.2 part)]
  · rw [pinDrive_of_working work, State.ownerDrive, fn]
    rfl
  · rw [pinDrive_of_working work, State.ownerDrive, fn]
    dsimp only
    rw [← arg, argKey_val]
    refine ⟨fun on => ?_, fun off => ?_, fun blinks => ?_⟩
    · rw [on]
      exact shown_active _
    · rw [off]
      exact shown_inactive _
    · rw [blinks]
      rfl
  · rw [State.indicator, action]
    rfl
  · rw [indicator_level action, presentLevel_own own, lit_decide]
  · rw [indicator_level action, presentLevel_slot other slot, absent]
    rfl
  · rw [indicator_level action, presentLevel_slot other slot, known, lit_decide]
  · rw [State.indicator, action]
  · rw [State.indicator, action]
  · rw [indicator_hold action, moverSeen_none nothing]
    rfl
  · rw [indicator_hold action, moverSeen_some reads]
    exact holdIndicator_eq d phase summary
  · rw [indicator_clear action, moverSeen_none nothing]
    rfl
  · rw [indicator_clear action, moverSeen_some reads]
    exact lit_decide _

end Sys2Proof.Safety
end

section
/-! PROOFS. The fault summary, the alert outputs and the fields of the own ANNOUNCE (R17, R23, R67, R82, R113, R128,
R165 to R168, R173 to R176). -/

namespace Sys2Proof.Safety

open Sys2Proof Sys2Proof.Machine

variable {s t : State} {k j : FaultKind} {m : MoverId} {r : Mover} {v : Severity}

/-! ### The fault summary -/

/-- Some kind of a severity is reported-active. -/
def Shows (s : State) (v : Severity) : Prop := ∃ k : FaultKind, s.reportedActive k = true ∧ kindSeverity k = v

theorem shows_iff (s : State) (v : Severity) :
    (FaultKind.all.any fun k => s.reportedActive k && kindSeverity k = v) = true ↔ Shows s v := by
  simp only [List.any_eq_true, Bool.and_eq_true, decide_eq_true_eq]
  exact ⟨fun ⟨k, _, h⟩ => ⟨k, h⟩, fun ⟨k, h⟩ => ⟨k, FaultKind.mem_all k, h⟩⟩

/-- The worst severity is the highest that some reported-active kind has (R166). -/
theorem worstSeverity_cases (s : State) :
    (worstSeverity s = .halt ∧ Shows s .halt) ∨
    (worstSeverity s = .degraded ∧ Shows s .degraded ∧ ¬ Shows s .halt) ∨
    (worstSeverity s = .notice ∧ Shows s .notice ∧ ¬ Shows s .degraded ∧ ¬ Shows s .halt) ∨
    (worstSeverity s = .clear ∧ ¬ Shows s .notice ∧ ¬ Shows s .degraded ∧ ¬ Shows s .halt) := by
  unfold worstSeverity
  by_cases halt : Shows s .halt
  · exact .inl ⟨if_pos ((shows_iff s _).2 halt), halt⟩
  · rw [if_neg (mt (shows_iff s _).1 halt)]
    by_cases degraded : Shows s .degraded
    · exact .inr (.inl ⟨if_pos ((shows_iff s _).2 degraded), degraded, halt⟩)
    · rw [if_neg (mt (shows_iff s _).1 degraded)]
      by_cases notice : Shows s .notice
      · exact .inr (.inr (.inl ⟨if_pos ((shows_iff s _).2 notice), notice, degraded, halt⟩))
      · exact .inr (.inr (.inr ⟨if_neg (mt (shows_iff s _).1 notice), notice, degraded, halt⟩))

theorem kindSeverity_ne_clear (k : FaultKind) : kindSeverity k ≠ .clear := by cases k <;> decide

theorem code_le_worst (active : s.reportedActive k = true) : (kindSeverity k).code ≤ (worstSeverity s).code := by
  have shows : Shows s (kindSeverity k) := ⟨k, active, rfl⟩
  have counted := kindSeverity_ne_clear k
  obtain ⟨worst, -⟩ | ⟨worst, -, halt⟩ | ⟨worst, -, degraded, halt⟩ | ⟨worst, notice, degraded, halt⟩ :=
    worstSeverity_cases s
  all_goals
    rw [worst]
    cases severity : kindSeverity k <;> rw [severity] at shows counted <;> simp_all [Severity.code]

theorem alert_iff (s : State) : s.alert = true ↔ ∃ k : FaultKind, s.reportedActive k = true := by
  unfold State.alert
  rw [List.any_eq_true]
  exact ⟨fun ⟨k, _, h⟩ => ⟨k, h⟩, fun ⟨k, h⟩ => ⟨k, FaultKind.mem_all k, h⟩⟩

theorem worst_shown (alert : s.alert = true) : Shows s (worstSeverity s) := by
  obtain ⟨k, active⟩ := (alert_iff s).1 alert
  have shows : Shows s (kindSeverity k) := ⟨k, active, rfl⟩
  obtain ⟨worst, here⟩ | ⟨worst, here, -⟩ | ⟨worst, here, -⟩ | ⟨worst, notice, degraded, halt⟩ := worstSeverity_cases s
  · rwa [worst]
  · rwa [worst]
  · rwa [worst]
  · have counted := kindSeverity_ne_clear k
    cases severity : kindSeverity k <;> rw [severity] at shows counted <;> contradiction

theorem all_codes_rise : FaultKind.all.Pairwise fun j k => j.code < k.code := by decide

/-- The leading kind is reported-active, of the worst severity, and has the lowest code of those (R166). -/
theorem leadingKind_lowest (leads : leadingKind s = some k) : s.reportedActive k = true ∧
    kindSeverity k = worstSeverity s ∧
    ∀ j : FaultKind, s.reportedActive j = true → kindSeverity j = worstSeverity s → k.code ≤ j.code := by
  unfold leadingKind at leads
  rw [List.find?_eq_some_iff_append] at leads
  obtain ⟨shows, before, after, split, lower⟩ := leads
  rw [Bool.and_eq_true, decide_eq_true_eq] at shows
  obtain ⟨active, worst⟩ := shows
  refine ⟨active, worst, fun j other same => ?_⟩
  have rises := all_codes_rise
  rw [split, List.pairwise_append] at rises
  obtain ⟨-, rises, -⟩ := rises
  have listed : j ∈ before ++ k :: after := split ▸ FaultKind.mem_all j
  obtain earlier | rfl | later := by simpa using listed
  · have := lower j earlier
    rw [other, same] at this
    simp at this
  · exact le_rfl
  · exact ((List.pairwise_cons.1 rises).1 j later).le

theorem leadingKind_of_shown (shows : Shows s (worstSeverity s)) : ∃ k, leadingKind s = some k := by
  obtain ⟨k, active, worst⟩ := shows
  refine Option.isSome_iff_exists.1 (List.find?_isSome.2 ⟨k, FaultKind.mem_all k, ?_⟩)
  rw [active, worst]
  simp

theorem reportedActive_iff (s : State) (k : FaultKind) : s.reportedActive k = true ↔ s.active k = true ∧
    (kindSeverity k = .halt ∨ (kindSeverity k = .degraded ∧ s.cfg.reportDegraded = true) ∨
      (kindSeverity k = .notice ∧ s.cfg.reportNotice = true)) := by
  have counted := kindSeverity_ne_clear k
  unfold State.reportedActive
  cases severity : kindSeverity k <;> simp_all [reportEnabled]

theorem quiet_summary (quiet : s.alert = false) : worstSeverity s = .clear ∧ leadingKind s = none := by
  have none_active : ∀ k, s.reportedActive k ≠ true := fun k active => by
    rw [(alert_iff s).2 ⟨k, active⟩] at quiet
    cases quiet
  refine ⟨?_, List.find?_eq_none.2 fun k _ shows => ?_⟩
  · obtain ⟨-, k, active, -⟩ | ⟨-, ⟨k, active, -⟩, -⟩ | ⟨-, ⟨k, active, -⟩, -⟩ | ⟨worst, -⟩ := worstSeverity_cases s
    · exact absurd active (none_active k)
    · exact absurd active (none_active k)
    · exact absurd active (none_active k)
    · exact worst
  · rw [Bool.and_eq_true] at shows
    exact none_active k shows.1

theorem peerAlert_iff (s : State) : s.peerAlert = true ↔ s.suc.phase ≠ .listenOnly ∧
    ∃ (i : SlotId) (r : PeerRec), s.ptu.peers[i] = some r ∧ (r.status = .live ∨ r.status = .stale) ∧
      (r.ann.severity = .degraded ∨ r.ann.severity = .halt) := by
  unfold State.peerAlert alertsPeer
  simp only [Bool.and_eq_true, List.any_eq_true, State.mem_records, Bool.or_eq_true, decide_eq_true_eq]
  exact and_congr_right fun _ => ⟨fun ⟨r, ⟨i, here⟩, shows⟩ => ⟨i, r, here, shows⟩,
    fun ⟨i, r, here, shows⟩ => ⟨r, ⟨i, here⟩, shows⟩⟩

/-! ### The own ANNOUNCE -/

theorem ownDemands_get (l : List Demand) (k : Fin 8) : (ownDemands l)[k] = ownDemand l k := by
  fin_cases k <;> rfl

theorem zone_bit (x z : Fin 16) : (1#16 <<< x.val).getLsbD z.val = true ↔ z = x := by
  revert x z
  decide

/-- The zones an OR over a list marks, bit by bit. -/
theorem marked_get (occupied : Fin 16 → Bool) (l : List (Fin 16)) (start : ZoneSet) (z : Fin 16) :
    (l.foldl (fun acc x => if occupied x then acc ||| (1#16 <<< x.val) else acc) start).getLsbD z.val = true ↔
      start.getLsbD z.val = true ∨ (z ∈ l ∧ occupied z = true) := by
  induction l generalizing start with
  | nil => simp
  | cons x l ih =>
    rw [List.foldl_cons, ih]
    by_cases marks : occupied x = true
    · rw [if_pos marks, BitVec.getLsbD_or, Bool.or_eq_true, zone_bit, List.mem_cons, or_assoc]
      refine or_congr_right ⟨fun h => ?_, fun ⟨named, marked⟩ => named.imp id fun named => ⟨named, marked⟩⟩
      obtain rfl | ⟨named, marked⟩ := h
      · exact ⟨.inl rfl, marks⟩
      · exact ⟨.inr named, marked⟩
    · rw [if_neg marks, List.mem_cons]
      refine or_congr_right ⟨fun ⟨named, marked⟩ => ⟨.inr named, marked⟩, fun ⟨named, marked⟩ => ⟨?_, marked⟩⟩
      exact named.resolve_left fun same => marks (same ▸ marked)

theorem mem_allZones (z : Fin 16) : z ∈ allZones := by revert z; decide

theorem ownOccupied_iff (s : State) (z : Fin 16) : s.ownOccupied.getLsbD z.val = true ↔
    s.working = true ∧ ∃ pin : PinId, s.cfg.occupancy[z] = some pin ∧ (s.fpr.pins[pin]).delivered = true := by
  have input : s.input s.cfg.occupancy[z] = true ↔
      ∃ pin : PinId, s.cfg.occupancy[z] = some pin ∧ (s.fpr.pins[pin]).delivered = true := by
    unfold State.input
    cases s.cfg.occupancy[z] <;> simp
  unfold State.ownOccupied
  split
  next work =>
    rw [marked_get (fun z => s.input s.cfg.occupancy[z])]
    simp only [ZoneSet.empty, mem_allZones, work, BitVec.getLsbD_zero, true_and, false_or, Bool.false_eq_true]
    exact input
  next rest => simp [ZoneSet.empty, rest]

/-! ### The lists of movers and claims -/

theorem allMovers_rise : allMovers.Pairwise fun x y : MoverId => x < y := by decide

theorem moverStatus_some {x : MoverStatus} : s.moverStatus m = some x ↔ ∃ r, s.mover m = some r ∧ x =
    { index := m
      kind := (s.moverCfg m).kind
      phase := r.phase
      summary := s.summary m
      detail := if (s.moverCfg m).kind = .windlass then rodeLength (s.moverCfg m) r.count else 0
      refusal := r.lastRefusal.code } := by
  cases here : s.mover m with
  | none => simp [State.moverStatus, here]
  | some r =>
    rw [moverStatus_of here]
    exact ⟨fun e => ⟨r, rfl, (Option.some.inj e).symm⟩, fun ⟨r', same, e⟩ => by rw [e, Option.some.inj same]⟩

/-- The announced form of mover m's claim, where it is announced (R82). -/
def claimStatus (s : State) (m : MoverId) : Option ClaimStatus :=
  match s.claim m with
  | .listening _ => some { zones := s.zonesOf m, held := false, key := s.claimKey m }
  | .held => some { zones := s.zonesOf m, held := true, key := s.claimKey m }
  | .waiting => none
  | .unclaimed => none

theorem announcedClaims_eq (s : State) : s.announcedClaims = allMovers.filterMap (claimStatus s) := rfl

theorem claimStatus_some {c : ClaimStatus} : claimStatus s m = some c ↔
    c = { zones := s.zonesOf m, held := decide (s.claim m = .held), key := s.number * 2 + m.val } ∧ Announced s m := by
  unfold claimStatus Announced State.claimKey
  cases claim : s.claim m <;> simp [eq_comm]

/-- Settles O58: each field of the ANNOUNCE is read off its block, and the alerts follow the reported-active kinds. -/
theorem summaryShowsTheWorstFault : Obligations.SummaryShowsTheWorstFault := by
  refine ⟨fun s => ⟨rfl, rfl, ?_, ?_, ?_, ?_, ?_, rfl, fun k => ?_, ownOccupied_iff s, fun c => ?_, ?_, rfl, fun k leads => ?_,
    fun nothing => ?_, fun k n first => ?_, fun none => ?_, fun x => ?_, ?_⟩,
    fun s => ⟨?_, fun k active => code_le_worst active, fun quiet => quiet_summary quiet, fun alert => ?_, peerAlert_iff s⟩⟩
  · simp [State.announceNow, State.running]
  · simp [State.announceNow, normal_iff]
  · exact decide_eq_true_iff.trans (drained_iff s)
  · simp [State.announceNow, State.inIsland, Option.isSome_iff_ne_none]
  · exact decide_eq_true_iff
  · exact (ownDemands_get _ k).trans (ownDemand_eq k _)
  · show c ∈ s.announcedClaims ↔ _
    rw [announcedClaims_eq, List.mem_filterMap]
    exact ⟨fun ⟨m, _, made⟩ => ⟨m, claimStatus_some.1 made⟩, fun ⟨m, made⟩ => ⟨m, mem_allMovers m, claimStatus_some.2 made⟩⟩
  · show s.announcedClaims.Pairwise _
    rw [announcedClaims_eq, List.pairwise_filterMap]
    refine allMovers_rise.imp fun {x y} less c made d made' => ?_
    rw [(claimStatus_some.1 made).1, (claimStatus_some.1 made').1]
    exact Nat.add_lt_add_left less _
  · show (match leadingKind s with | some k => k.code | none => 0) = _
    rw [leads]
  · show (match leadingKind s with | some k => k.code | none => 0) = _
    rw [nothing]
  · simp [State.announceNow, first]
  · simp [State.announceNow, none]
  · show x ∈ allMovers.filterMap s.moverStatus ↔ _
    rw [List.mem_filterMap]
    constructor
    · rintro ⟨m, -, made⟩
      obtain ⟨r, here, rfl⟩ := moverStatus_some.1 made
      exact ⟨r, here, rfl, rfl, rfl, rfl, rfl⟩
    · rintro ⟨r, here, kind, phase, summary, refusal, detail⟩
      obtain ⟨index, _, _, _, _, _⟩ := x
      dsimp only at here kind phase summary refusal detail
      refine ⟨index, mem_allMovers _, moverStatus_some.2 ⟨r, here, ?_⟩⟩
      rw [kind, phase, summary, refusal, detail, rodeLength]
  · show (allMovers.filterMap s.moverStatus).Pairwise _
    rw [List.pairwise_filterMap]
    refine allMovers_rise.imp fun {x y} less c made d made' => ?_
    obtain ⟨_, _, rfl⟩ := moverStatus_some.1 made
    obtain ⟨_, _, rfl⟩ := moverStatus_some.1 made'
    exact less
  · rw [alert_iff]
    exact exists_congr (reportedActive_iff s)
  · obtain ⟨k, leads⟩ := leadingKind_of_shown (worst_shown alert)
    exact ⟨k, leads, leadingKind_lowest leads⟩

end Sys2Proof.Safety
end

section
/-! PROOFS. STRAP_SAMPLE and LOAD_END: the own number, the image's configuration, and LISTEN_ONLY (R1, R39, R131, R134,
R151, R167, R171, R172, R174). -/

namespace Sys2Proof.Safety

open Sys2Proof Sys2Proof.Machine

variable {s t : State} {kind : FaultKind}

/-! ### LISTEN_ONLY -/

/-- The fault collector at entry into LISTEN_ONLY after its first tick: the HALT kind alone, the first fault at tick count
0 (R167). -/
def firstHalt (kind : FaultKind) : Fcl :=
  { flags := (Vector.replicate 26 {}).set kind.idx { active := true, hold := none }
    firstFault := some (kind, 0)
    tickCount := 1 }

/-- LISTEN_ONLY as it is entered, but for the first tick's ANNOUNCE (R174). -/
def listening (s : State) (kind : FaultKind) : State :=
  { s with
    suc := { s.suc with phase := .listenOnly, since := s.now, nextTick := some (s.now + 100) }
    cfg := Cfg.unconfigured
    mvu := {}
    liu := { s.liu with
      ports := Vector.replicate 2 { state := .dark, eq := 0, carrier := some s.now, lastTransition := s.now } }
    fcl := firstHalt kind }

theorem enterListenOnly_eq (fresh : s.fcl = {}) (halt : kindSeverity kind = .halt) :
    s.enterListenOnly kind = (listening s kind).compose := by
  unfold State.enterListenOnly
  generalize entered : State.startPorts
      { s with
        cfg := Cfg.unconfigured
        suc := { s.suc with phase := .listenOnly, since := s.now, nextTick := some s.now }
        mvu := {} } = u
  have clear : u.fcl = {} := by subst u; exact fresh
  have cfg : u.cfg = Cfg.unconfigured := by subst u; rfl
  have quiet : u.active kind = false := by simp [State.active, clear]
  have raised : u.raiseHalt kind = { u with fcl := { firstHalt kind with tickCount := 0 } } := by
    have movers : ∀ m, (u.raiseCond kind).mover m = none := fun m => by
      subst u
      simp [State.startPorts, State.mover]
    rw [State.raiseHalt, if_neg (by rw [quiet]; nofun), haltMovers_of_none movers, State.raiseCond,
      if_neg (by rw [quiet]; nofun), State.activate, quiet, firstFaultAfter, clear, cfg, halt]
    rfl
  rw [raised, ownTick_of_idle (by subst u; rfl)]
  subst u
  rfl

theorem firstHalt_active (fcl : s.fcl = firstHalt kind) (k : FaultKind) : s.active k = decide (k = kind) := by
  unfold State.active
  rw [fcl]
  show (((Vector.replicate 26 ({} : Flag)).set kind.idx { active := true, hold := none })[k.idx]).active = _
  by_cases same : k = kind
  · subst same
    simp
  · have apart : k.idx ≠ kind.idx := fun e => same (FaultKind.idx_inj e)
    rw [Fin.getElem_fin, set_get, if_neg apart, decide_eq_false same]
    simp

/-- Settles O6: the straps name the station, or LISTEN_ONLY is entered with an image unread, so that nothing is sent. -/
theorem strapSampleGivesTheNumber : Obligations.StrapSampleGivesTheNumber := by
  intro v s strap waited unread fresh
  have straps : exec (.strapSample v) s = .next (s.takeStraps v.toNat) := by
    refine congrArg Host.Outcome.next (if_pos ?_)
    unfold State.strapDue
    rw [strap, decide_eq_true (show s.suc.since + Config.strapDelay ≤ s.now from waited)]
    rfl
  refine ⟨fun inRange => ?_, fun outside => ⟨listening s .badNumber, ?_, rfl, firstHalt_active rfl, rfl, rfl⟩⟩
  · rw [straps, State.takeStraps, if_pos (by simpa [stationNumber] using inRange)]
  · have silent : (listening s .badNumber).mayTransmit = false := by
      unfold State.mayTransmit listening State.running
      simp [unread]
    rw [straps, State.takeStraps, if_neg (by simpa [stationNumber] using outside), enterListenOnly_eq fresh rfl,
      State.compose, if_neg (by rw [silent]; nofun)]

/-! ### The image accepted -/

/-- A pin as its first sample leaves it (R134). -/
def sampledPin (cfg : Cfg) (levels : BitVec 32) (p : PinId) : Pin :=
  { level := levels.getLsbD p.val
    delivered := PinFn.isInput (cfg.pins[p]).fn && (levels.getLsbD p.val != (cfg.pins[p]).inverted)
    candidate := none }

theorem firstSamples_pin (cfg : Cfg) (levels : BitVec 32) (p : PinId) (l : List PinId) (s : State) :
    (l.foldl (firstSample cfg levels) s).fpr.pins[p] = if p ∈ l then sampledPin cfg levels p else s.fpr.pins[p] := by
  induction l generalizing s with
  | nil => simp
  | cons q l ih =>
    rw [List.foldl_cons, ih, firstSample, onPin_record]
    by_cases same : p = q
    · subst q
      rw [if_pos List.mem_cons_self, if_pos rfl]
      exact ite_self _
    · simp only [List.mem_cons, same, false_or, if_false]

theorem firstSamples_leave (cfg : Cfg) (levels : BitVec 32) (l : List PinId) (s : State) :
    l.foldl (firstSample cfg levels) s =
      { s with fpr := { s.fpr with pins := (l.foldl (firstSample cfg levels) s).fpr.pins } } := by
  induction l generalizing s with
  | nil => rfl
  | cons q l ih =>
    rw [List.foldl_cons, ih]
    rfl

theorem mem_allPins (p : PinId) : p ∈ allPins := by revert p; decide

/-- The counts retained at the end of LOAD, slot by slot (R131). -/
theorem keepRetained_cases (cfg : Cfg) (retained : Vector (Option (Nat × Bool)) 2) (m : MoverId) :
    ((∃ c, cfg.movers[m] = some c ∧ c.kind = .windlass) → keepRetained cfg retained m = retained[m]) ∧
      ((∀ c, cfg.movers[m] = some c → c.kind ≠ .windlass) → keepRetained cfg retained m = none) := by
  unfold keepRetained
  cases slot : cfg.movers[m] with
  | none => exact ⟨nofun, fun _ => rfl⟩
  | some c =>
    refine ⟨fun ⟨c', same, windlass⟩ => ?_, fun other => if_neg (other c rfl)⟩
    cases same
    exact if_pos windlass

/-! ### The image refused -/

/-- Where one kind of severity HALT alone is active, it leads the summary. -/
theorem summary_of_only (fcl : s.fcl = firstHalt kind) (halt : kindSeverity kind = .halt) :
    worstSeverity s = .halt ∧ leadingKind s = some kind := by
  have active := firstHalt_active fcl
  have reported : s.reportedActive kind = true := by
    unfold State.reportedActive
    rw [active, halt]
    simp [reportEnabled]
  have shown : Shows s (worstSeverity s) := worst_shown ((alert_iff s).2 ⟨kind, reported⟩)
  obtain ⟨k, leads⟩ := leadingKind_of_shown shown
  obtain ⟨leader, severity, -⟩ := leadingKind_lowest leads
  have same : k = kind := by
    have here := ((reportedActive_iff s k).1 leader).1
    rwa [active, decide_eq_true_eq] at here
  subst same
  exact ⟨severity.symm.trans halt, leads⟩

/-- Settles O7: an image that passes configures the blocks; one that is refused ends in LISTEN_ONLY, whose first tick
composes. -/
theorem loadEndJudgesTheImage : Obligations.LoadEndJudgesTheImage := by
  refine ⟨fun image levels cfg s load passes => ?_, fun image levels s load fresh refused => ?_⟩
  · have run : exec (.loadEnd image levels) s = .next (s.acceptImage cfg levels) := by
      show Host.Outcome.next (if s.suc.phase = .load then _ else s) = _
      rw [if_pos load, passes]
    refine ⟨_, run, ?_, fun p => ?_, fun m => ?_⟩
    · exact firstSamples_leave cfg levels allPins _
    · have pin : (s.acceptImage cfg levels).fpr.pins[p] = sampledPin cfg levels p :=
        (firstSamples_pin cfg levels p allPins _).trans (if_pos (mem_allPins p))
      rw [pin]
      refine ⟨rfl, rfl, fun input => ?_, fun output => ?_⟩
      · rw [sampledPin, input, Bool.true_and]
      · rw [sampledPin, output, Bool.false_and]
    · have kept : (s.acceptImage cfg levels).mvu.retained[m] = keepRetained cfg s.mvu.retained m := by
        unfold State.acceptImage
        rw [foldl_keeps State.mvu (firstSample cfg levels) fun _ _ => rfl]
        obtain rfl | rfl := mover_cases m <;> rfl
      rw [kept]
      exact keepRetained_cases cfg s.mvu.retained m
  · have run : exec (.loadEnd image levels) s =
        .next (listening { s with suc := { s.suc with image := .invalid } } .configInvalid).compose := by
      show Host.Outcome.next (if s.suc.phase = .load then _ else s) = _
      rw [if_pos load, refused]
      exact congrArg Host.Outcome.next (enterListenOnly_eq fresh rfl)
    generalize entered : listening { s with suc := { s.suc with image := .invalid } } .configInvalid = u at run
    have fcl : u.fcl = firstHalt .configInvalid := by subst u; rfl
    have sent : u.compose.fcl = firstHalt .configInvalid := (State.compose_fcl u).trans fcl
    have single : u.active .twin = false := firstHalt_active fcl .twin
    have permitted : u.mayTransmit = true := by
      unfold State.mayTransmit
      rw [single]
      subst u
      rfl
    obtain ⟨severity, leads⟩ := summary_of_only sent rfl
    refine ⟨_, run, ?_, ?_, ?_, firstHalt_active sent, congrArg Fcl.tickCount sent, congrArg Fcl.firstFault sent,
      announcesNow_compose permitted, ?_, severity, ?_, ?_, fun empty => ?_⟩
    · rw [State.compose, if_pos permitted]
      subst u
      rfl
    · rw [compose_ports]
      subst u
      rfl
    · rw [compose_sbu]
      subst u
      rfl
    · exact decide_eq_true (by rw [State.compose_suc]; subst u; rfl)
    · show (match leadingKind u.compose with | some k => k.code | none => 0) = _
      rw [leads]
    · have unmoved : ∀ m, u.compose.moverStatus m = none := fun m => by
        have absent : u.compose.mover m = none := by
          unfold State.mover
          rw [State.compose_mvu]
          subst u
          simp [listening]
        rw [State.moverStatus, absent]
      show allMovers.filterMap u.compose.moverStatus = []
      exact List.filterMap_eq_nil_iff.2 fun m _ => unmoved m
    · have sbu : u.sbu = {} := by subst u; exact empty
      have cfg : u.compose.cfg = Cfg.unconfigured := by rw [State.compose_cfg]; subst u; rfl
      refine ⟨?_, ?_, fun k => ?_⟩
      · show u.compose.sbu.profile = false
        rw [compose_sbu, sbu]
      · show u.compose.cfg.islandCap = 0
        rw [cfg]
        rfl
      · show (ownDemands u.compose.sbu.demands)[k] = 0
        rw [compose_sbu, sbu, ownDemands_get, ownDemand_eq]
        rfl

end Sys2Proof.Safety
end

section
/-! PROOFS. CALIBRATE_END: the offsets, the marks, the mover records, the held keys and the first tick; QUIET_END: entry
into RUN (R2, R42, R88, R121, R122, R131, R139, R146, R154, R173, R175). -/

namespace Sys2Proof.Safety

open Sys2Proof Sys2Proof.Machine

variable {s t u : State} {c : ChannelId} {m : MoverId} {k : KeyId} {cs : SenseId} {r : Mover}

/-! ### A list taken through, each of its members once -/

/-- An operation that moves one place of a view at a time, and reads of the rest only what all of them keep: each place
ends as the operation makes it from the start. -/
theorem foldl_once {ι β : Type} [DecidableEq ι] {view : State → ι → β} {g : ι → β → β} {Stands : State → Prop}
    {f : State → ι → State} (own : ∀ u i, Stands u → view (f u i) i = g i (view u i))
    (other : ∀ u i j, j ≠ i → view (f u i) j = view u j) (keeps : ∀ u i, Stands u → Stands (f u i)) (i : ι) :
    ∀ (l : List ι), l.Nodup → ∀ u, Stands u → view (l.foldl f u) i = if i ∈ l then g i (view u i) else view u i
  | [], _, u, _ => by simp
  | j :: l, once, u, start => by
    obtain ⟨fresh, once⟩ := List.nodup_cons.1 once
    rw [List.foldl_cons, foldl_once own other keeps i l once (f u j) (keeps u j start)]
    by_cases same : i = j
    · subst j
      rw [if_neg fresh, if_pos List.mem_cons_self, own u i start]
    · rw [other u j i same]
      simp only [List.mem_cons, same, false_or]

theorem allSenses_once : allSenses.Nodup := by decide

theorem mem_allSenses (cs : SenseId) : cs ∈ allSenses := by revert cs; decide

theorem allMovers_once : allMovers.Nodup := by decide

/-! ### Offsets (R146) -/

/-- An input as the end of CALIBRATE leaves it. -/
def calibrated (cfg : Cfg) (cs : SenseId) (x : Sense) : Sense :=
  if senseInUse cfg cs then
    { x with
      offset := some (x.sum / 64)
      faulty := !(decide (-50 ≤ x.sum / 64) && decide (x.sum / 64 ≤ 50)) }
  else { x with offset := none, faulty := false }

theorem onSense_record (s : State) (cs i : SenseId) (f : Sense → Sense) :
    (s.onSense cs f).csa.inputs[i] = if i = cs then f s.csa.inputs[i] else s.csa.inputs[i] := by
  rw [State.onSense_inputs, Fin.getElem_fin, modifyAt_get]
  split
  next same => subst same; rfl
  next => rfl

theorem takeOffsets_input (s : State) (cs : SenseId) :
    (allSenses.foldl (takeOffset s.cfg) s).csa.inputs[cs] = calibrated s.cfg cs s.csa.inputs[cs] := by
  have taken := foldl_once (view := fun u i => u.csa.inputs[i]) (g := calibrated s.cfg) (Stands := fun _ => True)
    (f := takeOffset s.cfg) (fun u i _ => (onSense_record u i i _).trans (if_pos rfl))
    (fun u i j other => (onSense_record u i j _).trans (if_neg other)) (fun _ _ _ => trivial) cs allSenses allSenses_once s
    trivial
  rwa [if_pos (mem_allSenses cs)] at taken

theorem takeOffsets_leave (cfg : Cfg) (l : List SenseId) (s : State) : l.foldl (takeOffset cfg) s =
    { s with csa := (l.foldl (takeOffset cfg) s).csa } := by
  induction l generalizing s with
  | nil => rfl
  | cons cs l ih =>
    rw [List.foldl_cons, ih]
    rfl

/-! ### Marks (R42) -/

theorem fitChannel_eq (s : State) (c : ChannelId) : fitChannel s c =
    if pinCarries s.cfg .channelOut c.val = true ∧ (s.csa.inputs[senseOfChannel c]).faulty = false then s
    else s.onChannel c fun ch => { ch with mark := .unfitted } := by
  unfold fitChannel State.senseFaulty
  simp only [Bool.and_eq_true, Bool.not_eq_true']

theorem fitChannel_leaves (s : State) (c : ChannelId) : fitChannel s c = { s with lcu := (fitChannel s c).lcu } := by
  unfold fitChannel
  split <;> rfl

theorem fitChannels_leave (s : State) : allChannels.foldl fitChannel s =
    { s with lcu := (allChannels.foldl fitChannel s).lcu } := by
  generalize allChannels = l
  induction l generalizing s with
  | nil => rfl
  | cons c l ih => rw [List.foldl_cons, ih, fitChannel_leaves]

/-- The marks of the channels, from the offsets taken. -/
theorem fitChannels_mark (s : State) (c : ChannelId) : ((allChannels.foldl fitChannel s).lcu.channels[c]).mark =
    if pinCarries s.cfg .channelOut c.val = true ∧ (s.csa.inputs[senseOfChannel c]).faulty = false
    then (s.lcu.channels[c]).mark else .unfitted := by
  have fitted := foldl_once (ι := ChannelId) (β := ChannelMark) (view := fun u i => (u.lcu.channels[i]).mark)
    (g := fun c mark => if pinCarries s.cfg .channelOut c.val = true ∧ (s.csa.inputs[senseOfChannel c]).faulty = false
      then mark else .unfitted)
    (Stands := fun u => u.cfg = s.cfg ∧ u.csa = s.csa) (f := fitChannel)
    (fun u i ⟨cfg, csa⟩ => by
      rw [fitChannel_eq, cfg, csa]
      split
      · rfl
      · rw [onChannel_same])
    (fun u i j other => by
      rw [fitChannel_eq]
      split
      · rfl
      · rw [onChannel_other u _ other])
    (fun u i stands => by rwa [fitChannel_leaves]) c allChannels allChannels_once s ⟨rfl, rfl⟩
  rwa [if_pos (mem_allChannels c)] at fitted

/-! ### Mover records (R88, R121, R131) -/

/-- A mover record as it comes into force. -/
def fittedMover (cfg : Cfg) (faulty atHome : Bool) (retained : Option (Nat × Bool)) (m : MoverId) (c : MoverCfg) : Mover :=
  { phase := if moverBound cfg c m = true ∧ faulty = false then .idle else .unfitted
    count := if c.kind = .windlass ∧ atHome = true then 0 else (retained.map fun x => x.1).getD 0
    known := if c.kind = .windlass ∧ atHome = true then true else (retained.map fun x => x.2).getD false }

theorem fitMover_own (s : State) (m : MoverId) : (fitMover s m).mover m =
    match s.cfg.movers[m] with
    | none => s.mover m
    | some c => some (fittedMover s.cfg (s.csa.inputs[senseOfMover m]).faulty (s.input c.home) s.mvu.retained[m] m c) := by
  unfold fitMover
  cases s.cfg.movers[m] with
  | none => rfl
  | some c =>
    dsimp only
    have record : ({ s with mvu := { s.mvu with movers := s.mvu.movers.set m (some (s.newMover m c)) } } : State).mover m =
        some (s.newMover m c) := by
      unfold State.mover
      simp
    have phase : (moverBound s.cfg c m && !s.senseFaulty (senseOfMover m)) = true ↔
        moverBound s.cfg c m = true ∧ (s.csa.inputs[senseOfMover m]).faulty = false := by
      unfold State.senseFaulty
      simp
    have new : s.newMover m c = { fittedMover s.cfg (s.csa.inputs[senseOfMover m]).faulty (s.input c.home)
        s.mvu.retained[m] m c with
          count := ((s.mvu.retained[m]).map fun x => x.1).getD 0
          known := ((s.mvu.retained[m]).map fun x => x.2).getD false } := by
      unfold State.newMover fittedMover
      simp only [phase]
      cases s.mvu.retained[m] <;> rfl
    split
    next home =>
      rw [State.atHome, State.onMover_mover, record, if_pos rfl, Option.map_some, new]
      unfold fittedMover
      rw [if_pos home, if_pos home]
    next home =>
      rw [record, new]
      unfold fittedMover
      rw [if_neg home, if_neg home]

theorem fitMover_leaves (s : State) (m : MoverId) : fitMover s m = { s with mvu := (fitMover s m).mvu } ∧
    (fitMover s m).mvu.retained = s.mvu.retained := by
  unfold fitMover
  dsimp only
  split
  · exact ⟨rfl, rfl⟩
  · split <;> exact ⟨rfl, rfl⟩

theorem fitMovers_leave (s : State) : allMovers.foldl fitMover s =
    { s with mvu := (allMovers.foldl fitMover s).mvu } := by
  generalize allMovers = l
  induction l generalizing s with
  | nil => rfl
  | cons m l ih => rw [List.foldl_cons, ih, (fitMover_leaves s m).1]

theorem fitMovers_mover (s : State) (m : MoverId) : (allMovers.foldl fitMover s).mover m =
    match s.cfg.movers[m] with
    | none => s.mover m
    | some c => some (fittedMover s.cfg (s.csa.inputs[senseOfMover m]).faulty (s.input c.home) s.mvu.retained[m] m c) := by
  have fitted := foldl_once (view := State.mover)
    (g := fun m before => match s.cfg.movers[m] with
      | none => before
      | some c => some (fittedMover s.cfg (s.csa.inputs[senseOfMover m]).faulty (s.input c.home) s.mvu.retained[m] m c))
    (Stands := fun u => u.cfg = s.cfg ∧ u.csa = s.csa ∧ u.fpr = s.fpr ∧ u.mvu.retained = s.mvu.retained) (f := fitMover)
    (fun u i ⟨cfg, csa, fpr, retained⟩ => by
      have input : ∀ b, u.input b = s.input b := fun b => by
        unfold State.input
        rw [fpr]
      rw [fitMover_own, cfg, csa, retained]
      simp only [input])
    (fun u i j other => fitMover_mover_other u other)
    (fun u i stands => by
      obtain ⟨leaves, retained⟩ := fitMover_leaves u i
      rwa [retained, leaves]) m allMovers allMovers_once s ⟨rfl, rfl, rfl, rfl⟩
  rwa [if_pos (mem_allMovers m)] at fitted

/-! ### The whole of it -/

/-- What the end of CALIBRATE fits: the offsets, the marks and the movers, on a station without mover records. -/
structure Fitted (s t : State) : Prop where
  leaves : t = { s with csa := t.csa, lcu := t.lcu, mvu := t.mvu }
  inputs : ∀ cs : SenseId, t.csa.inputs[cs] = calibrated s.cfg cs s.csa.inputs[cs]
  marks : ∀ c : ChannelId, (t.lcu.channels[c]).mark =
    if pinCarries s.cfg .channelOut c.val = true ∧ (t.csa.inputs[senseOfChannel c]).faulty = false
    then (s.lcu.channels[c]).mark else .unfitted
  movers : ∀ m : MoverId, t.mover m =
    match s.cfg.movers[m] with
    | none => s.mover m
    | some c => some (fittedMover s.cfg (t.csa.inputs[senseOfMover m]).faulty (s.input c.home) s.mvu.retained[m] m c)
  retained : ∀ m : MoverId, t.mvu.retained[m] = none

theorem fitted_fitAll (s : State) : Fitted s s.fitAll := by
  have senses := takeOffsets_leave s.cfg allSenses s
  have inputs := takeOffsets_input s
  unfold State.fitAll
  generalize allSenses.foldl (takeOffset s.cfg) s = u at senses inputs
  have channels := fitChannels_leave u
  have marks := fitChannels_mark u
  generalize allChannels.foldl fitChannel u = v at channels marks
  have leave := fitMovers_leave v
  have movers := fitMovers_mover v
  generalize allMovers.foldl fitMover v = w at leave movers
  rw [senses] at marks channels
  have record : ∀ m, v.mover m = s.mover m := fun m => by
    rw [channels]
    rfl
  have input : ∀ b, v.input b = s.input b := fun b => by
    rw [channels]
    rfl
  have csa : w.csa = u.csa := by rw [leave, channels]
  have lcu : w.lcu = v.lcu := by rw [leave]
  have retained : v.mvu = s.mvu := by rw [channels]
  have cfg : v.cfg = s.cfg := by rw [channels]
  have sensed : v.csa = u.csa := by rw [channels]
  refine ⟨?_, fun cs => ?_, fun c => ?_, fun m => ?_, fun m => ?_⟩
  · rw [leave, channels]
  · exact (congrArg (fun x : Csa => x.inputs[cs]) csa).trans (inputs cs)
  · dsimp only
    rw [csa, lcu]
    exact marks c
  · refine (movers m).trans ?_
    dsimp only
    rw [csa, cfg, retained, sensed]
    simp only [input, record]
  · simp

/-- The conditions found are reported as they stand, and nothing else moves (R117, R122, R146). -/
theorem reportFitted_leaves (s : State) : s.reportFitted = { s with fcl := s.reportFitted.fcl } := by
  unfold State.reportFitted State.reportCount State.reportReason
  dsimp only [FaultReason.kind]
  rw [reportCond_eq, reportCond_eq, reportCond_eq s]

theorem reportCond_tickCount (s : State) (k : FaultKind) (holds : Bool) :
    (s.reportCond k holds).fcl.tickCount = s.fcl.tickCount := by
  unfold State.reportCond State.raiseCond
  split
  · split <;> rfl
  · split <;> rfl

theorem reportFitted_tickCount (s : State) : s.reportFitted.fcl.tickCount = s.fcl.tickCount := by
  unfold State.reportFitted State.reportCount State.reportReason
  dsimp only [FaultReason.kind]
  rw [reportCond_tickCount, reportCond_tickCount, reportCond_tickCount]

theorem reportFitted_active (s : State) : s.reportFitted.active .senseFault = allSenses.any s.senseFaulty ∧
    s.reportFitted.active .countUnknown = s.anyCountUnknown ∧
    s.reportFitted.active .pumpFault = (s.anyPowerFault || s.anyFaulted .pumpFault) := by
  unfold State.reportFitted State.reportCount State.reportReason
  dsimp only [FaultReason.kind]
  have first := reportCond_eq s .senseFault (allSenses.any s.senseFaulty)
  have sensed := State.reportCond_active_same s .senseFault (allSenses.any s.senseFaulty)
  generalize s.reportCond .senseFault (allSenses.any s.senseFaulty) = u at first sensed
  have second := reportCond_eq u .countUnknown u.anyCountUnknown
  have counted := State.reportCond_active u .countUnknown
  refine ⟨?_, ?_, ?_⟩
  · rw [State.reportCond_active, if_neg (by decide), counted, if_neg (by decide), sensed]
  · rw [State.reportCond_active, if_neg (by decide), counted, if_pos rfl, first]
    rfl
  · rw [State.reportCond_active, if_pos rfl, second, first]
    rfl

/-! ### The held keys (R139) -/

theorem heldAtStart_leaves (s : State) : allKeys.foldl heldAtStart s =
    { s with ktu := (allKeys.foldl heldAtStart s).ktu } := by
  generalize allKeys = l
  induction l generalizing s with
  | nil => rfl
  | cons k l ih =>
    rw [List.foldl_cons, ih]
    rfl

theorem heldAtStart_key (s : State) (k : KeyId) : (allKeys.foldl heldAtStart s).ktu.keys[k] =
    { s.ktu.keys[k] with held := s.input (s.cfg.keys[k]).pin } := by
  have held := foldl_once (ι := KeyId) (β := Key) (view := fun u i => u.ktu.keys[i])
    (g := fun k x => { x with held := s.input (s.cfg.keys[k]).pin }) (Stands := fun u => u.cfg = s.cfg ∧ u.fpr = s.fpr)
    (f := heldAtStart)
    (fun u i ⟨cfg, fpr⟩ => by
      have input : ∀ b, u.input b = s.input b := fun b => by
        unfold State.input
        rw [fpr]
      rw [heldAtStart, onKey_same, cfg, input])
    (fun u i j other => onKey_other u _ other) (fun u i stands => stands) k allKeys allKeys_once s ⟨rfl, rfl⟩
  rwa [if_pos (mem_allKeys k)] at held

/-! ### A tick with every mover at rest -/

theorem tickMover_rests (rest : ∀ r, s.mover m = some r → r.phase = .idle ∨ r.phase = .unfitted) : s.tickMover m = s := by
  unfold State.tickMover
  cases here : s.mover m with
  | none => rfl
  | some r => obtain e | e := rest r here <;> simp only [e]

theorem tickMovers_rest (rest : ∀ m r, s.mover m = some r → r.phase = .idle ∨ r.phase = .unfitted) (l : List MoverId) :
    l.foldl State.tickMover s = s := by
  induction l with
  | nil => rfl
  | cons m l ih => rw [List.foldl_cons, tickMover_rests (rest m), ih]

/-- A tick that finds the SUPPLY input delivering the value sampled takes the profile alone (R17). -/
theorem sampleSupply_delivered {supply : Bool}
    (delivers : ∀ pin, s.cfg.supply = some pin → (s.fpr.pins[pin]).delivered = supply) :
    s.sampleSupply supply = { s with sbu := { s.sbu with profile := s.cfg.supply.isSome && supply } } := by
  unfold State.sampleSupply State.settleSupply
  cases bound : s.cfg.supply with
  | none => rfl
  | some p =>
    dsimp only
    rw [if_pos (delivers p bound)]
    rfl

theorem budgetTick_leaves_all (s : State) : s.budgetTick = { s with sbu := s.budgetTick.sbu, fcl := s.budgetTick.fcl } := by
  unfold State.budgetTick
  dsimp only
  rw [reportCond_eq]

theorem tickChannels_leave_all (s : State) : s.tickChannels = { s with lcu := s.tickChannels.lcu } := by
  have each : ∀ (u : State) c, u.tickChannel c = { u with lcu := (u.tickChannel c).lcu } := fun u c => by
    unfold State.tickChannel State.cutChannel
    dsimp only
    split
    · rw [refreshChannel_eq]
      rfl
    · rw [refreshChannel_eq]
      rfl
  unfold State.tickChannels
  generalize allChannels = l
  induction l generalizing s with
  | nil => rfl
  | cons c l ih => rw [List.foldl_cons, ih, each s c]

/-- A tick in QUIET or RUN that composes nothing and finds every mover at rest moves the budget, the channels and the
flags alone. -/
theorem ownTick_rests {supply : Bool} (work : s.working = true) (silent : s.mayTransmit = false)
    (rest : ∀ m r, s.mover m = some r → r.phase = .idle ∨ r.phase = .unfitted)
    (delivers : ∀ pin, s.cfg.supply = some pin → (s.fpr.pins[pin]).delivered = supply) :
    s.ownTick supply = { s with
      suc := { s.suc with nextTick := some (s.suc.nextTick.getD s.now + s.cfg.period.ms) }
      sbu := (s.ownTick supply).sbu
      lcu := (s.ownTick supply).lcu
      fcl := (s.ownTick supply).fcl } ∧
    (s.ownTick supply).fcl.tickCount = min 65535 (s.fcl.tickCount + 1) ∧
    (∀ k, k ≠ .supplyShort → (s.ownTick supply).active k = s.active k) := by
  have sampled := sampleSupply_delivered delivers
  have blocks : s.tickBlocks supply = { s with
      sbu := (s.tickBlocks supply).sbu, lcu := (s.tickBlocks supply).lcu, fcl := (s.tickBlocks supply).fcl } ∧
      (s.tickBlocks supply).fcl.tickCount = s.fcl.tickCount ∧
      ∀ k, k ≠ .supplyShort → (s.tickBlocks supply).active k = s.active k := by
    unfold State.tickBlocks
    rw [if_pos work]
    have fcl : (s.sampleSupply supply).budgetTick.tickChannels.fcl = (s.sampleSupply supply).budgetTick.fcl :=
      State.tickChannels_fcl _
    have ticked : (s.sampleSupply supply).budgetTick.tickChannels = { s with
        sbu := (s.sampleSupply supply).budgetTick.sbu
        lcu := (s.sampleSupply supply).budgetTick.tickChannels.lcu
        fcl := (s.sampleSupply supply).budgetTick.fcl } := by
      rw [tickChannels_leave_all, budgetTick_leaves_all, sampled]
    have still : allMovers.foldl State.tickMover (s.sampleSupply supply).budgetTick.tickChannels =
        (s.sampleSupply supply).budgetTick.tickChannels := tickMovers_rest (fun m r here => rest m r (by
      rw [ticked] at here
      exact here)) allMovers
    rw [still]
    refine ⟨?_, ?_, fun k other => ?_⟩
    · rw [fcl, State.tickChannels_sbu]
      exact ticked
    · rw [fcl, State.budgetTick]
      exact (reportCond_tickCount _ _ _).trans (by rw [sampled])
    · unfold State.active
      rw [fcl, State.budgetTick]
      exact (State.reportCond_active _ _ k _).trans ((if_neg other).trans (by rw [sampled]; rfl))
  obtain ⟨leaves, count, flags⟩ := blocks
  have muted : ((s.tickBlocks supply).advanceTick.countTick).mayTransmit = false := by
    have twin : ((s.tickBlocks supply).advanceTick.countTick).active .twin = s.active .twin := flags .twin (by decide)
    have suc : (s.tickBlocks supply).suc = s.suc := by rw [leaves]
    unfold State.mayTransmit State.running at silent ⊢
    rw [twin]
    show (!s.active .twin && (decide ((s.tickBlocks supply).suc.phase = .run) ||
      (decide ((s.tickBlocks supply).suc.phase = .listenOnly) &&
        decide ((s.tickBlocks supply).suc.image = .invalid)))) = false
    rw [suc]
    exact silent
  have whole : s.ownTick supply = (s.tickBlocks supply).advanceTick.countTick := by
    rw [State.ownTick, State.compose, if_neg (by rw [muted]; nofun)]
  rw [whole]
  refine ⟨?_, ?_, flags⟩
  · show { s.tickBlocks supply with
      suc := { (s.tickBlocks supply).suc with
        nextTick := some ((s.tickBlocks supply).suc.nextTick.getD (s.tickBlocks supply).now +
          (s.tickBlocks supply).cfg.period.ms) }
      fcl := ((s.tickBlocks supply).advanceTick.countTick).fcl } = _
    generalize ((s.tickBlocks supply).advanceTick.countTick).fcl = fcl
    have sbu : ((s.tickBlocks supply).advanceTick.countTick).sbu = (s.tickBlocks supply).sbu := rfl
    have lcu : ((s.tickBlocks supply).advanceTick.countTick).lcu = (s.tickBlocks supply).lcu := rfl
    rw [sbu, lcu]
    generalize s.tickBlocks supply = u at leaves
    rw [leaves]
  · show min Config.tickCountMax ((s.tickBlocks supply).fcl.tickCount + 1) = _
    rw [count]
    rfl

end Sys2Proof.Safety
end

section
/-! PROOFS. Entry into QUIET and into RUN, each as the whole of its command (R2, R154, R173, R175). -/

namespace Sys2Proof.Safety

open Sys2Proof Sys2Proof.Machine

variable {s t u : State} {m : MoverId} {r : Mover}

theorem anyCountUnknown_of (mvu : t.mvu = s.mvu) (cfg : t.cfg = s.cfg) : t.anyCountUnknown = s.anyCountUnknown := by
  unfold State.anyCountUnknown State.mover State.moverCfg
  rw [mvu, cfg]

theorem senseFaults_of (csa : t.csa = s.csa) :
    (allSenses.any s.senseFaulty) = decide (∃ cs : SenseId, (t.csa.inputs[cs]).faulty = true) := by
  rw [csa, Bool.eq_iff_iff, List.any_eq_true, decide_eq_true_eq]
  exact ⟨fun ⟨cs, _, faulty⟩ => ⟨cs, faulty⟩, fun ⟨cs, faulty⟩ => ⟨cs, mem_allSenses cs, faulty⟩⟩

/-- A station just fitted has no FAULTED mover. -/
theorem anyFaulted_of_rest (rest : ∀ m r, s.mover m = some r → r.phase = .idle ∨ r.phase = .unfitted)
    (reason : FaultReason) : s.anyFaulted reason = false := by
  unfold State.anyFaulted
  rw [List.any_eq_false]
  intro m _ faulted
  cases here : s.mover m with
  | none => rw [here] at faulted; cases faulted
  | some r =>
    rw [here] at faulted
    obtain e | e := rest m r here <;> simp [e] at faulted

theorem fittedMover_rests (cfg : Cfg) (faulty atHome : Bool) (retained : Option (Nat × Bool)) (m : MoverId) (c : MoverCfg) :
    (fittedMover cfg faulty atHome retained m c).phase = .idle ∨
      (fittedMover cfg faulty atHome retained m c).phase = .unfitted := by
  unfold fittedMover
  dsimp only
  split
  · exact .inl rfl
  · exact .inr rfl

theorem Fitted.rest (h : Fitted s t) (none : ∀ m, s.mover m = none) (m : MoverId) (r : Mover) (here : t.mover m = some r) :
    r.phase = .idle ∨ r.phase = .unfitted := by
  rw [h.movers m] at here
  cases slot : s.cfg.movers[m] with
  | none =>
    rw [slot] at here
    cases (none m).symm.trans here
  | some c =>
    rw [slot] at here
    cases here
    exact fittedMover_rests _ _ _ _ _ _

/-! ### Entry into QUIET -/

/-- QUIET as it is entered: what was found stands, the keys are held as their pins show, and the first tick falls
(R139, R173). -/
structure Quieted (s t : State) : Prop where
  leaves : t = { s with
    suc := { s.suc with phase := .quiet, since := s.now, nextTick := some (s.now + s.cfg.period.ms) }
    ktu := t.ktu, sbu := t.sbu, lcu := t.lcu, fcl := t.fcl }
  keys : ∀ k : KeyId, t.ktu.keys[k] = { s.ktu.keys[k] with held := s.input (s.cfg.keys[k]).pin }
  count : t.fcl.tickCount = min 65535 (s.fcl.tickCount + 1)
  flags : ∀ k, k ≠ .supplyShort → t.active k = s.active k
  marks : ∀ c : ChannelId, (t.lcu.channels[c]).mark = (s.lcu.channels[c]).mark

theorem quieted_enterQuiet (rest : ∀ m r, s.mover m = some r → r.phase = .idle ∨ r.phase = .unfitted) :
    Quieted s s.enterQuiet := by
  unfold State.enterQuiet
  generalize entered :
    ({ s with suc := { s.suc with phase := .quiet, since := s.now, nextTick := some s.now } } : State) = u
  have held := heldAtStart_leaves u
  have keys := heldAtStart_key u
  generalize allKeys.foldl heldAtStart u = w at held keys
  subst entered
  have work : w.working = true := by rw [held]; rfl
  have silent : w.mayTransmit = false := by
    unfold State.mayTransmit State.running
    rw [held]
    exact Bool.and_false _
  have resting : ∀ m r, w.mover m = some r → r.phase = .idle ∨ r.phase = .unfitted := fun m r here => rest m r (by
    rw [held] at here
    exact here)
  have delivers : ∀ pin, w.cfg.supply = some pin → (w.fpr.pins[pin]).delivered = s.input s.cfg.supply := fun pin bound => by
    rw [held] at bound ⊢
    unfold State.input
    rw [show s.cfg.supply = some pin from bound]
  obtain ⟨leaves, count, flags⟩ := ownTick_rests work silent resting delivers
  have marks := ownTick_mark w (s.input s.cfg.supply)
  generalize w.ownTick (s.input s.cfg.supply) = t at leaves count flags marks
  have ktu : t.ktu = w.ktu := by rw [leaves]
  refine ⟨?_, fun k => ?_, ?_, fun k other => ?_, fun c => ?_⟩
  · rw [ktu]
    generalize t.sbu = sbu at leaves
    generalize t.lcu = lcu at leaves
    generalize t.fcl = fcl at leaves
    rw [leaves, held]
    rfl
  · rw [ktu]
    exact keys k
  · rw [count, held]
  · rw [flags k other, held]
    rfl
  · rw [marks, held]

/-! ### Entry into RUN -/

/-- The phase and the stand-down that entry into RUN gives (R173, R175). -/
def inRun (s : State) : State :=
  { s with suc := { s.suc with
      phase := .run
      since := s.now
      runEntry := some s.now
      standDown := s.suc.standDown || s.input s.cfg.standby } }

theorem fitnessStop_rests (rest : ∀ r, s.mover m = some r → r.phase.inMotion = false) : s.fitnessStop m = s := by
  unfold State.fitnessStop
  cases here : s.mover m with
  | none => rfl
  | some r => cases phase : r.phase <;> simp_all [MoverPhase.inMotion]

theorem standbyStop_rests (rest : ∀ r, s.mover m = some r → r.phase.inMotion = false) : s.standbyStop m = s := by
  unfold State.standbyStop
  cases here : s.mover m with
  | none => rfl
  | some r => cases phase : r.phase <;> simp_all [MoverPhase.inMotion]

theorem foldl_still {f : State → MoverId → State} (still : ∀ m, f s m = s) (l : List MoverId) : l.foldl f s = s := by
  induction l with
  | nil => rfl
  | cons m l ih => rw [List.foldl_cons, still m, ih]

theorem loseFitness_rests (rest : ∀ m r, s.mover m = some r → r.phase.inMotion = false) : s.loseFitness =
    { s.raiseCond .lineUnfit with sbu := { s.sbu with islandTimer := some (s.now + s.cfg.islandDelay) } } := by
  have mover : ∀ m, (s.raiseCond .lineUnfit).mover m = s.mover m := fun m => by unfold State.mover; simp
  have still : allMovers.foldl State.fitnessStop (s.raiseCond .lineUnfit) = s.raiseCond .lineUnfit :=
    foldl_still (fun m => fitnessStop_rests fun r here => rest m r (by rwa [mover] at here)) allMovers
  unfold State.loseFitness
  rw [still]
  simp

/-- A STANDBY input that is active as RUN is entered takes effect there; no mover in motion is there to stop (R175). -/
theorem standbyTaken (rest : ∀ m r, s.mover m = some r → r.phase.inMotion = false) :
    (if s.input s.cfg.standby then s.beginStandDown else s) =
      { s with suc := { s.suc with standDown := s.suc.standDown || s.input s.cfg.standby } } := by
  cases s.input s.cfg.standby with
  | true =>
    rw [Bool.or_true, if_pos rfl, State.beginStandDown]
    exact foldl_still (s := { s with suc := { s.suc with standDown := true } })
      (fun m => standbyStop_rests fun r here => rest m r here) allMovers
  | false =>
    rw [Bool.or_false]
    rfl

/-- Entry into RUN with LINE_UNFIT not yet raised and no mover in motion: all but line fitness lost there is in the
phase and the stand-down (R154, R175). -/
theorem enterRun_rests (clear : s.active .lineUnfit = false) (rest : ∀ m r, s.mover m = some r → r.phase.inMotion = false) :
    s.enterRun = State.compose (if s.lineFit = true then inRun s
      else { (inRun s).activate .lineUnfit none with
        sbu := { s.sbu with islandTimer := some (s.now + s.cfg.islandDelay) } }) := by
  unfold State.enterRun
  generalize entered :
    ({ s with suc := { s.suc with phase := .run, since := s.now, runEntry := some s.now } } : State) = u
  have judged : u.judgeFitness = if s.lineFit = true then u
      else { u.activate .lineUnfit none with sbu := { u.sbu with islandTimer := some (s.now + s.cfg.islandDelay) } } := by
    have running : u.running = true := by subst u; rfl
    have fit : u.lineFit = s.lineFit := by subst u; rfl
    have shown : u.active .lineUnfit = false := by subst u; exact clear
    cases selected : s.lineFit with
    | true => rw [State.judgeFitness, if_pos running, fit, selected, if_pos rfl, shown]; rfl
    | false =>
      rw [judgeFitness_loses running (fit.trans selected) shown,
        loseFitness_rests fun m r here => rest m r (by subst u; exact here), State.raiseCond,
        if_neg (by rw [shown]; nofun)]
      subst u
      rfl
  dsimp only
  rw [judged]
  subst u
  split
  next => exact congrArg State.compose (standbyTaken rest)
  next => exact congrArg State.compose (standbyTaken rest)

/-- Settles O9: at CALIBRATE_END every mover is at rest and nothing may be sent; at QUIET_END no mover is in motion. -/
theorem calibrateEndAndQuietEnd : Obligations.CalibrateEndAndQuietEnd := by
  refine ⟨fun s calibrate waited none => ?_, fun s quiet waited clear rest => ?_⟩
  · have ends : s.calibrateDue = true := by
      unfold State.calibrateDue
      rw [calibrate]
      exact decide_eq_true waited
    have run : exec .calibrateEnd s = .next s.fitAll.reportFitted.enterQuiet := congrArg Host.Outcome.next (if_pos ends)
    have fitted := fitted_fitAll s
    have rest := fitted.rest none
    generalize s.fitAll = f at run fitted rest
    have unfaulted := anyFaulted_of_rest rest .pumpFault
    have report := reportFitted_leaves f
    have count := reportFitted_tickCount f
    obtain ⟨sense, unknown, power⟩ := reportFitted_active f
    generalize f.reportFitted = v at run report count sense unknown power
    have quieted := quieted_enterQuiet (s := v) (fun m r here => rest m r (by rw [report] at here; exact here))
    generalize v.enterQuiet = t at run quieted
    obtain ⟨leaves, keys, ticks, flags, marks⟩ := quieted
    have cfg : v.cfg = s.cfg := by rw [report, fitted.leaves]
    have input : ∀ b, v.input b = s.input b := fun b => by rw [report, fitted.leaves]; rfl
    have ktu : v.ktu = s.ktu := by rw [report, fitted.leaves]
    have csa : t.csa = f.csa := by rw [leaves, report]
    have mvu : t.mvu = f.mvu := by rw [leaves, report]
    have tcfg : t.cfg = f.cfg := by rw [leaves, report]
    have tfpr : t.fpr = f.fpr := by rw [leaves, report]
    have tmover : ∀ m, t.mover m = f.mover m := fun m => congrArg (fun x : Mvu => x.movers[m]) mvu
    refine ⟨t, run, ?_, ?_, ?_, ?_, ?_, fun cs used => ?_, fun cs unused => ?_, fun c => ?_, fun m slot => ?_,
      fun m c slot => ?_, fun m => ?_, fun k => ?_, ?_, ?_, ?_⟩
    · rw [leaves, report, fitted.leaves]
    · rw [leaves, report, fitted.leaves]
    · rw [leaves, report, fitted.leaves]
    · rw [leaves, report, fitted.leaves]
    · rw [ticks, count, fitted.leaves]
    · rw [csa, fitted.inputs, calibrated, if_pos used]
      refine ⟨rfl, ?_⟩
      simp only [Bool.not_eq_true', Bool.and_eq_false_iff, decide_eq_false_iff_not, not_and_or]
    · rw [csa, fitted.inputs, calibrated, if_neg (by rw [unused]; nofun)]
      exact ⟨rfl, rfl⟩
    · rw [marks, report, csa]
      exact fitted.marks c
    · rw [tmover, fitted.movers, slot]
      exact none m
    · rw [tmover, fitted.movers, slot, csa]
      rfl
    · rw [mvu]
      exact fitted.retained m
    · rw [keys, ktu, cfg, input]
    · rw [flags _ (by decide), sense]
      exact senseFaults_of csa
    · rw [flags _ (by decide), unknown, anyCountUnknown_of mvu tcfg]
    · rw [flags _ (by decide), power, unfaulted, Bool.or_false, anyPowerFault_congr tcfg tfpr fun m => by rw [tmover]]
  · have ends : s.quietDue = true := by
      unfold State.quietDue
      rw [quiet]
      exact decide_eq_true waited
    have run : exec .quietEnd s = .next s.enterRun := congrArg Host.Outcome.next (if_pos ends)
    rw [enterRun_rests clear rest] at run
    generalize judged : (if s.lineFit = true then inRun s
      else { (inRun s).activate .lineUnfit none with
        sbu := { s.sbu with islandTimer := some (s.now + s.cfg.islandDelay) } }) = u at run
    have leaves : u = { inRun s with sbu := u.sbu, fcl := u.fcl } := by
      subst u
      split <;> rfl
    have demands : u.sbu.demands = s.sbu.demands := by
      subst u
      split <;> rfl
    have timer : u.sbu.islandTimer =
        if s.lineFit = true then s.sbu.islandTimer else some (s.now + s.cfg.islandDelay) := by
      subst u
      split <;> rfl
    have flags : ∀ k, u.active k = if k = .lineUnfit then !s.lineFit else s.active k := fun k => by
      subst u
      split
      next fit =>
        rw [fit]
        split
        next same => exact same ▸ clear
        next => rfl
      next unfit =>
        refine (State.activate_active (inRun s) .lineUnfit k none).trans ?_
        rw [Bool.eq_false_iff.2 unfit]
        rfl
    refine ⟨_, run, ?_, ?_, ?_, ?_, ?_, ?_, ?_, fun single => ?_⟩
    · rw [State.compose_suc, leaves]
      rfl
    · have composed : u.compose = { u with liu := u.compose.liu, sbu := u.compose.sbu } := by
        unfold State.compose
        split <;> rfl
      rw [composed]
      generalize u.compose.liu = liu
      generalize u.compose.sbu = sbu
      rw [leaves]
      rfl
    · rw [compose_ports, leaves]
      rfl
    · rw [compose_fifo, leaves]
      rfl
    · rw [compose_sbu]
      exact demands
    · rw [active_of_fcl (State.compose_fcl u), flags, if_pos rfl]
    · rw [compose_sbu]
      exact timer
    · have permitted : u.mayTransmit = true := by
        have twin : u.active .twin = false := (flags .twin).trans ((if_neg (by decide)).trans single)
        unfold State.mayTransmit
        rw [twin, leaves]
        rfl
      refine ⟨announcesNow_compose permitted, ?_⟩
      show (u.compose.running && decide (u.compose.suc.runEntry = some u.compose.now)) = true
      rw [State.running, State.compose_suc, State.compose_now, leaves]
      exact decide_eq_true rfl

end Sys2Proof.Safety
end

section
/-! PROOFS. The own period tick: what it gives the channels and the movers (R2, R17, R25 to R29, R50, R53, R97). -/

namespace Sys2Proof.Safety

open Sys2Proof Sys2Proof.Machine

variable {s t u v : State} {m x : MoverId} {c : ChannelId} {r y : Mover} {supply : Bool}

/-! ### Channels -/

/-- A channel as a tick leaves it: its Leff from the new drawing, and the cut to it of a position the drawing does not
pay for (R50, R53). -/
def tickedChannel (now : Nat) (k : ChannelCfg) (drawing : Option Nat) (ch : Channel) : Channel :=
  if k.kind = .dimmed ∧ 0 < k.rating ∧ supportedLevel k drawing < (refreshed now k drawing ch).position
  then moveTo now (refreshed now k drawing ch).leff (refreshed now k drawing ch)
  else refreshed now k drawing ch

theorem cutChannel_eq (s : State) (c : ChannelId) : s.cutChannel c =
    if (s.cfg.channels[c]).kind = .dimmed ∧ 0 < (s.cfg.channels[c]).rating ∧
      supportedLevel s.cfg.channels[c] (s.chanDrawing c) < (s.lcu.channels[c]).position
    then s.onChannel c (moveTo s.now (s.lcu.channels[c]).leff) else s := by
  unfold State.cutChannel
  simp only [Bool.and_eq_true, decide_eq_true_eq, and_assoc]

theorem tickChannel_same (s : State) (c : ChannelId) : (s.tickChannel c).lcu.channels[c] =
    tickedChannel s.now s.cfg.channels[c] (s.chanDrawing c) s.lcu.channels[c] := by
  have drawing : (s.refreshChannel c).chanDrawing c = s.chanDrawing c := by
    unfold State.chanDrawing
    rw [State.demandOf_congr (State.refreshChannel_sbu s c)]
  unfold State.tickChannel tickedChannel
  rw [cutChannel_eq, drawing, State.refreshChannel_cfg, State.refreshChannel_now, refreshChannel_same]
  split
  · rw [onChannel_same, refreshChannel_same]
  · exact refreshChannel_same s c

theorem tickChannels_channel (s : State) (c : ChannelId) : s.tickChannels.lcu.channels[c] =
    tickedChannel s.now s.cfg.channels[c] (s.chanDrawing c) s.lcu.channels[c] := by
  have ticked := foldl_once (ι := ChannelId) (β := Channel) (view := fun u i => u.lcu.channels[i])
    (g := fun c => tickedChannel s.now s.cfg.channels[c] (s.chanDrawing c))
    (Stands := fun u => u.now = s.now ∧ u.cfg = s.cfg ∧ u.sbu = s.sbu) (f := State.tickChannel)
    (fun u i ⟨now, cfg, sbu⟩ => by
      rw [tickChannel_same, now, cfg]
      unfold State.chanDrawing
      rw [State.demandOf_congr sbu])
    (fun u i j other => tickChannel_other other)
    (fun u i stands => by simpa using stands) c allChannels allChannels_once s ⟨rfl, rfl, rfl⟩
  rw [if_pos (mem_allChannels c)] at ticked
  unfold State.tickChannels
  exact ticked

theorem refreshed_leff (now : Nat) (k : ChannelCfg) (drawing : Option Nat) (ch : Channel) :
    (refreshed now k drawing ch).leff = levelOf k ch.lreq drawing := by
  unfold refreshed
  rw [effectiveLevel_eq_levelOf]
  dsimp only
  split <;> rfl

theorem tickedChannel_levels (now : Nat) (k : ChannelCfg) (drawing : Option Nat) (ch : Channel) :
    (tickedChannel now k drawing ch).lreq = ch.lreq ∧
      (tickedChannel now k drawing ch).leff = levelOf k ch.lreq drawing := by
  obtain ⟨lreq, -, -⟩ := refreshed_keeps now k drawing ch
  have leff := refreshed_leff now k drawing ch
  unfold tickedChannel
  split
  · exact ⟨lreq, leff⟩
  · exact ⟨lreq, leff⟩

theorem supportedLevel_eq (k : ChannelCfg) (drawing : Option Nat) :
    supportedLevel k drawing = drawing.getD 0 * 256 / k.rating := by
  cases drawing <;> simp [supportedLevel]

/-- A DIMMED output that fades is cut where its drawing does not pay for its position, and stands elsewhere (R53). -/
theorem tickedChannel_position (now : Nat) {k : ChannelCfg} (drawing : Option Nat) (ch : Channel) (dimmed : k.kind = .dimmed)
    (rated : k.rating ≠ 0) (fades : k.fade ≠ 0) : (tickedChannel now k drawing ch).position =
      if drawing.getD 0 * 256 / k.rating < ch.position then (tickedChannel now k drawing ch).leff else ch.position := by
  have position : (refreshed now k drawing ch).position = ch.position := by
    unfold refreshed
    dsimp only
    rw [if_neg (by simp [followsAtOnce, dimmed, fades])]
  unfold tickedChannel
  rw [position, supportedLevel_eq]
  by_cases cut : drawing.getD 0 * 256 / k.rating < ch.position
  · rw [if_pos ⟨dimmed, Nat.pos_of_ne_zero rated, cut⟩, if_pos cut]
    rfl
  · rw [if_neg (fun h => cut h.2.2), if_neg cut]
    exact position

/-! ### Movers -/

theorem tickMover_requesting (here : s.mover m = some r) (phase : r.phase = .requesting) : s.tickMover m = s.proceed m := by
  simp only [State.tickMover, here, phase]

theorem tickMover_unlocking (here : s.mover m = some r) (phase : r.phase = .unlocking) :
    s.tickMover m = if s.granted m then s else s.enterIdle m .noSupply := by
  simp only [State.tickMover, here, phase]

theorem tickMover_running (here : s.mover m = some r) (phase : r.phase = .running) :
    s.tickMover m = if s.granted m then s else s.enterStopping m .noSupply none := by
  simp only [State.tickMover, here, phase]

/-- What a tick does to a mover: nothing, a change of its record alone, or an UNLOCKING mover abandoned. -/
theorem tickMover_cases (s : State) (m : MoverId) : s.tickMover m = s ∨ (∃ f, s.tickMover m = s.onMover m f) ∨
    (s.tickMover m = s.enterIdle m .noSupply ∧ ∃ r, s.mover m = some r ∧ r.phase = .unlocking) := by
  cases here : s.mover m with
  | none => exact .inl (by simp only [State.tickMover, here])
  | some r =>
    cases phase : r.phase with
    | requesting =>
      rw [tickMover_requesting here phase]
      exact (proceed_cases s m).imp id fun ⟨_, made⟩ => .inl made
    | unlocking =>
      rw [tickMover_unlocking here phase]
      split
      · exact .inl rfl
      · exact .inr (.inr ⟨rfl, r, rfl, phase⟩)
    | running =>
      rw [tickMover_running here phase]
      split
      · exact .inl rfl
      · exact .inr (.inl ⟨_, rfl⟩)
    | idle | stopping | locking | faulted | unfitted => exact .inl (by simp only [State.tickMover, here, phase])

theorem Heedless.tickMover (h : Heedless s m r) (other : m ≠ x) : Heedless (s.tickMover x) m r := by
  obtain e | ⟨f, e⟩ | ⟨e, -⟩ := tickMover_cases s x
  · rwa [e]
  · rw [e]
    exact h.onMover other f
  · rw [e]
    exact h.enterIdle other _

/-- An entry of another source is no mover's own to give up. -/
theorem tickMover_demandOf {src : Source} (s : State) (x : MoverId) (other : src ≠ .mover x) :
    (s.tickMover x).demandOf src = s.demandOf src := by
  obtain e | ⟨f, e⟩ | ⟨e, -⟩ := tickMover_cases s x
  · rw [e]
  · rw [e]
    rfl
  · rw [e, State.enterIdle_demandOf, if_neg other]

theorem tickMover_granted_other (s : State) (other : m ≠ x) : (s.tickMover x).granted m = s.granted m :=
  granted_of_demand (tickMover_demandOf s x (by simpa using other))

/-- Both movers tick in turn: what holds of mover m's station before its own tick is kept by the other's, and so is what
holds after it. -/
theorem both_tick {before after : State → Prop} (m : MoverId) (waits : ∀ u x, m ≠ x → before u → before (u.tickMover x))
    (ticks : ∀ u, before u → after (u.tickMover m)) (stays : ∀ u x, m ≠ x → after u → after (u.tickMover x))
    (start : before s) : after (allMovers.foldl State.tickMover s) := by
  show after ((s.tickMover 0).tickMover 1)
  obtain rfl | rfl := mover_cases m
  · exact stays _ 1 (by decide) (ticks s start)
  · exact ticks _ (waits s 0 (by decide) start)

/-- A mover that is not UNLOCKING ticks by a change of its record alone. -/
theorem tickMover_record (steady : ∀ r, s.mover m = some r → r.phase ≠ .unlocking) :
    s.tickMover m = s ∨ ∃ f, s.tickMover m = s.onMover m f := by
  obtain e | e | ⟨-, r, here, unlocking⟩ := tickMover_cases s m
  · exact .inl e
  · exact .inr e
  · exact absurd unlocking (steady r here)

theorem tickMover_sbu (steady : ∀ r, s.mover m = some r → r.phase ≠ .unlocking) : (s.tickMover m).sbu = s.sbu := by
  obtain e | ⟨f, e⟩ := tickMover_record steady
  · rw [e]
  · rw [e]
    rfl

theorem tickMovers_sbu (steady : ∀ m r, s.mover m = some r → r.phase ≠ .unlocking) :
    (allMovers.foldl State.tickMover s).sbu = s.sbu := by
  show ((s.tickMover 0).tickMover 1).sbu = s.sbu
  have other : (s.tickMover 0).mover 1 = s.mover 1 := by
    obtain e | ⟨f, e⟩ := tickMover_record (steady 0)
    · rw [e]
    · rw [e, State.onMover_mover_other _ _ _ _ (by decide)]
  rw [tickMover_sbu fun r here => steady 1 r (other ▸ here), tickMover_sbu (steady 0)]

/-- A grant loss stops a RUNNING mover (R29, R102). -/
theorem tick_stops (here : s.mover m = some r) (running : r.phase = .running) (lost : s.granted m = false) :
    (allMovers.foldl State.tickMover s).mover m = some (stopped s m r .noSupply) :=
  (both_tick (before := fun u => Heedless u m r ∧ u.granted m = false ∧ u.cfg = s.cfg ∧ u.now = s.now)
    (after := fun u => Heedless u m (stopped s m r .noSupply)) m
    (fun u x other ⟨heeds, granted, cfg, now⟩ => ⟨heeds.tickMover other, (tickMover_granted_other u other).trans granted,
      (State.tickMover_cfg u x).trans cfg, (State.tickMover_now u x).trans now⟩)
    (fun u ⟨heeds, granted, cfg, now⟩ => by
      rw [tickMover_running heeds.1 running, granted, ← stopped_congr (s := s) cfg now]
      exact heedless_enterStopping heeds.1 .noSupply)
    (fun u x other heeds => heeds.tickMover other)
    ⟨⟨here, .inl (by rw [running]; nofun)⟩, lost, rfl, rfl⟩).1

/-- A RUNNING mover that draws its W runs on. -/
theorem tick_runs (here : s.mover m = some r) (running : r.phase = .running) (granted : s.granted m = true) :
    (allMovers.foldl State.tickMover s).mover m = some r :=
  (both_tick (before := fun u => Heedless u m r ∧ u.granted m = true) (after := fun u => Heedless u m r) m
    (fun u x other ⟨heeds, granted⟩ => ⟨heeds.tickMover other, (tickMover_granted_other u other).trans granted⟩)
    (fun u ⟨heeds, granted⟩ => by rwa [tickMover_running heeds.1 running, granted])
    (fun u x other heeds => heeds.tickMover other) ⟨⟨here, .inl (by rw [running]; nofun)⟩, granted⟩).1

/-- A grant loss abandons an UNLOCKING mover with NO_SUPPLY (R29, R100). -/
theorem tick_abandons (here : s.mover m = some r) (unlocking : r.phase = .unlocking) (lost : s.granted m = false) :
    ∃ y, (allMovers.foldl State.tickMover s).mover m = some y ∧ y.phase = .idle ∧ y.lastRefusal = .noSupply := by
  obtain ⟨y, heeds, phase, code⟩ := both_tick (s := s)
    (before := fun u => Heedless u m r ∧ u.granted m = false)
    (after := fun u => ∃ y, Heedless u m y ∧ y.phase = .idle ∧ y.lastRefusal = .noSupply) m
    (fun u x other ⟨heeds, granted⟩ => ⟨heeds.tickMover other, (tickMover_granted_other u other).trans granted⟩)
    (fun u ⟨heeds, granted⟩ => by
      rw [tickMover_unlocking heeds.1 unlocking, granted]
      exact ⟨_, ⟨(enterIdle_ends heeds.1 _).1, .inl nofun⟩, rfl, rfl⟩)
    (fun u x other ⟨y, heeds, phase, code⟩ => ⟨y, heeds.tickMover other, phase, code⟩)
    ⟨⟨here, .inl (by rw [unlocking]; nofun)⟩, lost⟩
  exact ⟨y, heeds.1, phase, code⟩

/-! ### A request at a tick -/

/-- A REQUESTING mover that holds its zones, before its own tick. -/
structure WaitsOn (s u : State) (m : MoverId) (r : Mover) : Prop where
  here : u.mover m = some r
  held : u.claim m = .held
  granted : u.granted m = s.granted m
  cleared : Cleared u m ↔ Cleared s m
  cfg : u.cfg = s.cfg
  fpr : u.fpr = s.fpr

/-- A mover that has gone to motion where it was cleared. -/
structure GoesOn (s u : State) (m : MoverId) (r : Mover) : Prop where
  cleared : Cleared s m
  started : Started s u m r
  granted : u.granted m = s.granted m

theorem WaitsOn.onMover (h : WaitsOn s u m r) (other : m ≠ x) (f : Mover → Mover) : WaitsOn s (u.onMover x f) m r :=
  ⟨(State.onMover_mover_other u x m f other).trans h.here, h.held, h.granted, h.cleared, h.cfg, h.fpr⟩

theorem WaitsOn.proceed (h : WaitsOn s u m r) :
    GoesOn s (u.proceed m) m r ∨ (WaitsOn s (u.proceed m) m r ∧ ¬ Cleared s m) := by
  by_cases clear : Cleared u m
  · refine .inl ⟨h.cleared.1 clear, (proceed_started clear h.here).of_like h.cfg h.fpr, ?_⟩
    exact (granted_of_demand (State.demandOf_congr (State.proceed_sbu u m) _)).trans h.granted
  · rw [proceed_of_not_cleared clear]
    exact .inr ⟨h, fun at_first => clear (h.cleared.2 at_first)⟩

/-- The release of the other own claim may let the mover go, and otherwise leaves it as it is (R79, R97). -/
theorem WaitsOn.enterIdle (h : WaitsOn s u m r) (other : m ≠ x) (code : RefusalCode) :
    WaitsOn s (u.enterIdle x code) m r ∨ GoesOn s (u.enterIdle x code) m r := by
  have own : m = otherMover x := eq_otherMover other
  unfold State.enterIdle
  rw [← own]
  generalize released :
    ((u.onMover x fun r => { dropMotion r with phase := .idle, lastRefusal := code }).removeEntry
      (.mover x)).releaseClaim x = w
  have demand : w.demandOf (.mover m) = u.demandOf (.mover m) := by
    subst w
    rw [State.demandOf_congr (State.releaseClaim_sbu _ _), State.removeEntry_demandOf, if_neg (by simpa using other)]
    rfl
  have held : w.claim m = .held := by
    subst w
    refine examineClaims_held ?_
    rw [State.setClaim_claim, if_neg other]
    exact h.held
  have zones : w.zoneOccupied m = u.zoneOccupied m := by
    subst w
    exact zoneOccupied_congr (by simp) (by simp) (by simp) (by simp)
  have line : w.lineFit = u.lineFit := by
    subst w
    exact lineFit_of_ports (by simp) (by simp)
  have waits : WaitsOn s w m r :=
    { here := by
        subst w
        rw [State.releaseClaim_mover, State.removeEntry_mover, State.onMover_mover_other _ _ _ _ other]
        exact h.here
      held := held
      granted := (granted_of_demand demand).trans h.granted
      cleared := (cleared_congr (held.trans h.held.symm) zones (granted_of_demand demand) line).trans h.cleared
      cfg := by
        subst w
        simpa using h.cfg
      fpr := by
        subst w
        simpa using h.fpr }
  unfold State.lookAgain
  rw [waits.here]
  dsimp only
  split
  · exact waits.proceed.symm.imp And.left id
  · exact .inl waits

theorem WaitsOn.tickMover (h : WaitsOn s u m r) (other : m ≠ x) :
    WaitsOn s (u.tickMover x) m r ∨ GoesOn s (u.tickMover x) m r := by
  obtain e | ⟨f, e⟩ | ⟨e, -⟩ := tickMover_cases u x
  · exact .inl (by rwa [e])
  · exact .inl (by rw [e]; exact h.onMover other f)
  · rw [e]
    exact h.enterIdle other _

theorem Started.heedless (h : Started s u m r) : ∃ y, Heedless u m y ∧ y.phase ≠ .requesting ∧
    (y.phase = .unlocking ∨ y.phase = .running) := by
  obtain ⟨y, here, -, -, phase⟩ := h
  have motion : y.phase = .unlocking ∨ y.phase = .running := by
    rw [phase]
    split
    · exact .inl rfl
    · exact .inr rfl
  have off : y.phase ≠ .requesting := by obtain e | e := motion <;> rw [e] <;> nofun
  exact ⟨y, ⟨here, .inl off⟩, off, motion⟩

theorem GoesOn.tickMover (h : GoesOn s u m r) (other : m ≠ x) : GoesOn s (u.tickMover x) m r := by
  obtain ⟨y, heeds, -⟩ := h.started.heedless
  have there : (u.tickMover x).mover m = u.mover m := (heeds.tickMover other).1.trans heeds.1.symm
  refine ⟨h.cleared, ?_, (tickMover_granted_other u other).trans h.granted⟩
  have started := h.started
  unfold Started at started ⊢
  rwa [there]

/-- A mover that has gone to motion at this tick draws its W, so that its own tick leaves it. -/
theorem GoesOn.own (h : GoesOn s u m r) : GoesOn s (u.tickMover m) m r := by
  obtain ⟨y, heeds, -, motion⟩ := h.started.heedless
  have granted : u.granted m = true := h.granted.trans h.cleared.2.1
  have still : u.tickMover m = u := by
    obtain e | e := motion
    · rw [tickMover_unlocking heeds.1 e, if_pos granted]
    · rw [tickMover_running heeds.1 e, if_pos granted]
  rwa [still]

/-- A request that holds its zones goes to motion where it is cleared, and waits on where it is not (R97). -/
theorem tick_requests (here : s.mover m = some r) (requesting : r.phase = .requesting) (held : s.claim m = .held) :
    GoesOn s (allMovers.foldl State.tickMover s) m r ∨
      (WaitsOn s (allMovers.foldl State.tickMover s) m r ∧ ¬ Cleared s m) :=
  both_tick (before := fun u => WaitsOn s u m r ∨ GoesOn s u m r)
    (after := fun u => GoesOn s u m r ∨ (WaitsOn s u m r ∧ ¬ Cleared s m)) m
    (fun u x other h => h.elim (fun waits => waits.tickMover other) fun goes => .inr (goes.tickMover other))
    (fun u h => h.elim (fun waits => by rw [tickMover_requesting waits.here requesting]; exact waits.proceed)
      fun goes => .inl goes.own)
    (fun u x other h => h.elim (fun goes => .inl (goes.tickMover other)) fun ⟨waits, uncleared⟩ =>
      (waits.tickMover other).elim (fun waits => .inr ⟨waits, uncleared⟩) fun goes => absurd goes.cleared uncleared)
    (.inl ⟨here, held, rfl, Iff.rfl, rfl, rfl⟩)

/-! ### The tick as a whole -/

/-- The station a tick has sampled, budgeted and lit, before its movers act. -/
def allotted (s : State) (supply : Bool) : State := (s.sampleSupply supply).budgetTick.tickChannels

theorem allotted_leaves (s : State) (supply : Bool) : TickLeaves s (allotted s supply) :=
  ((sampleSupply_leaves s supply).trans (budgetTick_leaves _)).trans (tickChannels_leaves _)

theorem sampleSupply_mvu (s : State) (supply : Bool) : (s.sampleSupply supply).mvu = s.mvu ∧
    (s.sampleSupply supply).zcu = s.zcu ∧ (s.sampleSupply supply).lcu = s.lcu ∧
    (s.sampleSupply supply).sbu = { s.sbu with profile := s.cfg.supply.isSome && supply } := by
  unfold State.sampleSupply State.settleSupply
  cases s.cfg.supply with
  | none => exact ⟨rfl, rfl, rfl, rfl⟩
  | some p =>
    dsimp only
    split <;> exact ⟨rfl, rfl, rfl, rfl⟩

theorem allotted_mover (s : State) (supply : Bool) (m : MoverId) : (allotted s supply).mover m = s.mover m := by
  unfold State.mover allotted
  rw [State.tickChannels_mvu, State.budgetTick_mvu, (sampleSupply_mvu s supply).1]

theorem allotted_claim (s : State) (supply : Bool) (m : MoverId) : (allotted s supply).claim m = s.claim m := by
  unfold State.claim allotted
  rw [State.tickChannels_zcu, State.budgetTick_zcu, (sampleSupply_mvu s supply).2.1]

theorem allotted_sbu (s : State) (supply : Bool) : (allotted s supply).sbu =
    { s.sbu with
      profile := s.cfg.supply.isSome && supply
      grants := (s.sampleSupply supply).computeGrants
      demands := allocate s.cfg (s.sampleSupply supply).computeGrants s.sbu.demands } := by
  obtain ⟨-, -, -, sbu⟩ := sampleSupply_mvu s supply
  unfold allotted
  rw [State.tickChannels_sbu, budgetTick_sbu, (sampleSupply_leaves s supply).cfg, sbu]

/-- A tick in QUIET or RUN, but for the instant of the next one, the count and its ANNOUNCE. -/
theorem tickBlocks_of_working (work : s.working = true) (supply : Bool) :
    s.tickBlocks supply = allMovers.foldl State.tickMover (allotted s supply) := if_pos work

theorem ownTick_mover (s : State) (supply : Bool) (m : MoverId) :
    (s.ownTick supply).mover m = (s.tickBlocks supply).mover m := by
  unfold State.mover State.ownTick
  rw [State.compose_mvu]
  rfl

theorem ownTick_sbu (s : State) (supply : Bool) :
    (s.ownTick supply).sbu = { (s.tickBlocks supply).sbu with offers := (s.ownTick supply).sbu.offers } := by
  unfold State.ownTick
  rw [compose_sbu]
  rfl

theorem ownTick_demandOf (s : State) (supply : Bool) (src : Source) :
    (s.ownTick supply).demandOf src = (s.tickBlocks supply).demandOf src := by
  unfold State.demandOf
  rw [ownTick_sbu]

theorem ownTick_granted (s : State) (supply : Bool) (m : MoverId) :
    (s.ownTick supply).granted m = (s.tickBlocks supply).granted m := granted_of_demand (ownTick_demandOf s supply _)

theorem tickMovers_demandOf {src : Source} (s : State) (other : ∀ m, src ≠ .mover m) :
    (allMovers.foldl State.tickMover s).demandOf src = s.demandOf src :=
  foldl_keeps (fun u => u.demandOf src) State.tickMover (fun u m => tickMover_demandOf u m (other m)) allMovers s

theorem tickMovers_fields (s : State) : (allMovers.foldl State.tickMover s).lcu = s.lcu ∧
    (allMovers.foldl State.tickMover s).fpr = s.fpr ∧ (allMovers.foldl State.tickMover s).fcl = s.fcl :=
  ⟨foldl_keeps State.lcu State.tickMover (fun u m => State.tickMover_lcu u m) allMovers s,
    foldl_keeps State.fpr State.tickMover (fun u m => State.tickMover_fpr u m) allMovers s,
    foldl_keeps State.fcl State.tickMover (fun u m => State.tickMover_fcl u m) allMovers s⟩

/-- A mover at a tick leaves the profile and the grants. -/
theorem tickMover_grants (s : State) (m : MoverId) : (s.tickMover m).sbu.profile = s.sbu.profile ∧
    (s.tickMover m).sbu.grants = s.sbu.grants := by
  obtain e | ⟨f, e⟩ | ⟨e, -⟩ := tickMover_cases s m
  · rw [e]
    exact ⟨rfl, rfl⟩
  · rw [e]
    exact ⟨rfl, rfl⟩
  · rw [e, enterIdle_sbu]
    exact ⟨rfl, rfl⟩

theorem tickMovers_grants (s : State) : (allMovers.foldl State.tickMover s).sbu.profile = s.sbu.profile ∧
    (allMovers.foldl State.tickMover s).sbu.grants = s.sbu.grants :=
  ⟨foldl_keeps (fun u => u.sbu.profile) State.tickMover (fun u m => (tickMover_grants u m).1) allMovers s,
    foldl_keeps (fun u => u.sbu.grants) State.tickMover (fun u m => (tickMover_grants u m).2) allMovers s⟩

theorem allotted_fcl (s : State) (supply : Bool) :
    (allotted s supply).fcl = (s.sampleSupply supply).budgetTick.fcl := State.tickChannels_fcl _

theorem allotted_tickCount (s : State) (supply : Bool) : (allotted s supply).fcl.tickCount = s.fcl.tickCount := by
  rw [allotted_fcl, State.budgetTick, ← sampleSupply_fcl s supply]
  exact reportCond_tickCount _ _ _

/-- A tick judges SUPPLY_SHORT by what it has just sampled (R27). -/
theorem allotted_supplyShort (s : State) (supply : Bool) : (allotted s supply).active .supplyShort =
    decide ((s.sampleSupply supply).judgedSupply < (s.sampleSupply supply).judgedTotal 0) := by
  unfold State.active
  rw [allotted_fcl, State.budgetTick]
  exact State.reportCond_active_same _ _ _

theorem allotted_fpr (delivers : ∀ pin, s.cfg.supply = some pin → (s.fpr.pins[pin]).delivered = supply) :
    (allotted s supply).fpr = s.fpr := by
  unfold allotted
  rw [State.tickChannels_fpr, State.budgetTick_fpr, sampleSupply_delivered delivers]

theorem tickBlocks_tickCount (s : State) (supply : Bool) : (s.tickBlocks supply).fcl.tickCount = s.fcl.tickCount := by
  by_cases work : s.working = true
  · rw [tickBlocks_of_working work, (tickMovers_fields _).2.2, allotted_tickCount]
  · rw [State.tickBlocks, if_neg work]

theorem tickBlocks_fpr (delivers : ∀ pin, s.cfg.supply = some pin → (s.fpr.pins[pin]).delivered = supply) :
    (s.tickBlocks supply).fpr = s.fpr := by
  unfold State.tickBlocks
  split
  · exact (tickMovers_fields _).2.1.trans (allotted_fpr delivers)
  · rfl

/-- The blocks' part of a tick takes no permission to transmit from the station, nor gives one. -/
theorem tickBlocks_mayTransmit (s : State) (supply : Bool) :
    ((s.tickBlocks supply).advanceTick.countTick).mayTransmit = s.mayTransmit := by
  have leaves := tickBlocks_leaves s supply
  have twin : (s.tickBlocks supply).active .twin = s.active .twin := leaves.reports.active (by decide)
  unfold State.mayTransmit State.running
  show (!(s.tickBlocks supply).active .twin && (decide ((s.tickBlocks supply).suc.phase = .run) ||
    (decide ((s.tickBlocks supply).suc.phase = .listenOnly) &&
      decide ((s.tickBlocks supply).suc.image = .invalid)))) = _
  rw [twin, leaves.suc]

theorem ownTick_eq (s : State) (supply : Bool) :
    s.ownTick supply = ((s.tickBlocks supply).advanceTick.countTick).compose := rfl

theorem ownTick_silent (silent : s.mayTransmit = false) (supply : Bool) :
    s.ownTick supply = (s.tickBlocks supply).advanceTick.countTick := by
  have muted := (tickBlocks_mayTransmit s supply).trans silent
  rw [ownTick_eq, State.compose, if_neg (by rw [muted]; nofun)]

/-- A tick computes the grants and announces (R2, R17, R25 to R27, R167). -/
theorem ownTick_computes {k : Nat} (scheduled : s.suc.nextTick = some k) (supply : Bool) :
    (s.ownTick supply).suc = { s.suc with nextTick := some (k + s.cfg.period.ms) } ∧
      (s.ownTick supply).fcl.tickCount = min 65535 (s.fcl.tickCount + 1) ∧
      (s.ownTick supply).ptu = s.ptu ∧ (s.ownTick supply).csa = s.csa ∧ (s.ownTick supply).ktu = s.ktu ∧
      (s.ownTick supply).liu.ports = s.liu.ports ∧ (s.ownTick supply).liu.fifo = s.liu.fifo := by
  have leaves := tickBlocks_leaves s supply
  have count := tickBlocks_tickCount s supply
  rw [ownTick_eq, State.compose_suc, State.compose_fcl, State.compose_ptu, State.compose_csa, State.compose_ktu,
    compose_ports, compose_fifo]
  generalize s.tickBlocks supply = t at leaves count
  refine ⟨?_, ?_, leaves.ptu, leaves.csa, leaves.ktu, ?_, ?_⟩
  · show { t.suc with nextTick := some (t.suc.nextTick.getD t.now + t.cfg.period.ms) } = _
    rw [leaves.suc, leaves.cfg, scheduled]
    rfl
  · show min 65535 (t.fcl.tickCount + 1) = _
    rw [count]
  · show t.liu.ports = _
    rw [leaves.liu]
  · show t.liu.fifo = _
    rw [leaves.liu]

/-- The profile, the grants and SUPPLY_SHORT of a tick in QUIET and RUN (R17, R26, R27). -/
theorem ownTick_grants (work : s.working = true) (supply : Bool) :
    (s.ownTick supply).sbu.profile = (s.cfg.supply.isSome && supply) ∧
      (s.ownTick supply).sbu.grants = (s.sampleSupply supply).computeGrants ∧
      (s.ownTick supply).active .supplyShort =
        decide ((s.sampleSupply supply).judgedSupply < (s.sampleSupply supply).judgedTotal 0) := by
  have short : (s.ownTick supply).active .supplyShort = (s.tickBlocks supply).active .supplyShort := by
    unfold State.active
    rw [ownTick_eq, State.compose_fcl]
    rfl
  have ticked : (s.tickBlocks supply).active .supplyShort = (allotted s supply).active .supplyShort := by
    unfold State.active
    rw [tickBlocks_of_working work, (tickMovers_fields _).2.2]
  refine ⟨?_, ?_, short.trans (ticked.trans (allotted_supplyShort s supply))⟩
  · rw [ownTick_sbu]
    show (s.tickBlocks supply).sbu.profile = _
    rw [tickBlocks_of_working work, (tickMovers_grants _).1, allotted_sbu]
  · rw [ownTick_sbu]
    show (s.tickBlocks supply).sbu.grants = _
    rw [tickBlocks_of_working work, (tickMovers_grants _).2, allotted_sbu]

/-- There is nothing to compute in LISTEN_ONLY (R39). -/
theorem ownTick_listens (listens : s.suc.phase = .listenOnly) (supply : Bool) :
    s.ownTick supply = { s with
      suc := (s.ownTick supply).suc
      liu := (s.ownTick supply).liu
      sbu := (s.ownTick supply).sbu
      fcl := (s.ownTick supply).fcl } ∧
      (s.ownTick supply).sbu.demands = s.sbu.demands ∧ (s.ownTick supply).fcl.flags = s.fcl.flags := by
  rw [ownTick_of_idle (by simp [State.working, listens]) supply]
  refine ⟨?_, ?_, ?_⟩
  · unfold State.compose
    split <;> rfl
  · rw [compose_sbu]
    rfl
  · rw [State.compose_fcl]
    rfl

/-! ### The outputs at a tick -/

theorem ownTick_channel (work : s.working = true) (supply : Bool) (c : ChannelId) :
    (s.ownTick supply).lcu.channels[c] =
      tickedChannel s.now s.cfg.channels[c] ((s.ownTick supply).chanDrawing c) s.lcu.channels[c] := by
  have lcu : (s.ownTick supply).lcu = (s.sampleSupply supply).budgetTick.tickChannels.lcu := by
    rw [ownTick_eq, State.compose_lcu]
    show (s.tickBlocks supply).lcu = _
    rw [tickBlocks_of_working work]
    exact (tickMovers_fields _).1
  have entry : (s.ownTick supply).demandOf (.chan c) = (s.sampleSupply supply).budgetTick.demandOf (.chan c) := by
    rw [ownTick_demandOf, tickBlocks_of_working work, tickMovers_demandOf _ (fun _ => Source.noConfusion)]
    exact State.demandOf_congr (State.tickChannels_sbu _) _
  have drawing : (s.ownTick supply).chanDrawing c = (s.sampleSupply supply).budgetTick.chanDrawing c := by
    unfold State.chanDrawing
    rw [entry]
  have leaves := (sampleSupply_leaves s supply).trans (budgetTick_leaves _)
  have channels : (s.sampleSupply supply).budgetTick.lcu = s.lcu :=
    (State.budgetTick_lcu _).trans (sampleSupply_mvu s supply).2.2.1
  rw [lcu, drawing, tickChannels_channel, leaves.now, leaves.cfg, channels]

/-- A tick that starts nothing takes no entry from a RUNNING mover. -/
theorem tick_granted (here : s.mover m = some r) (running : r.phase = .running) :
    (allMovers.foldl State.tickMover s).granted m = s.granted m :=
  both_tick (before := fun u => Heedless u m r ∧ u.granted m = s.granted m) (after := fun u => u.granted m = s.granted m) m
    (fun u x other ⟨heeds, granted⟩ => ⟨heeds.tickMover other, (tickMover_granted_other u other).trans granted⟩)
    (fun u ⟨heeds, granted⟩ => by
      have steady (y : Mover) (there : u.mover m = some y) : y.phase ≠ .unlocking := by
        rw [← Option.some.inj (heeds.1.symm.trans there), running]
        nofun
      exact (granted_of_demand (State.demandOf_congr (tickMover_sbu steady) _)).trans granted)
    (fun u x other granted => (tickMover_granted_other u other).trans granted)
    ⟨⟨here, .inl (by rw [running]; nofun)⟩, rfl⟩

/-- A request at a tick that finds the SUPPLY input delivering the value sampled (R53, R97). -/
theorem ownTick_requests (work : s.working = true)
    (here : s.mover m = some r) (requesting : r.phase = .requesting)
    (delivers : ∀ pin, s.cfg.supply = some pin → (s.fpr.pins[pin]).delivered = supply) (held : s.claim m = .held)
    (free : s.zoneOccupied m = false) (line : s.lineFit = true) :
    ((s.ownTick supply).granted m = true → Started s (s.ownTick supply) m r) ∧
      ((s.ownTick supply).granted m = false → (s.ownTick supply).mover m = some r) := by
  have leaves := allotted_leaves s supply
  have fpr := allotted_fpr delivers
  have there := (allotted_mover s supply m).trans here
  have holds := (allotted_claim s supply m).trans held
  have zones : (allotted s supply).zoneOccupied m = false :=
    (zoneOccupied_congr leaves.cfg (by rw [leaves.suc]) leaves.ptu fpr).trans free
  have fit : (allotted s supply).lineFit = true := (lineFit_of_ports leaves.cfg (by rw [leaves.liu])).trans line
  have clear (granted : (allotted s supply).granted m = true) : Cleared (allotted s supply) m :=
    ⟨standing_cleared_iff.2 ⟨holds, zones⟩, granted, fit⟩
  have ticked := tick_requests there requesting holds
  unfold Started
  rw [ownTick_granted, ownTick_mover, tickBlocks_of_working work]
  obtain goes | ⟨waits, uncleared⟩ := ticked
  · have granted := goes.granted.trans goes.cleared.2.1
    refine ⟨fun _ => goes.started.of_like leaves.cfg fpr, fun lost => ?_⟩
    exact absurd (granted.symm.trans lost) nofun
  · exact ⟨fun granted => absurd (clear (waits.granted.symm.trans granted)) uncleared, fun _ => waits.here⟩

/-- An UNLOCKING mover at a tick whose allocation does not give it its W (R29, R100). -/
theorem ownTick_abandons (work : s.working = true) (here : s.mover m = some r) (unlocking : r.phase = .unlocking)
    (lost : demandIn (allocate s.cfg (s.ownTick supply).sbu.grants s.sbu.demands) (.mover m) = none ∨
      ∃ d, demandIn (allocate s.cfg (s.ownTick supply).sbu.grants s.sbu.demands) (.mover m) = some d ∧
        d.drawing ≠ d.want) :
    ∃ y, (s.ownTick supply).mover m = some y ∧ y.phase = .idle ∧ y.lastRefusal = .noSupply := by
  rw [(ownTick_grants work supply).2.1] at lost
  have entry : (allotted s supply).demandOf (.mover m) =
      demandIn (allocate s.cfg (s.sampleSupply supply).computeGrants s.sbu.demands) (.mover m) := by
    unfold State.demandOf
    rw [allotted_sbu]
  have ungranted : (allotted s supply).granted m = false := by
    unfold State.granted
    obtain nothing | ⟨d, some_entry, short⟩ := lost
    · rw [entry, nothing]
    · rw [entry, some_entry]
      exact decide_eq_false short
  rw [ownTick_mover, tickBlocks_of_working work]
  exact tick_abandons ((allotted_mover s supply m).trans here) unlocking ungranted

/-- What a tick does to a RUNNING mover (R29, R102). -/
theorem ownTick_running (work : s.working = true) (here : s.mover m = some r) (running : r.phase = .running) :
    ((s.ownTick supply).granted m = false → (s.ownTick supply).mover m = some (stopped s m r .noSupply)) ∧
      ((s.ownTick supply).granted m = true → (s.ownTick supply).mover m = some r) := by
  have there := (allotted_mover s supply m).trans here
  have leaves := allotted_leaves s supply
  rw [ownTick_granted, ownTick_mover, tickBlocks_of_working work, tick_granted there running]
  refine ⟨fun lost => ?_, tick_runs there running⟩
  rw [tick_stops there running lost, stopped_congr leaves.cfg leaves.now]

/-- With no mover UNLOCKING, every entry draws what the allocation of the new grants gives it (R28). -/
theorem ownTick_allocates (work : s.working = true) (steady : ∀ m r, s.mover m = some r → r.phase ≠ .unlocking) :
    (s.ownTick supply).sbu.demands = allocate s.cfg (s.ownTick supply).sbu.grants s.sbu.demands := by
  rw [(ownTick_grants work supply).2.1, ownTick_sbu]
  show (s.tickBlocks supply).sbu.demands = _
  rw [tickBlocks_of_working work, tickMovers_sbu fun m r there => steady m r (allotted_mover s supply m ▸ there),
    allotted_sbu]

theorem exec_ownPeriodTick (due : s.tickDue = true) (supply : Bool) :
    exec (.ownPeriodTick supply) s = .next (s.ownTick supply) := by
  show Host.Outcome.next (if s.tickDue then s.ownTick supply else s) = _
  rw [if_pos due]

/-- Settles O10: the tick as `State.ownTick` makes it, in its parts — the sampled and allotted station, its channels, its
movers in turn, the count and the ANNOUNCE. -/
theorem tickComputesAndAllocates : Obligations.TickComputesAndAllocates := by
  refine ⟨fun supply s k delivering scheduled falls => ?_, fun supply s due work => ?_⟩
  · have due : s.tickDue = true := by
      unfold State.tickDue
      rw [delivering, scheduled]
      exact decide_eq_true falls
    obtain ⟨suc, count, ptu, csa, ktu, ports, fifo⟩ := ownTick_computes scheduled supply
    refine ⟨s.ownTick supply, exec_ownPeriodTick due supply, suc, count, ptu, csa, ktu, ports, fifo, fun delivers => ?_,
      fun work => ownTick_grants work supply, fun listens => ownTick_listens listens supply, fun permitted => ?_,
      fun silent => ?_⟩
    · rw [ownTick_eq, State.compose_fpr]
      exact tickBlocks_fpr delivers
    · exact announcesNow_compose ((tickBlocks_mayTransmit s supply).trans permitted)
    · rw [ownTick_silent silent]
      exact (tickBlocks_leaves s supply).liu
  · refine ⟨s.ownTick supply, exec_ownPeriodTick due supply, ownTick_allocates work, fun c => ?_,
      fun c dimmed rated fades => ?_, fun m r here running => (ownTick_running work here running).1,
      fun m r here running => (ownTick_running work here running).2,
      fun m r here requesting delivers held free line =>
        ownTick_requests work here requesting delivers held free line,
      fun m r here unlocking => ownTick_abandons work here unlocking⟩
    · have ticked := ownTick_channel work supply c
      rw [ticked]
      exact tickedChannel_levels _ _ _ _
    · have ticked := ownTick_channel work supply c
      rw [ticked]
      exact tickedChannel_position _ _ _ dimmed rated fades

end Sys2Proof.Safety
end

section
/-! PROOFS. The clock: the pins sampled at each ms, and what has come due stands in the queue (O2). -/

namespace Sys2Proof.Safety

open Sys2Proof Sys2Proof.Machine

variable {s t : State} {c i : Instr}

/-! ### The conditions of the commands -/

theorem due_iff {timer : Option Nat} {now : Nat} : due timer now = true ↔ ∃ k, timer = some k ∧ k ≤ now := by
  cases timer with
  | none => exact ⟨nofun, nofun⟩
  | some k => exact ⟨fun h => ⟨k, rfl, of_decide_eq_true h⟩, fun ⟨_, e, h⟩ => Option.some.inj e ▸ decide_eq_true h⟩

theorem elapsed_iff {start : Option Nat} {span now : Nat} :
    elapsed start span now = true ↔ ∃ k, start = some k ∧ k + span ≤ now := by
  unfold elapsed
  rw [due_iff]
  simp only [Option.map_eq_some_iff, exists_exists_and_eq_and]

theorem dwellDue_iff {p : PortId} : (s.dwellDue p).isSome = true ↔ s.portsOperate = true ∧
    (s.liu.ports[p]).state = .seeking ∧ ∃ d, (s.liu.ports[p]).dwell = some d ∧ d.start + s.cfg.ports.dwell ≤ s.now := by
  unfold State.dwellDue
  by_cases seeks : (s.portsOperate && decide ((s.liu.ports[p]).state = .seeking)) = true
  · rw [if_pos seeks]
    obtain ⟨operates, seeking⟩ := Bool.and_eq_true_iff.1 seeks
    cases dwell : (s.liu.ports[p]).dwell with
    | none => simp
    | some d =>
      have state := of_decide_eq_true seeking
      rw [operates, state]
      simp
  · rw [if_neg seeks]
    refine ⟨nofun, fun ⟨operates, seeking, _⟩ => absurd ?_ seeks⟩
    rw [operates, decide_eq_true seeking]
    rfl

theorem settleDue_iff {now q : Nat} {d : Demand} :
    settleDue now q d = true ↔ ∃ x, d.pending = some x ∧ x.2 + q ≤ now := by
  unfold settleDue
  rw [elapsed_iff]
  simp only [Option.map_eq_some_iff, exists_exists_and_eq_and]

theorem staleDue_iff {n : SlotId} : s.staleDue n = true ↔
    ∃ r, s.ptu.peers[n] = some r ∧ r.status = .live ∧ r.heard + 3 * r.ann.period.ms ≤ s.now := by
  unfold State.staleDue silentSince
  cases s.ptu.peers[n] <;> simp

theorem orphanDue_iff {n : SlotId} : s.orphanDue n = true ↔
    ∃ r, s.ptu.peers[n] = some r ∧ r.status ≠ .orphan ∧ r.heard + 10 * r.ann.period.ms ≤ s.now := by
  unfold State.orphanDue silentSince
  cases s.ptu.peers[n] <;> simp

theorem tripDue_iff {c : ChannelId} : s.tripDue c = true ↔
    (0 < (s.lcu.channels[c]).position ∧ ∃ k, (s.lcu.channels[c]).overTime = some k ∧ k + 100 ≤ s.now) ∨
      ((s.lcu.channels[c]).mark = .inService ∧ (s.lcu.channels[c]).owedTrip = some s.now) := by
  unfold State.tripDue overrun tripOwed
  rw [Bool.or_eq_true, Bool.and_eq_true, Bool.and_eq_true, elapsed_iff]
  simp only [decide_eq_true_eq]
  rfl

theorem windowOver_iff {m : MoverId} :
    s.windowOver m = true ↔ ∃ start, s.claim m = .listening start ∧ start + s.cfg.listenWindow ≤ s.now := by
  unfold State.windowOver
  cases s.claim m <;> simp

/-- A phase timer of a mover in a phase has run out. -/
theorem timerDue_iff {m : MoverId} {phase : MoverPhase} : (s.inPhase m phase && s.phaseTimerDue m) = true ↔
    ∃ r k, s.mover m = some r ∧ r.phase = phase ∧ r.timer = some k ∧ k ≤ s.now := by
  unfold State.inPhase State.phaseTimerDue
  cases s.mover m with
  | none => simp
  | some r => simp [due_iff]

theorem lockDue_iff {m : MoverId} : s.lockDue m = true ↔ ∃ r k, s.mover m = some r ∧
    (r.phase = .unlocking ∨ r.phase = .locking) ∧ r.timer = some k ∧ k ≤ s.now := by
  unfold State.lockDue State.inPhase State.phaseTimerDue
  cases s.mover m with
  | none => simp
  | some r => simp [due_iff]

theorem travelDue_iff {m : MoverId} : s.travelDue m = true ↔ ∃ r k, s.mover m = some r ∧
    (s.moverCfg m).kind ≠ .windlass ∧ r.phase = .running ∧ r.timer = some k ∧ k ≤ s.now := by
  unfold State.travelDue
  rw [Bool.and_assoc, Bool.and_eq_true, timerDue_iff, decide_eq_true_eq]
  exact ⟨fun ⟨kind, r, k, here, rest⟩ => ⟨r, k, here, kind, rest⟩, fun ⟨r, k, here, kind, rest⟩ => ⟨kind, r, k, here, rest⟩⟩

theorem holdRuns_iff {phase : MoverPhase} : holdRuns phase = true ↔
    phase = .requesting ∨ phase = .unlocking ∨ phase = .running ∨ phase = .stopping := by
  cases phase <;> simp [holdRuns]

theorem holdDue_iff {m : MoverId} : s.holdDue m = true ↔ ∃ r k, s.mover m = some r ∧ r.lastDrive = some k ∧
    (r.phase = .requesting ∨ r.phase = .unlocking ∨ r.phase = .running ∨ r.phase = .stopping) ∧
    k + (s.moverCfg m).holdTimeout ≤ s.now := by
  unfold State.holdDue
  cases s.mover m with
  | none => simp
  | some r =>
    dsimp only
    rw [Bool.and_eq_true, holdRuns_iff, elapsed_iff]
    simp only [Option.some.injEq, exists_and_left, exists_eq_left']
    exact ⟨fun ⟨phase, k, last, over'⟩ => ⟨k, last, phase, over'⟩, fun ⟨k, last, phase, over'⟩ => ⟨phase, k, last, over'⟩⟩

theorem guardDue_iff {m : MoverId} : s.guardDue m = true ↔
    ∃ r x, s.mover m = some r ∧ r.releaseGuard = some x ∧ x.2 ≤ s.now := by
  unfold State.guardDue
  cases s.mover m with
  | none => simp
  | some r =>
    cases guard : r.releaseGuard with
    | none => simp [due_iff, guard]
    | some x =>
      obtain ⟨source, until'⟩ := x
      simp [due_iff, guard]

theorem overloadDue_iff {m : MoverId} : s.overloadDue m = true ↔
    ∃ r k, s.mover m = some r ∧ r.phase = .running ∧ r.overTime = some k ∧ k + 200 ≤ s.now := by
  unfold State.overloadDue
  cases s.mover m with
  | none => simp
  | some r => simp [elapsed_iff, Config.moverOverSpan]

theorem stallDue_iff {m : MoverId} : s.stallDue m = true ↔ ∃ r k, s.mover m = some r ∧
    (s.moverCfg m).kind = .windlass ∧ r.phase = .running ∧ r.stallSpan = some k ∧
    k + (s.moverCfg m).chain.stallTime ≤ s.now := by
  unfold State.stallDue
  cases s.mover m with
  | none => simp
  | some r => simp [elapsed_iff, and_assoc]

theorem converts_iff {cs : SenseId} : s.converts cs = true ↔ senseInUse s.cfg cs = true ∧
    (s.suc.phase = .calibrate ∨ (s.working = true ∧ (s.csa.inputs[cs]).faulty = false)) := by
  unfold State.converts State.senseFaulty
  simp only [Bool.and_eq_true, Bool.or_eq_true, Bool.not_eq_true', decide_eq_true_eq]

theorem tickDue_iff {supply : Bool} : s.tickDue = true ∧ supply = s.input s.cfg.supply ↔
    s.delivers = true ∧ supply = s.input s.cfg.supply ∧ ∃ k, s.suc.nextTick = some k ∧ k ≤ s.now := by
  unfold State.tickDue
  rw [Bool.and_eq_true, due_iff, and_assoc, and_comm (a := ∃ k, _)]

theorem phaseSpan_iff {phase : Phase} {span : Nat} :
    (decide (s.suc.phase = phase) && decide (s.suc.since + span ≤ s.now)) = true ↔
      s.suc.phase = phase ∧ s.suc.since + span ≤ s.now := by
  rw [Bool.and_eq_true, decide_eq_true_eq, decide_eq_true_eq]

theorem carrierDue_iff {p : PortId} : s.carrierDue p = true ↔
    s.portsOperate = true ∧ ∃ k, (s.liu.ports[p]).carrier = some k ∧ k + 20 ≤ s.now := by
  unfold State.carrierDue
  rw [Bool.and_eq_true, elapsed_iff]
  rfl

theorem windowDue_iff {p : PortId} : s.windowDue p = true ↔ s.portsOperate = true ∧
    (s.liu.ports[p]).state = .fit ∧ ∃ k, (s.liu.ports[p]).windowEnd = some k ∧ k ≤ s.now := by
  unfold State.windowDue State.portFit
  rw [Bool.and_eq_true, Bool.and_eq_true, decide_eq_true_eq, due_iff, and_assoc]

theorem pulseDue_iff {p : PortId} : s.pulseDue p = true ↔ s.mayTransmit = true ∧
    (s.liu.ports[p]).attempt = none ∧ (s.liu.ports[p]).lastTransition + 1 ≤ s.now := by
  unfold State.pulseDue
  rw [Bool.and_eq_true, Bool.and_eq_true, Option.isNone_iff_eq_none, decide_eq_true_eq, and_assoc]
  rfl

theorem driveDue_iff {now : Nat} {q : Queued} :
    driveDue now q = true ↔ q.frame.kindCode = 1 ∧ q.queuedAt + 200 ≤ now := by
  unfold driveDue
  rw [Bool.and_eq_true, decide_eq_true_eq, decide_eq_true_eq]
  rfl

theorem settles_iff {src : Source} :
    (∃ d ∈ s.sbu.demands, settleDue s.now s.cfg.settle d = true ∧ src = d.source) ↔
      ∃ d ∈ s.sbu.demands, d.source = src ∧ ∃ x, d.pending = some x ∧ x.2 + s.cfg.settle ≤ s.now :=
  exists_congr fun _ => and_congr_right fun _ => and_comm.trans (and_congr eq_comm settleDue_iff)

theorem repeatDue_iff {k : KeyId} : s.repeatDue k = true ↔ s.working = true ∧ (s.ktu.keys[k]).held = true ∧
    (s.ktu.keys[k]).standing = .driving ∧ ∃ n, (s.ktu.keys[k]).nextRepeat = some n ∧ n ≤ s.now := by
  unfold State.repeatDue
  rw [Bool.and_eq_true, Bool.and_eq_true, Bool.and_eq_true, decide_eq_true_eq, due_iff, and_assoc, and_assoc]

theorem flagDue_iff {kind : FaultKind} : s.flagDue kind = true ↔
    isEvent kind = true ∧ ∃ n, (s.fcl.flags[kind.idx]).hold = some n ∧ n ≤ s.now := by
  unfold State.flagDue
  rw [Bool.and_eq_true, due_iff]

/-! ### The commands of an instant -/

theorem mem_dueIf {b : Bool} : c ∈ dueIf b i ↔ b = true ∧ c = i := by
  unfold dueIf
  cases b <;> simp

theorem mem_allPorts (p : PortId) : p ∈ allPorts := by revert p; decide

theorem mem_allKinds (k : FaultKind) : k ∈ FaultKind.all := by cases k <;> decide

theorem mem_allSlots (n : SlotId) : n ∈ allSlots := List.mem_finRange n

/-- What has come due, row by row (Due.lean); the rows that come from outside never do. -/
theorem mem_dueCommands (c : Instr) : c ∈ s.dueCommands ↔ DueNow s c := by
  unfold State.dueCommands State.senseCommands State.portCommands State.sharedCommands State.channelCommands
    State.moverCommands State.keyCommands State.flagCommands
  cases c
  all_goals simp [mem_dueIf, mem_allPorts, mem_allMovers, mem_allChannels, mem_allKeys, mem_allSenses, mem_allKinds,
    mem_allSlots]
  case senseReading cs raw => exact and_comm.trans (and_congr_right fun _ => converts_iff)
  case calibrateEnd => exact phaseSpan_iff
  case quietEnd => exact phaseSpan_iff
  case ownPeriodTick supply => exact tickDue_iff
  case carrierLoss p => exact carrierDue_iff
  case dwellEnd p => exact dwellDue_iff
  case errorWindowEnd p => exact windowDue_iff
  case linkPulse p => exact pulseDue_iff
  case driveStale => exact exists_congr fun q => and_congr_right fun _ => driveDue_iff
  case settle src => exact settles_iff
  case islandDelayExpiry => exact due_iff
  case peerStale n => exact staleDue_iff
  case peerOrphan n => exact orphanDue_iff
  case inrushWindowExpiry c => exact due_iff
  case channelTrip c => exact tripDue_iff
  case tripMemoryExpiry c => exact due_iff
  case fadeBeat => exact Iff.rfl
  case beaconBlink => exact Iff.rfl
  case listenWindowExpiry m => exact windowOver_iff
  case holdToRunTimeout m => exact holdDue_iff
  case requestTimeLimit m => exact timerDue_iff
  case releaseGuardExpiry m => exact guardDue_iff
  case lockTimerExpiry m => exact lockDue_iff
  case travelTimeout m => exact travelDue_iff
  case overload m => exact overloadDue_iff
  case stopDwellEnd m => exact timerDue_iff
  case stall m => exact stallDue_iff
  case keyRepeat k => exact repeatDue_iff
  case acknowledgeExpiry k => exact due_iff
  case holdTimerExpiry kind => exact flagDue_iff
  all_goals exact id

/-! ### The pins of an instant (R134) -/

/-- A pin as a sample at an instant leaves it. -/
def sampledAt (s : State) (now : Nat) (p : PinId) (x : Pin) : Pin :=
  if pinDelivers s.cfg.pins[p] now x && (changeCommands s p (pinActive s.cfg.pins[p] x)).isEmpty then
    { x with delivered := pinActive s.cfg.pins[p] x, candidate := none }
  else { x with candidate := nextCandidate s.cfg.pins[p] now x }

/-- The commands of a change go by the configuration and the phase. -/
theorem changeCommands_congr (cfg : t.cfg = s.cfg) (suc : t.suc = s.suc) (p : PinId) (active : Bool) :
    changeCommands t p active = changeCommands s p active := by
  have key : keyCommand t active = keyCommand s active := by
    funext k
    unfold keyCommand
    rw [cfg]
  unfold changeCommands keysOn State.working
  rw [key, cfg, suc]

theorem sampledAt_congr (cfg : t.cfg = s.cfg) (suc : t.suc = s.suc) : sampledAt t = sampledAt s := by
  funext now p x
  unfold sampledAt
  rw [changeCommands_congr cfg suc, cfg]

theorem samplePin_pin (s : State) (p q : PinId) :
    (s.samplePin p).fpr.pins[q] = if q = p then sampledAt s s.now p s.fpr.pins[q] else s.fpr.pins[q] :=
  onPin_record s p q _

theorem pinRead_congr (cfg : t.cfg = s.cfg) (suc : t.suc = s.suc) (p : PinId) : t.pinRead p = s.pinRead p := by
  unfold State.pinRead State.sampling State.working
  rw [cfg, suc]

theorem passTime_pin (s : State) (p : PinId) : s.passTime.fpr.pins[p] =
    if s.pinRead p = true then sampledAt s (s.now + 1) p s.fpr.pins[p] else s.fpr.pins[p] := by
  have start : State.pinRead { s with now := s.now + 1 } = s.pinRead := funext fun q => pinRead_congr rfl rfl q
  have sampled := foldl_once (ι := PinId) (β := Pin) (view := fun u q => u.fpr.pins[q])
    (g := sampledAt s (s.now + 1))
    (Stands := fun u => u.now = s.now + 1 ∧ u.cfg = s.cfg ∧ u.suc = s.suc) (f := State.samplePin)
    (fun u q ⟨now, cfg, suc⟩ => by
      rw [samplePin_pin, if_pos rfl, now, sampledAt_congr cfg suc])
    (fun u q r other => (samplePin_pin u q r).trans (if_neg other))
    (fun u q stands => stands) p (allPins.filter s.pinRead) ((List.nodup_finRange 32).filter _)
    { s with now := s.now + 1 } ⟨rfl, rfl, rfl⟩
  simp only [List.mem_filter, mem_allPins, true_and] at sampled
  unfold State.passTime State.samplePins
  dsimp only
  rw [start]
  exact sampled

theorem passTime_blinkLit (s : State) : s.passTime.fpr.blinkLit = s.fpr.blinkLit :=
  foldl_keeps (fun u => u.fpr.blinkLit) State.samplePin (fun _ _ => rfl) _ { s with now := s.now + 1 }

theorem sampledAt_level (s : State) (now : Nat) (p : PinId) (x : Pin) : (sampledAt s now p x).level = x.level := by
  unfold sampledAt
  split <;> rfl

theorem passTime_level (s : State) (p : PinId) : (s.passTime.fpr.pins[p]).level = (s.fpr.pins[p]).level := by
  rw [passTime_pin]
  split
  · exact sampledAt_level _ _ _ _
  · rfl

theorem idle_passes (room : s.now + 1 < 2 ^ 48) (empty : s.pending = []) : step s = .next s.passTime := by
  unfold step
  rw [empty]
  exact if_pos room

theorem idle_stops (full : 2 ^ 48 ≤ s.now + 1) (empty : s.pending = []) : step s = .fault .timeBaseExhausted := by
  unfold step
  rw [empty]
  exact if_neg (Nat.not_lt.2 full)

theorem pinFiltered_iff (k : PinCfg) : pinFiltered k = true ↔ k.filtered = true ∨ k.fn = .key := by
  unfold pinFiltered
  rw [Bool.or_eq_true, decide_eq_true_eq]

/-- A sample delivers a value the pin does not show yet, where nothing holds it back (R134). -/
theorem pinDelivers_iff (k : PinCfg) (now : Nat) (x : Pin) : pinDelivers k now x = true ↔
    pinActive k x ≠ x.delivered ∧ ((k.filtered = false ∧ k.fn ≠ .key) ∨ ∃ j, x.candidate = some j ∧ j + 20 ≤ now) := by
  have raw : (!pinFiltered k) = true ↔ k.filtered = false ∧ k.fn ≠ .key := by
    rw [Bool.not_eq_true', ← Bool.not_eq_true, pinFiltered_iff, not_or, Bool.not_eq_true]
  unfold pinDelivers
  rw [Bool.and_eq_true, bne_iff_ne, Bool.or_eq_true, raw, elapsed_iff]
  rfl

/-- A level that stands for the delivered value drops a candidate. -/
theorem sampledAt_same {now : Nat} {p : PinId} {x : Pin} (same : pinActive s.cfg.pins[p] x = x.delivered) :
    sampledAt s now p x = { x with candidate := none } := by
  unfold sampledAt pinDelivers nextCandidate
  rw [same]
  simp

/-- A new level of a FILTERED pin is a candidate from the first sample that shows it. -/
theorem sampledAt_waits {now : Nat} {p : PinId} {x : Pin} (new : pinActive s.cfg.pins[p] x ≠ x.delivered)
    (filtered : (s.cfg.pins[p]).filtered = true ∨ (s.cfg.pins[p]).fn = .key)
    (young : ∀ k, x.candidate = some k → now < k + 20) :
    sampledAt s now p x = { x with candidate := some (x.candidate.getD now) } := by
  have waits : pinDelivers s.cfg.pins[p] now x = false := by
    rw [← Bool.not_eq_true, pinDelivers_iff]
    rintro ⟨-, ⟨unfiltered, no_key⟩ | ⟨k, candidate, old⟩⟩
    · exact filtered.elim (fun f => absurd (f.symm.trans unfiltered) nofun) no_key
    · exact absurd old (Nat.not_le.2 (young k candidate))
  unfold sampledAt nextCandidate
  rw [waits, (pinFiltered_iff _).2 filtered, bne_iff_ne.2 new]
  rfl

/-- A change no command follows is delivered at the sample itself. -/
theorem sampledAt_delivers {now : Nat} {p : PinId} {x : Pin} (delivers : pinDelivers s.cfg.pins[p] now x = true)
    (silent : changeCommands s p (!x.delivered) = []) : (sampledAt s now p x).delivered = !x.delivered := by
  have active : pinActive s.cfg.pins[p] x = !x.delivered := Bool.eq_not_of_ne ((pinDelivers_iff _ _ _).1 delivers).1
  unfold sampledAt
  rw [delivers, active, silent]
  rfl

theorem passTime_pending (s : State) : s.passTime.pending =
    allPins.flatMap (State.pinCommands { s with now := s.now + 1 }) ++ s.passTime.dueCommands := rfl

/-- The commands of a pin that delivers a change. -/
theorem mem_pinCommands (s : State) (p : PinId) (c : Instr) : c ∈ s.pinCommands p ↔
    s.sampling = true ∧ PinFn.isInput (s.cfg.pins[p]).fn = true ∧
      pinActive s.cfg.pins[p] s.fpr.pins[p] ≠ (s.fpr.pins[p]).delivered ∧
      (((s.cfg.pins[p]).filtered = false ∧ (s.cfg.pins[p]).fn ≠ .key) ∨
        ∃ k, (s.fpr.pins[p]).candidate = some k ∧ k + 20 ≤ s.now) ∧
      c ∈ changeCommands s p (!(s.fpr.pins[p]).delivered) := by
  unfold State.pinCommands State.pinRead
  dsimp only
  by_cases delivers : pinDelivers s.cfg.pins[p] s.now s.fpr.pins[p] = true
  · obtain ⟨new, span⟩ := (pinDelivers_iff _ _ _).1 delivers
    rw [delivers, Bool.eq_not_of_ne new, Bool.and_true]
    simp only [List.mem_ite_nil_right, Bool.and_eq_true, and_assoc, span, ne_eq, Bool.not_eq_self, not_false_eq_true,
      true_and]
  · rw [if_neg fun both => delivers (Bool.and_eq_true_iff.1 both).2]
    exact ⟨nofun, fun ⟨_, _, new, span, _⟩ => absurd ((pinDelivers_iff _ _ _).2 ⟨new, span⟩) delivers⟩

theorem mem_passTime (s : State) (c : Instr) : c ∈ s.passTime.pending ↔ DueNow s.passTime c ∨
    ∃ p : PinId, s.sampling = true ∧ PinFn.isInput (s.cfg.pins[p]).fn = true ∧
      pinActive s.cfg.pins[p] s.fpr.pins[p] ≠ (s.fpr.pins[p]).delivered ∧
      (((s.cfg.pins[p]).filtered = false ∧ (s.cfg.pins[p]).fn ≠ .key) ∨
        ∃ k, (s.fpr.pins[p]).candidate = some k ∧ k + 20 ≤ s.now + 1) ∧
      c ∈ changeCommands s p (!(s.fpr.pins[p]).delivered) := by
  rw [passTime_pending, List.mem_append, List.mem_flatMap, or_comm, mem_dueCommands]
  refine or_congr_right (exists_congr fun p => ?_)
  rw [mem_pinCommands, changeCommands_congr (s := s) (t := { s with now := s.now + 1 }) rfl rfl]
  exact and_iff_right (mem_allPins p)

/-- Settles O2: the millisecond is `State.passTime`, whose pins are each sampled once and whose queue is the pins'
commands and the due ones. -/
theorem idleStepSamplesThePins : Obligations.IdleStepSamplesThePins := by
  refine ⟨fun s empty => ⟨fun room => ?_, fun full => idle_stops full empty⟩, fun s p empty room samples input => ?_,
    fun s empty room => ⟨s.passTime, idle_passes room empty, mem_passTime s⟩⟩
  · exact ⟨s.passTime, idle_passes room empty, passTime_eq s, passTime_blinkLit s, passTime_level s⟩
  · have read : s.pinRead p = true := Bool.and_eq_true_iff.2 ⟨samples, input⟩
    have pin := passTime_pin s p
    rw [if_pos read] at pin
    refine ⟨s.passTime, idle_passes room empty, fun same => ?_, fun new => ⟨fun ⟨filtered, young⟩ => ?_,
      fun span => ⟨fun c made => ?_, fun silent => ?_⟩⟩⟩
    · rw [pin]
      exact sampledAt_same same
    · rw [pin]
      exact sampledAt_waits new filtered young
    · exact (mem_passTime s c).2 (.inr ⟨p, samples, input, new, span, made⟩)
    · rw [pin]
      exact sampledAt_delivers ((pinDelivers_iff _ _ _).2 ⟨new, span⟩) silent

end Sys2Proof.Safety
end

section
/-! PROOFS. Bytes, words and the CRC: what is read where something was written (R163). -/

namespace Sys2Proof.Safety

open Sys2Proof Sys2Proof.Machine

/-! ### Bytes and words -/

theorem byteOf_toNat {n : Nat} (fits : n < 256) : (byteOf n).toNat = n := by
  unfold byteOf
  rw [BitVec.toNat_ofNat]
  exact Nat.mod_eq_of_lt fits

theorem byteAt_skip {pre : List Byte} {k : Nat} (length : pre.length = k) (l : List Byte) (i : Nat) :
    byteAt (pre ++ l) (k + i) = byteAt l i := by
  subst length
  unfold byteAt
  simp [List.getD_eq_getElem?_getD, List.getElem?_append_right]

theorem wordAt_skip {pre : List Byte} {k : Nat} (length : pre.length = k) (l : List Byte) (i : Nat) :
    wordAt (pre ++ l) (k + i) = wordAt l i := by
  unfold wordAt
  rw [Nat.add_assoc, byteAt_skip length, byteAt_skip length]

@[simp] theorem word_length (n : Nat) : (word n).length = 2 := rfl

/-- A two-byte field reads back, whatever follows it. -/
theorem wordAt_word {n : Nat} (fits : n < 65536) (l : List Byte) : wordAt (word n ++ l) 0 = n := by
  show (byteOf (n / 256)).toNat * 256 + (byteOf n).toNat = n
  rw [byteOf_toNat (by omega)]
  unfold byteOf
  rw [BitVec.toNat_ofNat]
  omega

theorem byteAt_byteOf {n : Nat} (fits : n < 256) (l : List Byte) : byteAt (byteOf n :: l) 0 = n := byteOf_toNat fits

/-! ### Entries of equal length -/

theorem flatMap_length {α β : Type} {write : α → List β} {n : Nat} (width : ∀ x, (write x).length = n) (l : List α) :
    (l.flatMap write).length = n * l.length := by
  induction l with
  | nil => rfl
  | cons x l ih =>
    rw [List.flatMap_cons, List.length_append, width, ih, List.length_cons, Nat.mul_succ, Nat.add_comm]

/-- Entry j of a row of entries starts n × j bytes on. -/
theorem row_split {α : Type} {write : α → List Byte} {n : Nat} (width : ∀ x, (write x).length = n) (l : List α) (j : Nat)
    (within : j < l.length) : ∃ pre post, l.flatMap write = pre ++ (write l[j] ++ post) ∧ pre.length = n * j := by
  refine ⟨(l.take j).flatMap write, (l.drop (j + 1)).flatMap write, ?_, ?_⟩
  · rw [← List.flatMap_cons, ← List.flatMap_append, List.cons_getElem_drop_succ, List.take_append_drop]
  · rw [flatMap_length width, List.length_take, Nat.min_eq_left (Nat.le_of_lt within)]

theorem wordAt_row {α : Type} {value : α → Nat} (l : List α) (rest : List Byte) {j : Nat} (within : j < l.length)
    (fits : value l[j] < 65536) : wordAt (l.flatMap (fun x => word (value x)) ++ rest) (2 * j) = value l[j] := by
  obtain ⟨pre, post, split, length⟩ := row_split (write := fun x => word (value x)) (n := 2) (fun _ => rfl) l j within
  rw [split, List.append_assoc, List.append_assoc]
  exact (wordAt_skip length _ 0).trans (wordAt_word fits _)

/-! ### The CRC -/

theorem crcBit_lt {c : Nat} (fits : c < 65536) : crcBit c < 65536 := by
  unfold crcBit
  split
  · omega
  · exact Nat.xor_lt_two_pow (n := 16) (Nat.mod_lt _ (by decide)) (by decide)

theorem crcBits_lt (k : Nat) {c : Nat} (fits : c < 65536) : crcBits k c < 65536 := by
  induction k generalizing c with
  | zero => exact fits
  | succ k ih => exact ih (crcBit_lt fits)

theorem crcByte_lt {c : Nat} (fits : c < 65536) (b : Byte) : crcByte c b < 65536 :=
  crcBits_lt 8 (Nat.xor_lt_two_pow (n := 16) fits (by have := b.isLt; omega))

theorem crcOver_cons (b : Byte) (l : List Byte) (c : Nat) : crcOver (b :: l) c = crcOver l (crcByte c b) := by
  rw [crcOver]
  cases crcByte c b <;> rfl

theorem crcOver_lt (l : List Byte) {c : Nat} (fits : c < 65536) : crcOver l c < 65536 := by
  induction l generalizing c with
  | nil => exact fits
  | cons b l ih =>
    rw [crcOver_cons]
    exact ih (crcByte_lt fits b)

theorem crc16_lt (l : List Byte) : crc16 l < 65536 := crcOver_lt l (by decide)

/-- A list with its own CRC after it is good. -/
theorem crcGood_append (l : List Byte) : crcGood (l ++ word (crc16 l)) = true := by
  have length : (l ++ word (crc16 l)).length - 2 = l.length := by simp
  have read := (wordAt_skip (rfl : l.length = l.length) (word (crc16 l)) 0).trans
    ((congrArg (wordAt · 0) (List.append_nil _).symm).trans (wordAt_word (crc16_lt l) []))
  unfold crcGood
  rw [length, List.take_left]
  exact decide_eq_true read.symm

end Sys2Proof.Safety
end

section
/-! PROOFS. The bytes of a frame read back field by field (R163, Tables 8-4 to 8-8). -/

namespace Sys2Proof.Safety

open Sys2Proof Sys2Proof.Machine

variable {a : Announce}

/-! ### Codes -/

theorem bit_le (b : Bool) : bit b ≤ 1 := by cases b <;> decide

theorem bit_eq_one (b : Bool) : decide (bit b = 1) = b := by cases b <;> rfl

theorem periodOf_code (p : Period) : periodOf (periodCode p) = p := by cases p <;> rfl

theorem periodCode_lt (p : Period) : periodCode p < 3 := by cases p <;> decide

theorem announcedOf_code (x : AnnouncedStatus) : announcedOf x.code = x := by cases x <;> rfl

theorem announcedStatus_code_lt (x : AnnouncedStatus) : x.code < 4 := by cases x <;> decide

theorem severityOf_code (x : Severity) : severityOf x.code = x := by cases x <;> rfl

theorem severity_code_lt (x : Severity) : x.code < 4 := by cases x <;> decide

theorem moverKindOf_code (x : MoverKind) : moverKindOf (moverKindCode x) = x := by cases x <;> rfl

theorem moverKindCode_lt (x : MoverKind) : moverKindCode x < 3 := by cases x <;> decide

theorem phaseOf_code (x : MoverPhase) : Machine.phaseOf x.code = x := by cases x <;> rfl

theorem moverPhase_code_lt (x : MoverPhase) : x.code < 8 := by cases x <;> decide

theorem summaryOf_code (x : Summary) : summaryOf x.code = x := by cases x <;> rfl

theorem summary_code_lt (x : Summary) : x.code < 4 := by cases x <;> decide

theorem moverOf_val (m : MoverId) : moverOf m.val = m := by revert m; decide

theorem motionOf_code (x : Motion) : motionOf x.code = x := by cases x <;> rfl

theorem motion_code_le (x : Motion) : x.code ≤ 3 := by cases x <;> decide

theorem stationNumber_iff {n : Nat} : stationNumber n = true ↔ 1 ≤ n ∧ n ≤ 48 := by
  unfold stationNumber
  rw [Bool.and_eq_true, decide_eq_true_eq, decide_eq_true_eq]

/-! ### Mover and claim entries (Tables 8-7, 8-8) -/

theorem readMover_skip {pre : List Byte} {k : Nat} (length : pre.length = k) (l : List Byte) (i : Nat) :
    readMover (pre ++ l) (k + i) = readMover l i := by
  unfold readMover
  rw [Nat.add_assoc, Nat.add_assoc, byteAt_skip length, wordAt_skip length, byteAt_skip length]

theorem readClaim_skip {pre : List Byte} {k : Nat} (length : pre.length = k) (l : List Byte) (i : Nat) :
    readClaim (pre ++ l) (k + i) = readClaim l i := by
  unfold readClaim
  rw [Nat.add_assoc, byteAt_skip length, wordAt_skip length]

theorem byteAt_writeMover (x : MoverStatus) (rest : List Byte) : byteAt (writeMover x ++ rest) 0 =
    x.index.val * 128 + moverKindCode x.kind * 32 + x.phase.code * 4 + x.summary.code := by
  have index := x.index.isLt
  have kind := moverKindCode_lt x.kind
  have phase := moverPhase_code_lt x.phase
  have summary := summary_code_lt x.summary
  exact byteAt_byteOf (by omega) _

theorem readMover_writeMover {x : MoverStatus} (wf : x.wf = true) (rest : List Byte) :
    readMover (writeMover x ++ rest) 0 = x := by
  obtain ⟨detail, refusal⟩ := Bool.and_eq_true_iff.1 wf
  have index := x.index.isLt
  have kind := moverKindCode_lt x.kind
  have phase := moverPhase_code_lt x.phase
  have summary := summary_code_lt x.summary
  have details : wordAt (writeMover x ++ rest) 1 = x.detail :=
    (wordAt_skip (pre := [_]) (k := 1) rfl (word x.detail ++ ([byteOf x.refusal] ++ rest)) 0).trans
      (wordAt_word (of_decide_eq_true detail) _)
  have code : byteAt (writeMover x ++ rest) 3 = x.refusal := byteOf_toNat (of_decide_eq_true refusal)
  have first := byteAt_writeMover x rest
  have indexed : byteAt (writeMover x ++ rest) 0 / 128 = x.index.val := by omega
  have kinds : byteAt (writeMover x ++ rest) 0 / 32 % 4 = moverKindCode x.kind := by omega
  have phases : byteAt (writeMover x ++ rest) 0 / 4 % 8 = x.phase.code := by omega
  have summaries : byteAt (writeMover x ++ rest) 0 % 4 = x.summary.code := by omega
  unfold readMover
  rw [details, code, indexed, kinds, phases, summaries, moverOf_val, moverKindOf_code, phaseOf_code, summaryOf_code]

theorem readClaim_writeClaim {x : ClaimStatus} (wf : claimInRange x = true) (rest : List Byte) :
    readClaim (writeClaim x ++ rest) 0 = x := by
  have held := bit_le x.held
  have key : x.key ≤ 97 := of_decide_eq_true (Bool.and_eq_true_iff.1 wf).2
  have zones : wordAt (writeClaim x ++ rest) 0 = x.zones.toNat := wordAt_word x.zones.isLt _
  have last : byteAt (writeClaim x ++ rest) 2 = bit x.held * 128 + x.key := byteOf_toNat (by omega)
  have keys : byteAt (writeClaim x ++ rest) 2 % 128 = x.key := by omega
  have holds : decide (128 ≤ byteAt (writeClaim x ++ rest) 2) = x.held := by
    rw [last]
    cases x.held
    · exact decide_eq_false (by simp only [bit]; simp; omega)
    · exact decide_eq_true (by simp only [bit]; simp)
  unfold readClaim
  rw [zones, keys, holds, BitVec.ofNat_toNat, BitVec.setWidth_eq]

/-! ### The parts of an ANNOUNCE body (Table 8-6) -/

/-- The flags byte. -/
def announceFlags (a : Announce) : Nat :=
  periodCode a.period * 64 + bit a.profile * 32 + bit a.starting * 16 + bit a.standby * 8 + bit a.drained * 4 +
    bit a.island * 2 + bit a.listenOnly

/-- The counts of entries with the island cap. -/
def announceCounts (a : Announce) : Nat := a.movers.length * 16384 + a.claims.length * 4096 + a.islandCap

/-- The entries at the end, from byte 49 on. -/
def announceEntries (a : Announce) : List Byte := a.movers.flatMap writeMover ++ a.claims.flatMap writeClaim

/-- The body from byte 43 on. -/
def announceRest (a : Announce) : List Byte :=
  word a.occupied.toNat ++ (byteOf (a.severity.code * 64 + a.leadKind) :: byteOf a.firstKind ::
    (word a.firstTick ++ announceEntries a))

theorem writeAnnounce_eq (a : Announce) : writeAnnounce a = (byteOf (announceFlags a) :: word (announceCounts a)) ++
    (a.demand.toList.flatMap word ++ (a.channels.toList.flatMap writeChannel ++ announceRest a)) := by
  unfold writeAnnounce announceRest announceEntries announceFlags announceCounts
  simp only [List.append_assoc, List.cons_append, List.nil_append]

theorem demands_length (a : Announce) : (a.demand.toList.flatMap word).length = 16 :=
  (flatMap_length (n := 2) word_length _).trans (by rw [Vector.length_toList])

theorem channels_length (a : Announce) : (a.channels.toList.flatMap writeChannel).length = 24 :=
  (flatMap_length (n := 2) (fun _ => rfl) _).trans (by rw [Vector.length_toList])

/-- The 43 bytes before the rest. -/
theorem writeAnnounce_rest (a : Announce) :
    ∃ pre, writeAnnounce a = pre ++ announceRest a ∧ pre.length = 43 := by
  refine ⟨_, (writeAnnounce_eq a).trans ((congrArg _ (List.append_assoc _ _ _).symm).trans
    (List.append_assoc _ _ _).symm), ?_⟩
  rw [List.length_append, List.length_append, demands_length, channels_length]
  rfl

theorem writeAnnounce_entries (a : Announce) :
    ∃ pre, writeAnnounce a = pre ++ announceEntries a ∧ pre.length = 49 := by
  obtain ⟨pre, split, length⟩ := writeAnnounce_rest a
  refine ⟨pre ++ (word a.occupied.toNat ++ (byteOf (a.severity.code * 64 + a.leadKind) :: byteOf a.firstKind ::
    word a.firstTick)), ?_, ?_⟩
  · rw [split, announceRest, List.append_assoc, List.append_assoc]
    rfl
  · rw [List.length_append, length]
    rfl

/-! ### Fields -/

/-- An ANNOUNCE within its ranges, field by field. -/
structure AnnounceWf (a : Announce) : Prop where
  cap : a.islandCap ≤ 4095
  demand : ∀ k : Fin 8, a.demand[k] ≤ 4095
  level : ∀ c : ChannelId, (a.channels[c]).level ≤ 256
  lead : a.leadKind < 64
  firstKind : a.firstKind < 256
  firstTick : a.firstTick < 65536
  movers : a.movers.length ≤ 2
  claims : a.claims.length ≤ 2
  mover : ∀ x ∈ a.movers, x.wf = true
  distinct : sameIndex a.movers = false
  claim : ∀ x ∈ a.claims, claimInRange x = true

theorem announceWf_of (wf : a.wf = true) : AnnounceWf a := by
  unfold Announce.wf at wf
  simp only [Bool.and_eq_true, decide_eq_true_eq, List.all_eq_true, Bool.not_eq_true'] at wf
  obtain ⟨⟨⟨⟨⟨⟨⟨⟨⟨⟨cap, demand⟩, level⟩, lead⟩, firstKind⟩, firstTick⟩, movers⟩, claims⟩, mover⟩, distinct⟩, claim⟩ := wf
  exact ⟨cap, fun k => demand _ (Vector.mem_toList_iff.2 (Vector.getElem_mem k.isLt)),
    fun c => level _ (Vector.mem_toList_iff.2 (Vector.getElem_mem c.isLt)), lead, firstKind, firstTick, movers, claims,
    mover, distinct, claim⟩

theorem byteAt_flags (a : Announce) : byteAt (writeAnnounce a) 0 = announceFlags a := by
  have period := periodCode_lt a.period
  have bits := And.intro (bit_le a.profile) (And.intro (bit_le a.starting) (And.intro (bit_le a.standby)
    (And.intro (bit_le a.drained) (And.intro (bit_le a.island) (bit_le a.listenOnly)))))
  rw [writeAnnounce_eq]
  refine byteAt_byteOf ?_ _
  unfold announceFlags
  omega

theorem wordAt_counts (wf : AnnounceWf a) : wordAt (writeAnnounce a) 1 = announceCounts a := by
  have cap := wf.cap
  have movers := wf.movers
  have claims := wf.claims
  rw [writeAnnounce_eq]
  refine (wordAt_skip (pre := [_]) (k := 1) rfl (word (announceCounts a) ++ _) 0).trans (wordAt_word ?_ _)
  unfold announceCounts
  omega

theorem wordAt_demand (wf : AnnounceWf a) (k : Fin 8) : wordAt (writeAnnounce a) (3 + 2 * k.val) = a.demand[k] := by
  have within : k.val < a.demand.toList.length := by rw [Vector.length_toList]; exact k.isLt
  have fits : a.demand.toList[k.val] < 65536 := by
    rw [Vector.getElem_toList]
    exact Nat.lt_of_le_of_lt (wf.demand k) (by decide)
  rw [writeAnnounce_eq, wordAt_skip (k := 3) rfl]
  exact (wordAt_row (value := id) a.demand.toList _ within fits).trans (Vector.getElem_toList _)

theorem wordAt_channel (wf : AnnounceWf a) (c : ChannelId) : wordAt (writeAnnounce a) (19 + 2 * c.val) =
    (a.channels[c]).status.code * 16384 + (a.channels[c]).level := by
  have within : c.val < a.channels.toList.length := by rw [Vector.length_toList]; exact c.isLt
  have element : a.channels.toList[c.val] = a.channels[c] := Vector.getElem_toList _
  have level := wf.level c
  have code := announcedStatus_code_lt (a.channels[c]).status
  rw [writeAnnounce_eq, show 19 + 2 * c.val = 3 + (16 + 2 * c.val) by omega, wordAt_skip (k := 3) rfl,
    wordAt_skip (demands_length a)]
  refine (wordAt_row (value := fun x : ChannelStatus => x.status.code * 16384 + x.level) a.channels.toList _ within
    ?_).trans ?_
  · rw [element]
    omega
  · rw [element]

theorem readChannel_announce (wf : AnnounceWf a) (c : ChannelId) :
    readChannel (writeAnnounce a) c.val = a.channels[c] := by
  have level := wf.level c
  have code := announcedStatus_code_lt (a.channels[c]).status
  have field := wordAt_channel wf c
  have levels : wordAt (writeAnnounce a) (19 + 2 * c.val) % 512 = (a.channels[c]).level := by omega
  have codes : wordAt (writeAnnounce a) (19 + 2 * c.val) / 16384 = (a.channels[c]).status.code := by omega
  unfold readChannel
  rw [levels, codes, announcedOf_code]

theorem wordAt_occupied (a : Announce) : wordAt (writeAnnounce a) 43 = a.occupied.toNat := by
  obtain ⟨pre, split, length⟩ := writeAnnounce_rest a
  rw [split]
  exact (wordAt_skip length _ 0).trans (wordAt_word a.occupied.isLt _)

theorem byteAt_lead (wf : AnnounceWf a) : byteAt (writeAnnounce a) 45 = a.severity.code * 64 + a.leadKind := by
  obtain ⟨pre, split, length⟩ := writeAnnounce_rest a
  have severity := severity_code_lt a.severity
  have lead := wf.lead
  rw [split]
  exact (byteAt_skip length _ 2).trans (byteOf_toNat (by omega))

theorem byteAt_firstKind (wf : AnnounceWf a) : byteAt (writeAnnounce a) 46 = a.firstKind := by
  obtain ⟨pre, split, length⟩ := writeAnnounce_rest a
  rw [split]
  exact (byteAt_skip length _ 3).trans (byteOf_toNat wf.firstKind)

theorem wordAt_firstTick (wf : AnnounceWf a) : wordAt (writeAnnounce a) 47 = a.firstTick := by
  obtain ⟨pre, split, length⟩ := writeAnnounce_rest a
  rw [split]
  exact (wordAt_skip length _ 4).trans (wordAt_word wf.firstTick (announceEntries a))

theorem moverEntries_announce (wf : AnnounceWf a) : moverEntries (writeAnnounce a) = a.movers.length := by
  have cap := wf.cap
  have claims := wf.claims
  unfold moverEntries
  rw [wordAt_counts wf, announceCounts]
  omega

theorem claimEntries_announce (wf : AnnounceWf a) : claimEntries (writeAnnounce a) = a.claims.length := by
  have cap := wf.cap
  have claims := wf.claims
  unfold claimEntries
  rw [wordAt_counts wf, announceCounts]
  omega

theorem islandCap_announce (wf : AnnounceWf a) : wordAt (writeAnnounce a) 1 % 4096 = a.islandCap := by
  have cap := wf.cap
  rw [wordAt_counts wf, announceCounts]
  omega

theorem movers_length (a : Announce) : (a.movers.flatMap writeMover).length = 4 * a.movers.length :=
  flatMap_length (n := 4) (write := writeMover) (fun _ => rfl) _

theorem claims_length (a : Announce) : (a.claims.flatMap writeClaim).length = 3 * a.claims.length :=
  flatMap_length (n := 3) (write := writeClaim) (fun _ => rfl) _

/-- A list read entry by entry, where each entry reads as its own. -/
theorem map_range_eq {α : Type} {read : Nat → α} {l : List α} (each : ∀ j (within : j < l.length), read j = l[j]) :
    (List.range l.length).map read = l := by
  refine List.ext_getElem (by simp) fun j _ within => ?_
  rw [List.getElem_map, List.getElem_range, each j within]

theorem readMover_announce (wf : AnnounceWf a) (j : Nat) (within : j < a.movers.length) :
    readMover (writeAnnounce a) (49 + 4 * j) = a.movers[j] := by
  obtain ⟨pre, split, length⟩ := writeAnnounce_entries a
  obtain ⟨before, after, row, place⟩ := row_split (write := writeMover) (n := 4) (fun _ => rfl) a.movers j within
  rw [split, announceEntries, row, readMover_skip length, List.append_assoc, List.append_assoc]
  exact (readMover_skip place _ 0).trans (readMover_writeMover (wf.mover _ (List.getElem_mem within)) _)

theorem readClaim_announce (wf : AnnounceWf a) (j : Nat) (within : j < a.claims.length) :
    readClaim (writeAnnounce a) (49 + 4 * a.movers.length + 3 * j) = a.claims[j] := by
  obtain ⟨pre, split, length⟩ := writeAnnounce_entries a
  obtain ⟨before, after, row, place⟩ := row_split (write := writeClaim) (n := 3) (fun _ => rfl) a.claims j within
  rw [split, announceEntries, row, Nat.add_assoc, readClaim_skip length, readClaim_skip (movers_length a)]
  exact (readClaim_skip place _ 0).trans (readClaim_writeClaim (wf.claim _ (List.getElem_mem within)) _)

theorem readMovers_announce (wf : AnnounceWf a) : readMovers (writeAnnounce a) = a.movers := by
  unfold readMovers
  rw [moverEntries_announce wf]
  exact map_range_eq (readMover_announce wf)

theorem readClaims_announce (wf : AnnounceWf a) : readClaims (writeAnnounce a) = a.claims := by
  unfold readClaims
  rw [moverEntries_announce wf, claimEntries_announce wf]
  exact map_range_eq (readClaim_announce wf)

theorem writeAnnounce_length (a : Announce) :
    (writeAnnounce a).length = 49 + 4 * a.movers.length + 3 * a.claims.length := by
  obtain ⟨pre, split, length⟩ := writeAnnounce_entries a
  rw [split, List.length_append, length, announceEntries, List.length_append, movers_length, claims_length, Nat.add_assoc]

/-! ### The body as a whole -/

theorem demand_read (wf : AnnounceWf a) : #v[wordAt (writeAnnounce a) 3, wordAt (writeAnnounce a) 5,
    wordAt (writeAnnounce a) 7, wordAt (writeAnnounce a) 9, wordAt (writeAnnounce a) 11, wordAt (writeAnnounce a) 13,
    wordAt (writeAnnounce a) 15, wordAt (writeAnnounce a) 17] = a.demand := by
  have read := wordAt_demand wf
  refine Vector.ext fun k within => ?_
  have field := read ⟨k, within⟩
  interval_cases k <;> exact field

theorem channels_read (wf : AnnounceWf a) : #v[readChannel (writeAnnounce a) 0, readChannel (writeAnnounce a) 1,
    readChannel (writeAnnounce a) 2, readChannel (writeAnnounce a) 3, readChannel (writeAnnounce a) 4,
    readChannel (writeAnnounce a) 5, readChannel (writeAnnounce a) 6, readChannel (writeAnnounce a) 7,
    readChannel (writeAnnounce a) 8, readChannel (writeAnnounce a) 9, readChannel (writeAnnounce a) 10,
    readChannel (writeAnnounce a) 11] = a.channels := by
  have read := readChannel_announce wf
  refine Vector.ext fun c within => ?_
  have field := read ⟨c, within⟩
  interval_cases c <;> exact field

/-- Each flag stands in its own bit of byte 0. -/
theorem announceFlags_bits (a : Announce) : announceFlags a / 64 = periodCode a.period ∧
    announceFlags a / 32 % 2 = bit a.profile ∧ announceFlags a / 16 % 2 = bit a.starting ∧
    announceFlags a / 8 % 2 = bit a.standby ∧ announceFlags a / 4 % 2 = bit a.drained ∧
    announceFlags a / 2 % 2 = bit a.island ∧ announceFlags a % 2 = bit a.listenOnly := by
  have profile := bit_le a.profile
  have starting := bit_le a.starting
  have standby := bit_le a.standby
  have drained := bit_le a.drained
  have island := bit_le a.island
  have listenOnly := bit_le a.listenOnly
  unfold announceFlags
  refine ⟨?_, ?_, ?_, ?_, ?_, ?_, ?_⟩ <;> omega

theorem readAnnounce_writeAnnounce (wf : AnnounceWf a) : readAnnounce (writeAnnounce a) = a := by
  obtain ⟨period, profile, starting, standby, drained, island, listenOnly⟩ := announceFlags_bits a
  have lead := wf.lead
  have severity : byteAt (writeAnnounce a) 45 / 64 = a.severity.code := by
    rw [byteAt_lead wf]
    omega
  have leads : byteAt (writeAnnounce a) 45 % 64 = a.leadKind := by
    rw [byteAt_lead wf]
    omega
  unfold readAnnounce
  rw [byteAt_flags, period, profile, starting, standby, drained, island, listenOnly, islandCap_announce wf,
    demand_read wf, channels_read wf, wordAt_occupied, severity, leads, byteAt_firstKind wf, wordAt_firstTick wf,
    readMovers_announce wf, readClaims_announce wf, periodOf_code, severityOf_code, BitVec.ofNat_toNat,
    BitVec.setWidth_eq]
  simp only [bit_eq_one]

theorem moverKind_announce (a : Announce) {j : Nat} (within : j < a.movers.length) :
    byteAt (writeAnnounce a) (49 + 4 * j) / 32 % 4 ≠ 3 := by
  obtain ⟨pre, split, length⟩ := writeAnnounce_entries a
  obtain ⟨before, after, row, place⟩ := row_split (write := writeMover) (n := 4) (fun _ => rfl) a.movers j within
  have byte : byteAt (writeAnnounce a) (49 + 4 * j) =
      byteAt (writeMover a.movers[j] ++ (after ++ a.claims.flatMap writeClaim)) 0 := by
    rw [split, announceEntries, row, byteAt_skip length, List.append_assoc, List.append_assoc]
    exact byteAt_skip place _ 0
  generalize a.movers[j] = x at byte
  have kind := moverKindCode_lt x.kind
  have phase := moverPhase_code_lt x.phase
  have summary := summary_code_lt x.summary
  rw [byte, byteAt_writeMover]
  omega

theorem announceOk_writeAnnounce (wf : AnnounceWf a) : announceOk (writeAnnounce a) = true := by
  have period : byteAt (writeAnnounce a) 0 / 64 ≠ 3 := by
    rw [byteAt_flags, (announceFlags_bits a).1]
    exact Nat.ne_of_lt (periodCode_lt a.period)
  have demands : ∀ k ∈ List.range 8, wordAt (writeAnnounce a) (3 + 2 * k) ≤ 4095 := fun k within =>
    le_of_eq_of_le (wordAt_demand wf ⟨k, List.mem_range.1 within⟩) (wf.demand _)
  have levels : ∀ c ∈ List.range 12, wordAt (writeAnnounce a) (19 + 2 * c) % 512 ≤ 256 := fun c within =>
    le_of_eq_of_le (congrArg ChannelStatus.level (readChannel_announce wf ⟨c, List.mem_range.1 within⟩)) (wf.level _)
  unfold announceOk
  simp only [moverEntries_announce wf, claimEntries_announce wf, writeAnnounce_length, readMovers_announce wf,
    readClaims_announce wf, Bool.and_eq_true, decide_eq_true_eq, List.all_eq_true, Bool.not_eq_true']
  exact ⟨⟨⟨⟨⟨⟨⟨⟨wf.movers, wf.claims⟩, trivial⟩, period⟩, demands⟩, levels⟩,
    fun j within => moverKind_announce a (List.mem_range.1 within)⟩, wf.distinct⟩, wf.claim⟩

theorem parseAnnounce_writeAnnounce (wf : AnnounceWf a) : parseAnnounce (writeAnnounce a) = some a := by
  unfold parseAnnounce
  rw [if_pos (announceOk_writeAnnounce wf), readAnnounce_writeAnnounce wf]

/-! ### Whole frames (Table 8-4) -/

theorem frameBody_length_lt {f : Frame} (wf : f.wf = true) : f.body.length < 256 := by
  cases f with
  | announce src a =>
    have within := announceWf_of (Bool.and_eq_true_iff.1 wf).2
    have movers := within.movers
    have claims := within.claims
    show (writeAnnounce a).length < 256
    rw [writeAnnounce_length]
    omega
  | drive | set | scene | forget => exact Nat.lt_of_sub_eq_succ rfl

theorem encodeFrame_length (f : Frame) : (encodeFrame f).length = f.body.length + 5 := by
  unfold encodeFrame Frame.covered
  simp

theorem source_of_wf {f : Frame} (wf : f.wf = true) : stationNumber f.source = true := by
  cases f with
  | drive | announce | scene | forget => exact (Bool.and_eq_true_iff.1 wf).1
  | set =>
    unfold Frame.wf at wf
    simp only [Bool.and_eq_true] at wf
    exact wf.1.1.1

/-- The header of a frame. -/
theorem encodeFrame_header {f : Frame} (wf : f.wf = true) : byteAt (encodeFrame f) 0 = f.kindCode ∧
    byteAt (encodeFrame f) 1 = f.source ∧ byteAt (encodeFrame f) 2 = f.body.length := by
  have source := stationNumber_iff.1 (source_of_wf wf)
  have kind : f.kindCode < 256 := by cases f <;> exact Nat.lt_of_sub_eq_succ rfl
  exact ⟨byteOf_toNat kind, byteOf_toNat (by omega), byteOf_toNat (frameBody_length_lt wf)⟩

theorem frameBody_encodeFrame {f : Frame} (wf : f.wf = true) : frameBody (encodeFrame f) = f.body := by
  unfold frameBody
  rw [(encodeFrame_header wf).2.2]
  exact List.take_left

theorem frameWhole_encodeFrame {f : Frame} (wf : f.wf = true) : frameWhole (encodeFrame f) = true := by
  have body : ((encodeFrame f).getD 2 0#8).toNat = f.body.length := (encodeFrame_header wf).2.2
  unfold frameWhole
  rw [body, encodeFrame_length, Nat.add_comm]
  exact decide_eq_true rfl

theorem parseDrive_body {src target : Nat} {mover : MoverId} {motion : Motion} (station : stationNumber target = true) :
    parseDrive src (Frame.drive src target mover motion).body = some (.drive src target mover motion) := by
  have mover_le := mover.isLt
  have motion_le := motion_code_le motion
  have targets : byteAt (Frame.drive src target mover motion).body 0 = target :=
    byteOf_toNat (by have := stationNumber_iff.1 station; omega)
  have movers : byteAt (Frame.drive src target mover motion).body 1 = mover.val := byteOf_toNat (by omega)
  have motions : byteAt (Frame.drive src target mover motion).body 2 = motion.code := byteOf_toNat (by omega)
  unfold parseDrive
  rw [targets, movers, motions, station, decide_eq_true (Nat.le_of_lt_succ mover_le), decide_eq_true motion_le,
    moverOf_val, motionOf_code]
  rfl

theorem parseSet_body {src target channel level : Nat} (station : stationNumber target = true) (byte : channel < 256)
    (fits : level < 65536) :
    parseSet src (Frame.set src target channel level).body = some (.set src target channel level) := by
  have targets : byteAt (Frame.set src target channel level).body 0 = target :=
    byteOf_toNat (by have := stationNumber_iff.1 station; omega)
  have channels : byteAt (Frame.set src target channel level).body 1 = channel := byteOf_toNat byte
  have levels : wordAt (Frame.set src target channel level).body 2 = level := wordAt_word fits []
  unfold parseSet
  rw [targets, channels, levels, station]
  rfl

theorem parseScene_body {src number : Nat} (within : number ≤ 31) :
    parseScene src (Frame.scene src number).body = some (.scene src number) := by
  have numbers : byteAt (Frame.scene src number).body 0 = number := byteOf_toNat (by omega)
  unfold parseScene
  rw [numbers, decide_eq_true within]
  rfl

theorem parseForget_body {src target : Nat} (station : stationNumber target = true) :
    parseForget src (Frame.forget src target).body = some (.forget src target) := by
  have targets : byteAt (Frame.forget src target).body 0 = target :=
    byteOf_toNat (by have := stationNumber_iff.1 station; omega)
  unfold parseForget
  rw [targets, station]
  rfl

/-- The fields of each kind of frame stand in its body. -/
theorem parseFrame_encodeFrame {f : Frame} (wf : f.wf = true) : parseFrame (encodeFrame f) = some f := by
  obtain ⟨kind, source, -⟩ := encodeFrame_header wf
  have station := source_of_wf wf
  unfold parseFrame
  rw [kind, source, station, frameBody_encodeFrame wf, if_pos rfl]
  cases f with
  | drive src target mover motion => exact parseDrive_body (Bool.and_eq_true_iff.1 wf).2
  | announce src a =>
    show (parseAnnounce (writeAnnounce a)).map (Frame.announce src) = _
    rw [parseAnnounce_writeAnnounce (announceWf_of (Bool.and_eq_true_iff.1 wf).2)]
    rfl
  | set src target channel level =>
    unfold Frame.wf at wf
    simp only [Bool.and_eq_true, decide_eq_true_eq] at wf
    obtain ⟨⟨⟨-, target⟩, channel⟩, level⟩ := wf
    exact parseSet_body target channel level
  | scene src number => exact parseScene_body (of_decide_eq_true (Bool.and_eq_true_iff.1 wf).2)
  | forget src target => exact parseForget_body (Bool.and_eq_true_iff.1 wf).2

end Sys2Proof.Safety
end

section
/-! PROOFS. Frames on the pair: their symbols read back, and arbitration goes to the lower kind and source (O21). -/

namespace Sys2Proof.Safety

open Sys2Proof Sys2Proof.Machine

/-! ### A receiver of a frame (R149, R160) -/

theorem bitsValue_bitsOf (b : Byte) : bitsValue (bitsOf b) = b.toNat := by revert b; decide +kernel

theorem flatMap_bitsOf_length (l : List Byte) : (l.flatMap bitsOf).length = 8 * l.length :=
  flatMap_length bitsOf_length l

/-- Bits sent in a code, as the bit times of the pair. -/
def sentBits (symbol : Bool → Symbol) (bits : List Bool) : List BitTime := (bits.map symbol).map Symbol.halves

theorem sentBits_length (symbol : Bool → Symbol) (bits : List Bool) : (sentBits symbol bits).length = bits.length := by
  unfold sentBits
  rw [List.length_map, List.length_map]

/-- A frame on the pair: its arbitration field, its length byte and the rest. -/
theorem frame_bitTimes (kind source length : Byte) (rest : List Byte) :
    (arbitration (kind :: source :: length :: rest) ++ dataPart (kind :: source :: length :: rest)).map Symbol.halves =
      sentBits arbSymbol (bitsOf kind ++ bitsOf source) ++
        (sentBits dataSymbol (bitsOf length) ++ sentBits dataSymbol (rest.flatMap bitsOf)) := by
  show List.map _ ((([kind, source].flatMap bitsOf).map arbSymbol) ++
    (((length :: rest).flatMap bitsOf).map dataSymbol)) = _
  unfold sentBits
  simp only [List.flatMap_cons, List.flatMap_nil, List.append_nil, List.map_append, List.append_assoc]

/-- The symbols of a frame of whole length read back as its bytes. -/
theorem readFrame_sent {kind source length : Byte} {rest : List Byte} (whole : rest.length = length.toNat + 2) :
    readFrame ((arbitration (kind :: source :: length :: rest) ++ dataPart (kind :: source :: length :: rest)).map
      Symbol.halves) = some (kind :: source :: length :: rest) := by
  have field : readBits arbBit 16 (sentBits arbSymbol (bitsOf kind ++ bitsOf source) ++
      (sentBits dataSymbol (bitsOf length) ++ sentBits dataSymbol (rest.flatMap bitsOf))) =
      some (bitsOf kind ++ bitsOf source) := readBits_sent arbBit_arbSymbol (bitsOf kind ++ bitsOf source) _
  have len : readBits dataBit 8 (sentBits dataSymbol (bitsOf length) ++ sentBits dataSymbol (rest.flatMap bitsOf)) =
      some (bitsOf length) := readBits_sent dataBit_dataSymbol (bitsOf length) _
  have remains : readBits dataBit (8 * (length.toNat + 2)) (sentBits dataSymbol (rest.flatMap bitsOf)) =
      some (rest.flatMap bitsOf) := by
    have read := readBits_sent dataBit_dataSymbol (rest.flatMap bitsOf) []
    rwa [List.append_nil, flatMap_bitsOf_length, whole] at read
  have bytes : bytesOfBits (length.toNat + 5) (bitsOf kind ++ bitsOf source ++ bitsOf length ++ rest.flatMap bitsOf) =
      kind :: source :: length :: rest := by
    have read := bytesOfBits_bitsOf (kind :: source :: length :: rest)
    simp only [List.length_cons, whole, List.flatMap_cons] at read
    rw [List.append_assoc, List.append_assoc]
    exact read
  have first : (sentBits arbSymbol (bitsOf kind ++ bitsOf source)).length = 16 := sentBits_length _ _
  have second : (sentBits dataSymbol (bitsOf length)).length = 8 := sentBits_length _ _
  rw [frame_bitTimes]
  unfold readFrame
  rw [field, List.drop_left' first, len, ← List.drop_drop (i := 8) (j := 16), List.drop_left' first,
    List.drop_left' second]
  dsimp only
  rw [bitsValue_bitsOf, remains]
  exact congrArg some bytes

/-- A start symbol of one or two bit times and the symbols after it are the frame (R160). -/
theorem hearPair_sent {kind source length : Byte} {rest : List Byte} (whole : rest.length = length.toNat + 2)
    {span : Nat} (start : span = 1 ∨ span = 2) :
    hearPair span ((arbitration (kind :: source :: length :: rest) ++ dataPart (kind :: source :: length :: rest)).map
      Symbol.halves) = .whole (kind :: source :: length :: rest) := by
  have read := readFrame_sent (kind := kind) (source := source) whole
  have opens : ∃ b later, (arbitration (kind :: source :: length :: rest) ++
      dataPart (kind :: source :: length :: rest)).map Symbol.halves = b :: later ∧ b.first = true :=
    ⟨_, _, rfl, by cases kind.getLsbD 7 <;> rfl⟩
  obtain ⟨b, later, split, dominant⟩ := opens
  rw [split] at read ⊢
  unfold hearPair
  rw [if_pos start]
  dsimp only
  rw [if_neg (by rw [dominant]; nofun), read]

theorem hearPair_encodeFrame {f : Frame} (wf : f.wf = true) {span : Nat} (start : span = 1 ∨ span = 2) :
    hearPair span ((arbitration (encodeFrame f) ++ dataPart (encodeFrame f)).map Symbol.halves) =
      .whole (encodeFrame f) := by
  refine hearPair_sent (rest := f.body ++ word (crc16 f.covered)) ?_ start
  rw [byteOf_toNat (frameBody_length_lt wf), List.length_append, word_length]

/-! ### Arbitration (R155) -/

theorem bitsValue_cons (b : Bool) (l : List Bool) : bitsValue (b :: l) = bit b * 2 ^ l.length + bitsValue l := by
  have shifted (l : List Bool) (n : Nat) : l.foldl (fun n b => 2 * n + bit b) n = n * 2 ^ l.length + bitsValue l := by
    unfold bitsValue
    induction l generalizing n with
    | nil => simp
    | cons b l ih =>
      rw [List.foldl_cons, ih, List.foldl_cons, ih (2 * 0 + bit b), List.length_cons, Nat.pow_succ]
      ring
  unfold bitsValue
  rw [List.foldl_cons, shifted]
  simp [bitsValue]

theorem bitsValue_lt (l : List Bool) : bitsValue l < 2 ^ l.length := by
  induction l with
  | nil => decide
  | cons b l ih =>
    have least := bit_le b
    rw [bitsValue_cons, List.length_cons, Nat.pow_succ]
    have top : bit b * 2 ^ l.length ≤ 1 * 2 ^ l.length := Nat.mul_le_mul_right _ least
    omega

/-- Of two rows of bits of one length, the lower value has a 0 where it first differs from the higher. -/
theorem bits_differ : ∀ {l m : List Bool}, l.length = m.length → bitsValue l < bitsValue m →
    ∃ pre a b, l = pre ++ false :: a ∧ m = pre ++ true :: b
  | [], [], _, lower => absurd lower (Nat.lt_irrefl _)
  | x :: l, y :: m, length, lower => by
    have same : l.length = m.length := Nat.succ.inj length
    have below := bitsValue_lt l
    have under := bitsValue_lt m
    rw [bitsValue_cons, bitsValue_cons, same] at lower
    rw [same] at below
    cases x <;> cases y
    · obtain ⟨pre, a, b, first, second⟩ := bits_differ same (by simpa [bit] using lower)
      exact ⟨false :: pre, a, b, by rw [first]; rfl, by rw [second]; rfl⟩
    · exact ⟨[], l, m, rfl, rfl⟩
    · exact absurd lower (by simp only [bit]; simp; omega)
    · obtain ⟨pre, a, b, first, second⟩ := bits_differ same (by simpa [bit] using lower)
      exact ⟨true :: pre, a, b, by rw [first]; rfl, by rw [second]; rfl⟩

theorem bitsValue_append (l m : List Bool) : bitsValue (l ++ m) = bitsValue l * 2 ^ m.length + bitsValue m := by
  induction l with
  | nil => simp [bitsValue]
  | cons b l ih =>
    rw [List.cons_append, bitsValue_cons, ih, bitsValue_cons, List.length_append, Nat.pow_add]
    ring

/-- The bits of a frame's arbitration field. -/
def fieldBits (f : Frame) : List Bool := bitsOf (byteOf f.kindCode) ++ bitsOf (byteOf f.source)

theorem arbitration_encodeFrame (f : Frame) : arbitration (encodeFrame f) = (fieldBits f).map arbSymbol := by
  show ([byteOf f.kindCode, byteOf f.source].flatMap bitsOf).map arbSymbol = _
  unfold fieldBits
  simp only [List.flatMap_cons, List.flatMap_nil, List.append_nil]

theorem fieldBits_value {f : Frame} (wf : f.wf = true) : bitsValue (fieldBits f) = f.kindCode * 256 + f.source := by
  obtain ⟨kind, source, -⟩ := encodeFrame_header wf
  have kinds : (byteOf f.kindCode).toNat = f.kindCode := kind
  have sources : (byteOf f.source).toNat = f.source := source
  unfold fieldBits
  rw [bitsValue_append, bitsValue_bitsOf, bitsValue_bitsOf, kinds, sources, bitsOf_length, show 2 ^ 8 = 256 by decide]

theorem arbitration_lower {f g : Frame} (wf : f.wf = true) (other : g.wf = true)
    (lower : f.kindCode * 256 + f.source < g.kindCode * 256 + g.source) :
    ∃ pre a b, arbitration (encodeFrame f) = pre ++ .arb0 :: a ∧ arbitration (encodeFrame g) = pre ++ .arb1 :: b := by
  rw [← fieldBits_value wf, ← fieldBits_value other] at lower
  obtain ⟨pre, a, b, first, second⟩ := bits_differ (l := fieldBits f) (m := fieldBits g) rfl lower
  refine ⟨pre.map arbSymbol, a.map arbSymbol, b.map arbSymbol, ?_, ?_⟩
  · rw [arbitration_encodeFrame, first, List.map_append]
    rfl
  · rw [arbitration_encodeFrame, second, List.map_append]
    rfl

/-- Settles O21: the frame's parts read back one by one, its symbols as its bytes, and the arbitration field as a
number. -/
theorem frameBytesReadBack : Obligations.FrameBytesReadBack := by
  refine ⟨fun f wf => ⟨frameWhole_encodeFrame wf, crcGood_append _, parseFrame_encodeFrame wf,
    fun span start => hearPair_encodeFrame wf start⟩, fun f g wf other lower => arbitration_lower wf other lower,
    rfl, rfl, rfl, rfl, rfl, rfl, fun span rest start => ?_⟩
  unfold hearPair
  rw [if_pos start]
  rfl

end Sys2Proof.Safety
end

section
/-! PROOFS. The image as LOAD reads it from the memory: its bytes, its directory and its sections (R172, Table 8-9). -/

namespace Sys2Proof.Safety

open Sys2Proof Sys2Proof.Machine

variable {memory : List Byte} {o : Nat → Nat} {code : Nat}

/-! ### The bytes read -/

/-- The image read is the memory's first bytes, as many as its length field says. -/
theorem imageRead_eq (length : 41 ≤ memWord memory 0 ∧ memWord memory 0 ≤ 2048) : imageRead memory =
    (List.range (memWord memory 0)).map fun i => memory.getD i 255#8 := by
  have read : imageRead memory = memory.take (memWord memory 0) ++
      List.replicate (memWord memory 0 - memory.length) 255#8 := by
    have within : inRange (memWord memory 0) 41 2048 = true :=
      Bool.and_eq_true_iff.2 ⟨decide_eq_true length.1, decide_eq_true length.2⟩
    exact if_pos within
  rw [read]
  generalize memWord memory 0 = l
  refine List.ext_getElem? fun i => ?_
  rw [List.getElem?_map, List.getElem?_append, List.length_take]
  by_cases inside : i < l
  · rw [List.getElem?_range inside]
    by_cases held : i < memory.length
    · rw [if_pos (by omega), List.getElem?_take_of_lt inside, List.getElem?_eq_getElem held]
      simp [List.getD_eq_getElem?_getD, List.getElem?_eq_getElem held]
    · rw [if_neg (by omega), List.getElem?_replicate, if_pos (by omega)]
      simp [List.getD_eq_getElem?_getD, List.getElem?_eq_none (Nat.not_lt.1 held)]
  · rw [if_neg (by omega), List.getElem?_replicate, if_neg (by omega)]
    simp [inside]

theorem imageRead_ne_nil_iff : imageRead memory ≠ [] ↔ 41 ≤ memWord memory 0 ∧ memWord memory 0 ≤ 2048 := by
  constructor
  · intro read
    by_contra out
    refine read (if_neg fun within => out ?_)
    obtain ⟨least, most⟩ := Bool.and_eq_true_iff.1 within
    exact ⟨of_decide_eq_true least, of_decide_eq_true most⟩
  · intro length
    rw [imageRead_eq length, ne_eq, List.map_eq_nil_iff, List.range_eq_nil]
    omega

theorem imageRead_length (length : 41 ≤ memWord memory 0 ∧ memWord memory 0 ≤ 2048) :
    (imageRead memory).length = memWord memory 0 := by
  rw [imageRead_eq length, List.length_map, List.length_range]

theorem byteAt_imageRead (length : 41 ≤ memWord memory 0 ∧ memWord memory 0 ≤ 2048) {i : Nat}
    (inside : i < memWord memory 0) : byteAt (imageRead memory) i = memByte memory i := by
  rw [imageRead_eq length]
  unfold byteAt memByte
  rw [List.getD_eq_getElem?_getD, List.getElem?_map, List.getElem?_range inside]
  rfl

theorem wordAt_imageRead (length : 41 ≤ memWord memory 0 ∧ memWord memory 0 ≤ 2048) {i : Nat}
    (inside : i + 1 < memWord memory 0) : wordAt (imageRead memory) i = memWord memory i := by
  unfold wordAt memWord
  rw [byteAt_imageRead length (Nat.lt_of_succ_lt inside), byteAt_imageRead length inside]

theorem crc_imageRead (length : 41 ≤ memWord memory 0 ∧ memWord memory 0 ≤ 2048) :
    (imageRead memory).take (memWord memory 0 - 2) =
      (List.range (memWord memory 0 - 2)).map fun i => memory.getD i 255#8 := by
  rw [imageRead_eq length, ← List.map_take, List.take_range, Nat.min_eq_left (Nat.sub_le _ _)]

/-! ### The directory -/

/-- Exactly one entry of the directory names a code. -/
theorem entryOf_some_iff {img : List Byte} {i : Nat} : entryOf img code = some i ↔
    i < 7 ∧ byteAt img (4 + 5 * i) = code ∧ ∀ j, j < 7 → byteAt img (4 + 5 * j) = code → j = i := by
  have mem (j : Nat) : j ∈ (List.range 7).filter (fun i => byteAt img (4 + 5 * i) = code) ↔
      j < 7 ∧ byteAt img (4 + 5 * j) = code := by
    rw [List.mem_filter, List.mem_range, decide_eq_true_eq]
  have once : ((List.range 7).filter fun i => byteAt img (4 + 5 * i) = code).Nodup := List.nodup_range.filter _
  unfold entryOf
  generalize (List.range 7).filter (fun i => byteAt img (4 + 5 * i) = code) = l at mem once
  constructor
  · intro one
    match l, one with
    | [x], one =>
      obtain rfl := Option.some.inj one
      obtain ⟨within, named⟩ := (mem x).1 (List.mem_singleton_self x)
      exact ⟨within, named, fun j inside names => List.mem_singleton.1 ((mem j).2 ⟨inside, names⟩)⟩
  · rintro ⟨within, named, only⟩
    have here := (mem i).2 ⟨within, named⟩
    have all (j : Nat) (there : j ∈ l) : j = i := only j ((mem j).1 there).1 ((mem j).1 there).2
    match l, here, all, once with
    | [x], here, all, _ => exact congrArg some (all x (List.mem_singleton_self x))
    | x :: y :: rest, here, all, once =>
      have same : x = y := (all x List.mem_cons_self).trans (all y (List.mem_cons_of_mem _ List.mem_cons_self)).symm
      exact absurd (same ▸ List.mem_cons_self) (List.nodup_cons.1 once).1

theorem mem_sectionCodes : code ∈ sectionCodes ↔ 1 ≤ code ∧ code ≤ 7 := by
  unfold sectionCodes
  simp only [List.mem_cons, List.not_mem_nil, or_false]
  omega

theorem frameOfImageOk_iff {img : List Byte} : frameOfImageOk img = true ↔
    crc16 (img.take (img.length - 2)) = wordAt img (img.length - 2) ∧ byteAt img 2 = 1 ∧ byteAt img 3 = 7 ∧
      (∀ c, 1 ≤ c ∧ c ≤ 7 → ∃ i, entryOf img c = some i) ∧
      (∀ c, 1 ≤ c ∧ c ≤ 7 → offsetOf img c + lengthOf img c ≤ img.length - 2) ∧
      (∀ c, 1 ≤ c ∧ c ≤ 7 → 39 ≤ offsetOf img c) ∧
      (∀ a, 1 ≤ a ∧ a ≤ 7 → ∀ b, 1 ≤ b ∧ b ≤ 7 → a = b ∨ offsetOf img a + lengthOf img a ≤ offsetOf img b ∨
        offsetOf img b + lengthOf img b ≤ offsetOf img a) ∧
      (∀ c, 1 ≤ c ∧ c ≤ 7 → lengthOf img c = requiredLength img c) := by
  unfold frameOfImageOk sectionsApart
  simp only [Bool.and_eq_true, Bool.or_eq_true, decide_eq_true_eq, List.all_eq_true, mem_sectionCodes,
    Option.isSome_iff_exists, and_assoc, or_assoc]

/-! ### Sections -/

theorem byteAt_slice {l : List Byte} {a n k : Nat} (within : k < n) : byteAt ((l.drop a).take n) k = byteAt l (a + k) := by
  unfold byteAt
  rw [List.getD_eq_getElem?_getD, List.getD_eq_getElem?_getD, List.getElem?_take_of_lt within, List.getElem?_drop]

theorem offsetOf_eq {img : List Byte} {i : Nat} (entry : entryOf img code = some i) :
    offsetOf img code = wordAt img (5 + 5 * i) := by
  rw [offsetOf, entry]
  rfl

theorem lengthOf_eq {img : List Byte} {i : Nat} (entry : entryOf img code = some i) :
    lengthOf img code = wordAt img (7 + 5 * i) := by
  rw [lengthOf, entry]
  rfl

/-- The pairs of the scene table are counted in the memory where the section holds its counts. -/
theorem pairTotal_read (length : 41 ≤ memWord memory 0 ∧ memWord memory 0 ≤ 2048)
    (counts : 32 ≤ lengthOf (imageRead memory) 7)
    (inside : offsetOf (imageRead memory) 7 + lengthOf (imageRead memory) 7 ≤ memWord memory 0) :
    pairTotal (sectionOf (imageRead memory) 7) =
      ((List.range 32).map fun n => memByte memory (offsetOf (imageRead memory) 7 + n)).sum := by
  unfold pairTotal sectionOf
  refine congrArg List.sum (List.map_congr_left fun n within => ?_)
  have low := List.mem_range.1 within
  rw [byteAt_slice (by omega), byteAt_imageRead length (by omega)]

theorem requiredLength_eq (length : 41 ≤ memWord memory 0 ∧ memWord memory 0 ≤ 2048)
    (counts : 32 ≤ lengthOf (imageRead memory) 7)
    (inside : offsetOf (imageRead memory) 7 + lengthOf (imageRead memory) 7 ≤ memWord memory 0) (code : Nat) :
    requiredLength (imageRead memory) code = sectionLength memory (offsetOf (imageRead memory)) code := by
  unfold requiredLength sectionLength
  rw [pairTotal_read length counts inside] <;> rfl

theorem sectionLength_congr {o' : Nat → Nat} (same : o' 7 = o 7) (code : Nat) :
    sectionLength memory o' code = sectionLength memory o code := by
  unfold sectionLength
  rw [same]

theorem least_sectionLength : 32 ≤ sectionLength memory o 7 := Nat.le_add_right _ _

/-- What the judgement finds of the frame is what the memory holds (R172). -/
theorem whole_of_frame (read : imageRead memory ≠ []) (frame : frameOfImageOk (imageRead memory) = true) :
    ImageWhole memory (offsetOf (imageRead memory)) := by
  have length := imageRead_ne_nil_iff.1 read
  have size := imageRead_length length
  obtain ⟨crc, version, count, entry, inside, start, apart, required⟩ := frameOfImageOk_iff.1 frame
  rw [size] at crc inside
  have scenes := inside 7 ⟨by omega, by omega⟩
  have counts : 32 ≤ lengthOf (imageRead memory) 7 := by
    rw [required 7 ⟨by omega, by omega⟩]
    exact Nat.le_add_right _ _
  have required (c : Nat) (code : 1 ≤ c ∧ c ≤ 7) :=
    (required c code).trans (requiredLength_eq length counts (by omega) c)
  refine ⟨length, ?_, ⟨?_, ?_⟩, fun c least most => ?_, fun c least most => ⟨start c ⟨least, most⟩, ?_⟩,
    fun a b la ha lb hb other => ?_⟩
  · rw [← crc_imageRead length, crc, wordAt_imageRead length (by omega)]
  · rw [← byteAt_imageRead length (by omega), version]
  · rw [← byteAt_imageRead length (by omega), count]
  · obtain ⟨i, named⟩ := entry c ⟨least, most⟩
    obtain ⟨within, names, only⟩ := entryOf_some_iff.1 named
    refine ⟨i, within, ?_, ?_, ?_, fun j low names => only j low ?_⟩
    · rw [← byteAt_imageRead length (by omega), names]
    · rw [← wordAt_imageRead length (by omega), offsetOf_eq named]
    · rw [← wordAt_imageRead length (by omega), ← lengthOf_eq named, required c ⟨least, most⟩]
    · rw [byteAt_imageRead length (by omega), names]
  · rw [← required c ⟨least, most⟩]
    exact inside c ⟨least, most⟩
  · rw [← required a ⟨la, ha⟩, ← required b ⟨lb, hb⟩]
    exact (apart a ⟨la, ha⟩ b ⟨lb, hb⟩).resolve_left other

/-- The entry of a code, with the section's offset and length as the memory gives them. -/
theorem entry_of_whole (whole : ImageWhole memory o) {c : Nat} (known : 1 ≤ c ∧ c ≤ 7) :
    (∃ i, entryOf (imageRead memory) c = some i) ∧ offsetOf (imageRead memory) c = o c ∧
      lengthOf (imageRead memory) c = sectionLength memory o c := by
  have length := whole.length
  obtain ⟨i, within, names, offset, span, only⟩ := whole.directory c known.1 known.2
  have named : entryOf (imageRead memory) c = some i := entryOf_some_iff.2 ⟨within, by
    rw [byteAt_imageRead length (by omega), names], fun j low names => only j low (by
    rw [← byteAt_imageRead length (by omega), names])⟩
  exact ⟨⟨i, named⟩, by rw [offsetOf_eq named, wordAt_imageRead length (by omega), offset],
    by rw [lengthOf_eq named, wordAt_imageRead length (by omega), span]⟩

theorem frame_of_whole (whole : ImageWhole memory o) : frameOfImageOk (imageRead memory) = true := by
  have length := whole.length
  have size := imageRead_length length
  have known (c : Nat) (code : 1 ≤ c ∧ c ≤ 7) := entry_of_whole whole code
  obtain ⟨-, offset, span⟩ := known 7 ⟨by omega, by omega⟩
  have inside := whole.inside 7 (by omega) (by omega)
  have counts : 32 ≤ lengthOf (imageRead memory) 7 := by
    rw [span]
    exact least_sectionLength
  refine frameOfImageOk_iff.2 ⟨?_, ?_, ?_, fun c code => (known c code).1, fun c code => ?_, fun c code => ?_,
    fun a first b second => ?_, fun c code => ?_⟩
  · rw [size, crc_imageRead length, whole.crc, wordAt_imageRead length (by omega)]
  · rw [byteAt_imageRead length (by omega), whole.header.1]
  · rw [byteAt_imageRead length (by omega), whole.header.2]
  · rw [size, (known c code).2.1, (known c code).2.2]
    exact (whole.inside c code.1 code.2).2
  · rw [(known c code).2.1]
    exact (whole.inside c code.1 code.2).1
  · rw [(known a first).2.1, (known a first).2.2, (known b second).2.1, (known b second).2.2]
    by_cases same : a = b
    · exact .inl same
    · exact .inr (whole.apart a b first.1 first.2 second.1 second.2 same)
  · rw [(known c code).2.2, requiredLength_eq length counts (by omega), sectionLength_congr offset]

/-- A byte of a section is the memory's. -/
theorem sectionByte (whole : ImageWhole memory o) {c : Nat} (known : 1 ≤ c ∧ c ≤ 7) {k : Nat}
    (within : k < sectionLength memory o c) : byteAt (sectionOf (imageRead memory) c) k = memByte memory (o c + k) := by
  have length := whole.length
  obtain ⟨-, offset, span⟩ := entry_of_whole whole known
  have inside := whole.inside c known.1 known.2
  unfold sectionOf
  rw [span, offset, byteAt_slice within, byteAt_imageRead length (by omega)]

end Sys2Proof.Safety
end

section
/-! PROOFS. The fields of the sections one by one: what the judgement accepts and reads of a field is what its value spells
within its range (R172, Tables 8-10 to 8-14). -/

namespace Sys2Proof.Safety

open Sys2Proof Sys2Proof.Machine

variable {memory sec pins : List Byte} {a : Nat}

/-- The bytes of a section, or of an entry of one, as they stand in the memory from byte a on. -/
def Holds (memory : List Byte) (a n : Nat) (sec : List Byte) : Prop := ∀ k, k < n → byteAt sec k = memByte memory (a + k)

theorem Holds.word {n k : Nat} (h : Holds memory a n sec) (within : k + 1 < n) :
    wordAt sec k = memWord memory (a + k) := by
  unfold wordAt memWord
  rw [h k (Nat.lt_of_succ_lt within), h (k + 1) within, Nat.add_assoc]

/-- An entry of a section holds the bytes of its own place. -/
theorem Holds.entry {n b size : Nat} (h : Holds memory a n sec) (within : b + size ≤ n) :
    Holds memory (a + b) size ((sec.drop b).take size) := fun k low => by
  rw [byteAt_slice low, h (b + k) (by omega), Nat.add_assoc]

/-! ### Values -/

theorem inRange_iff {v lo hi : Nat} : inRange v lo hi = true ↔ lo ≤ v ∧ v ≤ hi := by
  unfold inRange
  rw [Bool.and_eq_true, decide_eq_true_eq, decide_eq_true_eq]

theorem inRangeOr_iff {v lo hi ones : Nat} : inRangeOr v lo hi ones = true ↔ v = ones ∨ (lo ≤ v ∧ v ≤ hi) := by
  unfold inRangeOr
  rw [Bool.or_eq_true, decide_eq_true_eq, inRange_iff]

/-- A field with a default lies in its range exactly where what it gives does. -/
theorem given_in {v lo hi ones dflt : Nat} (above : lo ≤ dflt) (below : dflt ≤ hi) :
    inRangeOr v lo hi ones = true ↔ lo ≤ given v ones dflt ∧ given v ones dflt ≤ hi := by
  rw [inRangeOr_iff]
  unfold given
  split <;> omega

theorem orDefault_eq (v ones dflt : Nat) : orDefault v ones dflt = given v ones dflt := rfl

theorem tenths_eq {v ones dflt : Nat} : tenths v ones (10 * dflt) = 10 * given v ones dflt := by
  unfold tenths given
  split
  · rfl
  · exact Nat.mul_comm _ _

/-- A time within its range, as its count of 10 ms. -/
theorem tenths_in {v lo hi ones dflt : Nat} (above : lo ≤ dflt) (below : dflt ≤ hi) : inRangeOr v lo hi ones = true ↔
    10 * lo ≤ 10 * given v ones dflt ∧ 10 * given v ones dflt ≤ 10 * hi ∧ 10 * given v ones dflt % 10 = 0 := by
  rw [given_in above below]
  omega

/-! ### Bindings (R133) -/

/-- A consumer's byte is allowed and read as its binding exactly where the binding spells it and names a pin of the
consumer's own function. -/
theorem binding_iff {fn : PinFn} {b : Nat} {x : Option PinId} : bindingOk pins fn b = true ∧ readBinding b = x ↔
    bindingByte x = b ∧ ∀ p, x = some p → (readPin pins p.val).fn = fn := by
  constructor
  · rintro ⟨ok, rfl⟩
    refine ⟨?_, fun p bound => fn_of_bindingOk ok bound⟩
    unfold bindingOk at ok
    simp only [Bool.or_eq_true, Bool.and_eq_true, decide_eq_true_eq] at ok
    unfold readBinding
    obtain rfl | ⟨low, -⟩ := ok
    · rfl
    · rw [dif_pos (by omega)]
      rfl
  · rintro ⟨rfl, own⟩
    unfold bindingOk readBinding
    cases x with
    | none => exact ⟨rfl, rfl⟩
    | some p =>
      have low : p.val ≤ 31 := Nat.le_of_lt_succ p.isLt
      refine ⟨?_, dif_pos p.isLt⟩
      simp only [bindingByte, Bool.or_eq_true, Bool.and_eq_true]
      exact .inr ⟨decide_eq_true low, decide_eq_true (own p rfl)⟩

/-! ### Station numbers -/

theorem readNumbers_eq {n k : Nat} (h : Holds memory a n sec) (within : k + 4 ≤ n) :
    readNumbers sec k = numbersAt memory (a + k) := by
  unfold readNumbers numbersAt
  refine congrArg _ (List.map_congr_left fun i low => ?_)
  rw [h (k + i) (by have := List.mem_range.1 low; omega), Nat.add_assoc]

/-- A list of four places of station numbers stands exactly where those not empty are each 1-48. -/
theorem numbersOk_iff {k : Nat} : numbersOk sec k = true ↔ Numbered (readNumbers sec k) := by
  unfold numbersOk Numbered readNumbers
  constructor
  · intro ok
    refine ⟨Nat.le_trans (List.length_filter_le _ _) (by simp), fun n listed => ?_⟩
    obtain ⟨named, used⟩ := List.mem_filter.1 listed
    obtain ⟨i, low, rfl⟩ := List.mem_map.1 named
    have place := List.all_eq_true.1 ok i low
    rw [Bool.or_eq_true, decide_eq_true_eq, stationNumber_iff] at place
    exact place.resolve_left (of_decide_eq_true used)
  · rintro ⟨-, each⟩
    refine List.all_eq_true.2 fun i low => ?_
    rw [Bool.or_eq_true, decide_eq_true_eq, stationNumber_iff]
    by_cases empty : byteAt sec (k + i) = 0
    · exact .inl empty
    · exact .inr (each _ (List.mem_filter.2 ⟨List.mem_map_of_mem low, decide_eq_true empty⟩))

/-! ### Ports (Table 8-11) -/

theorem dwellOf_given {v : Nat} (coded : given v 255 1 ≤ 3) : dwellOf v = 2 ^ (1 + given v 255 1) := by
  unfold given at coded ⊢
  split at coded
  · subst v
    rfl
  · rw [if_neg ‹_›]
    interval_cases v <;> rfl

/-- The code of a fitness selection (Table 8-2). -/
def selectionCode : FitSelection → Nat
  | .portA => 0 | .portB => 1 | .either => 2 | .both => 3

theorem selectionOf_code (x : FitSelection) : selectionOf (selectionCode x) = x := by cases x <;> rfl

theorem selectionCode_le (x : FitSelection) : selectionCode x ≤ 3 := by cases x <;> decide

theorem selectionOf_given {v : Nat} (coded : given v 255 2 ≤ 3) :
    selectionCode (selectionOf v) = given v 255 2 := by
  unfold given at coded ⊢
  split at coded
  · subst v
    rfl
  · rw [if_neg ‹_›]
    interval_cases v <;> rfl

theorem dwell_coded {g : Nat} (coded : g ≤ 3) :
    2 ^ (1 + g) = 2 ∨ 2 ^ (1 + g) = 4 ∨ 2 ^ (1 + g) = 8 ∨ 2 ^ (1 + g) = 16 := by
  interval_cases g <;> decide

/-- A dwell of 2, 4, 8 or 16 ms is one of the four codes. -/
theorem dwell_code {g : Nat} (dwell : 2 ^ (1 + g) = 2 ∨ 2 ^ (1 + g) = 4 ∨ 2 ^ (1 + g) = 8 ∨ 2 ^ (1 + g) = 16) : g ≤ 3 := by
  by_contra high
  have least : 2 ^ 5 ≤ 2 ^ (1 + g) := Nat.pow_le_pow_right (by decide) (by omega)
  omega

theorem ports_iff {p : PortsCfg} (h : Holds memory a 5 sec) : portsOk sec = true ∧ readPorts sec = p ↔
    (p.eqFloor = given (memByte memory a) 255 0 ∧ p.eqMax = given (memByte memory (a + 1)) 255 15 ∧
      p.dwell = 2 ^ (1 + given (memByte memory (a + 2)) 255 1) ∧
      p.errorThreshold = given (memByte memory (a + 3)) 255 4 ∧
      selectionCode p.selection = given (memByte memory (a + 4)) 255 2) ∧
    ((p.eqFloor ≤ p.eqMax ∧ p.eqMax ≤ 15) ∧ (p.dwell = 2 ∨ p.dwell = 4 ∨ p.dwell = 8 ∨ p.dwell = 16) ∧
      (1 ≤ p.errorThreshold ∧ p.errorThreshold ≤ 15)) := by
  have floor : byteAt sec 0 = memByte memory a := h 0 (by decide)
  have top := h 1 (by decide)
  have dwell := h 2 (by decide)
  have errors := h 3 (by decide)
  have selection := h 4 (by decide)
  have floorIn := given_in (v := byteAt sec 0) (lo := 0) (hi := 15) (ones := 255) (dflt := 0) (by decide) (by decide)
  have topIn := given_in (v := byteAt sec 1) (lo := 0) (hi := 15) (ones := 255) (dflt := 15) (by decide) (by decide)
  have dwellIn := given_in (v := byteAt sec 2) (lo := 0) (hi := 3) (ones := 255) (dflt := 1) (by decide) (by decide)
  have errorsIn := given_in (v := byteAt sec 3) (lo := 1) (hi := 15) (ones := 255) (dflt := 4) (by decide) (by decide)
  have selectionIn := given_in (v := byteAt sec 4) (lo := 0) (hi := 3) (ones := 255) (dflt := 2) (by decide) (by decide)
  unfold portsOk readPorts
  simp only [Bool.and_eq_true, floorIn, topIn, dwellIn, errorsIn, selectionIn, orDefault_eq]
  rw [floor, top, dwell, errors, selection]
  constructor
  · rintro ⟨⟨⟨⟨⟨⟨floorOk, topOk⟩, order⟩, dwellOk⟩, errorsOk⟩, selectionOk⟩, rfl⟩
    refine ⟨⟨rfl, rfl, dwellOf_given dwellOk.2, rfl, selectionOf_given selectionOk.2⟩, ⟨of_decide_eq_true order, topOk.2⟩, ?_, errorsOk⟩
    dsimp only
    rw [dwellOf_given dwellOk.2]
    exact dwell_coded dwellOk.2
  · obtain ⟨eqFloor, eqMax, time, threshold, choice⟩ := p
    dsimp only
    rintro ⟨⟨rfl, rfl, rfl, rfl, chosen⟩, ⟨order, topOk⟩, dwells, errorsOk⟩
    have coded := dwell_code dwells
    have select : given (memByte memory (a + 4)) 255 2 ≤ 3 := chosen ▸ selectionCode_le choice
    have chooses : selectionOf (memByte memory (a + 4)) = choice := by
      rw [← selectionOf_code choice, chosen, ← selectionOf_given select, selectionOf_code]
    refine ⟨⟨⟨⟨⟨⟨⟨Nat.zero_le _, Nat.le_trans order topOk⟩, Nat.zero_le _, topOk⟩, decide_eq_true order⟩, Nat.zero_le _,
      coded⟩, errorsOk⟩, Nat.zero_le _, select⟩, ?_⟩
    rw [dwellOf_given coded, chooses]

/-! ### Pins (Tables 8-12, 8-13) -/

theorem pinFnOf_code (fn : PinFn) : pinFnOf (pinFnCode fn) = fn := by cases fn <;> rfl

theorem pinFnCode_le (fn : PinFn) : pinFnCode fn ≤ 22 := by cases fn <;> decide

theorem pinFnCode_of {v : Nat} (coded : v ≤ 22) : pinFnCode (pinFnOf v) = v := by interval_cases v <;> rfl

theorem pin_iff {p : Nat} {c : PinCfg} (h : Holds memory a 96 sec) (low : p < 32) :
    pinOk sec p = true ∧ readPin sec p = c ↔
      (pinFnCode c.fn = memByte memory (a + 3 * p) ∧ (c.inverted = true ↔ 128 ≤ memByte memory (a + 3 * p + 1)) ∧
        (c.filtered = true ↔ memByte memory (a + 3 * p + 1) / 64 % 2 = 1) ∧
        c.arg = if argLimit c.fn = none then 0 else memByte memory (a + 3 * p + 2)) ∧
      ∀ top, argLimit c.fn = some top → c.arg ≤ top := by
  have fn : byteAt sec (3 * p) = memByte memory (a + 3 * p) := h _ (by omega)
  have flags : byteAt sec (3 * p + 1) = memByte memory (a + 3 * p + 1) := h _ (by omega)
  have arg : byteAt sec (3 * p + 2) = memByte memory (a + 3 * p + 2) := h _ (by omega)
  unfold pinOk readPin
  rw [fn, flags, arg]
  generalize memByte memory (a + 3 * p) = code
  generalize memByte memory (a + 3 * p + 1) = marks
  generalize memByte memory (a + 3 * p + 2) = operand
  constructor
  · rintro ⟨ok, rfl⟩
    obtain ⟨coded, limit⟩ := Bool.and_eq_true_iff.1 ok
    refine ⟨⟨pinFnCode_of (of_decide_eq_true coded), decide_eq_true_iff, decide_eq_true_iff, ?_⟩, fun top takes => ?_⟩
    · cases takes : argLimit (pinFnOf code) <;> simp [takes]
    · simp only at takes ⊢
      rw [takes] at limit ⊢
      exact of_decide_eq_true limit
  · obtain ⟨fn, inverted, filtered, arg⟩ := c
    dsimp only
    rintro ⟨⟨rfl, inverts, filters, args⟩, within⟩
    have inverted_eq : decide (128 ≤ marks) = inverted := by rw [Bool.eq_iff_iff, decide_eq_true_iff, inverts]
    have filtered_eq : decide (marks / 64 % 2 = 1) = filtered := by rw [Bool.eq_iff_iff, decide_eq_true_iff, filters]
    rw [pinFnOf_code, inverted_eq, filtered_eq, decide_eq_true (pinFnCode_le fn)]
    cases takes : argLimit fn with
    | none =>
      rw [takes, if_pos rfl] at args
      simp [args]
    | some top =>
      rw [takes, if_neg nofun] at args
      have bounded := within top takes
      rw [args] at bounded ⊢
      simp [bounded]

/-! ### Channels (Table 8-14) -/

/-- The code of a channel kind (Table 8-14). -/
def channelKindCode : ChannelKind → Nat
  | .switched => 0 | .dimmed => 1

theorem channel_iff {n : Nat} {c : ChannelCfg} (h : Holds memory a 108 sec) (low : n < 12) :
    channelOk sec n = true ∧ readChannelCfg sec n = c ↔
      (channelKindCode c.kind = memByte memory (a + 9 * n) ∧ c.rating = memWord memory (a + 9 * n + 1) ∧
        c.cls.val = memByte memory (a + 9 * n + 3) ∧ c.rank = memByte memory (a + 9 * n + 4) ∧
        c.lmin = memByte memory (a + 9 * n + 5) ∧ c.fade = memByte memory (a + 9 * n + 6) ∧
        c.trip = memWord memory (a + 9 * n + 7)) ∧
      (c.rating ≤ 400 ∧ c.rank ≤ 15 ∧ c.lmin ≤ 128 ∧ c.fade ≤ 64 ∧ 1 ≤ c.trip ∧ c.trip ≤ 400) := by
  have kind : byteAt sec (9 * n) = memByte memory (a + 9 * n) := h _ (by omega)
  have rating : wordAt sec (9 * n + 1) = memWord memory (a + 9 * n + 1) := h.word (by omega)
  have cls : byteAt sec (9 * n + 3) = memByte memory (a + 9 * n + 3) := h _ (by omega)
  have rank : byteAt sec (9 * n + 4) = memByte memory (a + 9 * n + 4) := h _ (by omega)
  have lmin : byteAt sec (9 * n + 5) = memByte memory (a + 9 * n + 5) := h _ (by omega)
  have fade : byteAt sec (9 * n + 6) = memByte memory (a + 9 * n + 6) := h _ (by omega)
  have trip : wordAt sec (9 * n + 7) = memWord memory (a + 9 * n + 7) := h.word (by omega)
  unfold channelOk readChannelCfg
  rw [kind, rating, cls, rank, lmin, fade, trip]
  simp only [Bool.and_eq_true, decide_eq_true_eq, inRange_iff]
  constructor
  · rintro ⟨⟨⟨⟨⟨⟨⟨kinds, ratings⟩, classes⟩, ranks⟩, lmins⟩, fades⟩, trips⟩, rfl⟩
    refine ⟨⟨?_, rfl, Nat.mod_eq_of_lt (Nat.lt_succ_of_le classes), rfl, rfl, rfl, rfl⟩, ratings, ranks, lmins, fades,
      trips⟩
    dsimp only
    split
    · next one => exact one.symm
    · next other => exact (Nat.eq_zero_of_le_zero (by omega)).symm
  · obtain ⟨kind, rating, cls, rank, lmin, fade, trip⟩ := c
    dsimp only
    rintro ⟨⟨kinds, rfl, classes, rfl, rfl, rfl, rfl⟩, ratings, ranks, lmins, fades, trips⟩
    rw [← kinds, ← classes]
    have class_eq : classOf cls.val = cls := Fin.ext (Nat.mod_eq_of_lt cls.isLt)
    have kind_eq : (if channelKindCode kind = 1 then ChannelKind.dimmed else .switched) = kind := by cases kind <;> rfl
    have coded : channelKindCode kind ≤ 1 := by cases kind <;> decide
    rw [class_eq, kind_eq]
    exact ⟨⟨⟨⟨⟨⟨⟨coded, ratings⟩, Nat.le_of_lt_succ cls.isLt⟩, ranks⟩, lmins⟩, fades⟩, trips⟩, rfl⟩

end Sys2Proof.Safety
end

section
/-! PROOFS. The station section: what its fields spell, and the ranges LOAD holds them to (R172, Table 8-10). -/

namespace Sys2Proof.Safety

open Sys2Proof Sys2Proof.Machine

variable {memory st pins : List Byte} {a : Nat} {cfg : Cfg}

/-! ### The supply budget's fields -/

/-- The budget fields as they are read. -/
def BudgetRead (st : List Byte) (cfg : Cfg) : Prop :=
  wordAt st 0 = cfg.s0 ∧ wordAt st 2 = cfg.s1 ∧ wordAt st 4 = cfg.margin ∧ wordAt st 6 = cfg.islandCap ∧
    tenths (byteAt st 8) 255 400 = cfg.settle ∧ tenths (wordAt st 9) 65535 1000 = cfg.islandDelay

/-- The budget fields as the judgement accepts them. -/
def BudgetAccepted (st : List Byte) : Prop :=
  wordAt st 0 ≤ 9999 ∧ wordAt st 2 ≤ 9999 ∧ wordAt st 4 ≤ 9999 ∧ wordAt st 6 ≤ 4095 ∧
    inRangeOr (byteAt st 8) 10 200 255 = true ∧ inRangeOr (wordAt st 9) 20 500 65535 = true ∧
    wordAt st 4 ≤ min (wordAt st 0) (wordAt st 2)

theorem budget_iff (h : Holds memory a 36 st) : BudgetAccepted st ∧ BudgetRead st cfg ↔
    (cfg.s0 = memWord memory a ∧ cfg.s1 = memWord memory (a + 2) ∧ cfg.margin = memWord memory (a + 4) ∧
      cfg.islandCap = memWord memory (a + 6) ∧ cfg.settle = 10 * given (memByte memory (a + 8)) 255 40 ∧
      cfg.islandDelay = 10 * given (memWord memory (a + 9)) 65535 100) ∧
    (cfg.margin ≤ min cfg.s0 cfg.s1 ∧ cfg.s0 ≤ 9999 ∧ cfg.s1 ≤ 9999 ∧ cfg.islandCap ≤ 4095 ∧
      (100 ≤ cfg.settle ∧ cfg.settle ≤ 2000 ∧ cfg.settle % 10 = 0) ∧
      (200 ≤ cfg.islandDelay ∧ cfg.islandDelay ≤ 5000 ∧ cfg.islandDelay % 10 = 0)) := by
  have s0 : wordAt st 0 = memWord memory a := h.word (by decide)
  have s1 : wordAt st 2 = memWord memory (a + 2) := h.word (by decide)
  have margin : wordAt st 4 = memWord memory (a + 4) := h.word (by decide)
  have cap : wordAt st 6 = memWord memory (a + 6) := h.word (by decide)
  have settle : byteAt st 8 = memByte memory (a + 8) := h 8 (by decide)
  have delay : wordAt st 9 = memWord memory (a + 9) := h.word (by decide)
  have settleIn := tenths_in (v := byteAt st 8) (lo := 10) (hi := 200) (ones := 255) (dflt := 40) (by decide) (by decide)
  have delayIn := tenths_in (v := wordAt st 9) (lo := 20) (hi := 500) (ones := 65535) (dflt := 100) (by decide) (by decide)
  have settleRead : tenths (byteAt st 8) 255 400 = _ := tenths_eq (dflt := 40)
  have delayRead : tenths (wordAt st 9) 65535 1000 = _ := tenths_eq (dflt := 100)
  unfold BudgetAccepted BudgetRead
  rw [settleIn, delayIn, settleRead, delayRead, s0, s1, margin, cap, settle, delay]
  constructor
  · rintro ⟨⟨s0In, s1In, -, capIn, settles, delays, under⟩, s0, s1, margin, cap, settle, delay⟩
    rw [← s0, ← s1, ← margin, ← cap, ← settle, ← delay]
    exact ⟨⟨rfl, rfl, rfl, rfl, rfl, rfl⟩, under, s0In, s1In, capIn, settles, delays⟩
  · rintro ⟨⟨s0, s1, margin, cap, settle, delay⟩, under, s0In, s1In, capIn, settles, delays⟩
    rw [← s0, ← s1, ← margin, ← cap, ← settle, ← delay]
    exact ⟨⟨s0In, s1In, by omega, capIn, settles, delays, under⟩, rfl, rfl, rfl, rfl, rfl, rfl⟩

/-! ### The period, the listen window, the officers and the reports -/

/-- The other fields of the station section as they are read. -/
def StationRead (st : List Byte) (cfg : Cfg) : Prop :=
  periodOf (orDefault (byteAt st 11) 255 1) = cfg.period ∧ tenths (byteAt st 12) 255 300 = cfg.listenWindow ∧
    readNumbers st 13 = cfg.officers ∧ decide (orDefault (byteAt st 17) 255 1 / 2 = 1) = cfg.reportNotice ∧
    decide (orDefault (byteAt st 17) 255 1 % 2 = 1) = cfg.reportDegraded

/-- The other fields of the station section as the judgement accepts them. -/
def StationAccepted (st : List Byte) : Prop :=
  inRangeOr (byteAt st 11) 0 2 255 = true ∧ inRangeOr (byteAt st 12) 10 100 255 = true ∧ numbersOk st 13 = true ∧
    inRangeOr (byteAt st 17) 0 3 255 = true

theorem periodCode_of {v : Nat} (coded : v ≤ 2) : periodCode (periodOf v) = v := by interval_cases v <;> rfl

/-- The two report enables are the bits of one code. -/
theorem reports_code {g : Nat} (coded : g ≤ 3) : 2 * bit (decide (g / 2 = 1)) + bit (decide (g % 2 = 1)) = g := by
  interval_cases g <;> rfl

theorem reports_of_code (x y : Bool) : decide ((2 * bit x + bit y) / 2 = 1) = x ∧
    decide ((2 * bit x + bit y) % 2 = 1) = y ∧ 2 * bit x + bit y ≤ 3 := by
  cases x <;> cases y <;> decide

theorem station_iff (h : Holds memory a 36 st) : StationAccepted st ∧ StationRead st cfg ↔
    (periodCode cfg.period = given (memByte memory (a + 11)) 255 1 ∧
      cfg.listenWindow = 10 * given (memByte memory (a + 12)) 255 30 ∧ cfg.officers = numbersAt memory (a + 13) ∧
      2 * bit cfg.reportNotice + bit cfg.reportDegraded = given (memByte memory (a + 17)) 255 1) ∧
    ((100 ≤ cfg.listenWindow ∧ cfg.listenWindow ≤ 1000 ∧ cfg.listenWindow % 10 = 0) ∧ Numbered cfg.officers) := by
  have period : byteAt st 11 = memByte memory (a + 11) := h 11 (by decide)
  have window : byteAt st 12 = memByte memory (a + 12) := h 12 (by decide)
  have reports : byteAt st 17 = memByte memory (a + 17) := h 17 (by decide)
  have periodIn := given_in (v := byteAt st 11) (lo := 0) (hi := 2) (ones := 255) (dflt := 1) (by decide) (by decide)
  have windowIn := tenths_in (v := byteAt st 12) (lo := 10) (hi := 100) (ones := 255) (dflt := 30) (by decide) (by decide)
  have reportsIn := given_in (v := byteAt st 17) (lo := 0) (hi := 3) (ones := 255) (dflt := 1) (by decide) (by decide)
  have windowRead : tenths (byteAt st 12) 255 300 = _ := tenths_eq (dflt := 30)
  unfold StationAccepted StationRead
  rw [periodIn, windowIn, reportsIn, windowRead, numbersOk_iff, readNumbers_eq h (by decide), orDefault_eq, orDefault_eq,
    period, window, reports]
  constructor
  · rintro ⟨⟨⟨-, periods⟩, windows, numbers, -, reported⟩, period, window, officers, notice, degraded⟩
    rw [← period, ← window, ← officers, ← notice, ← degraded, periodCode_of periods, reports_code reported]
    exact ⟨⟨rfl, rfl, rfl, rfl⟩, windows, numbers⟩
  · rintro ⟨⟨period, window, officers, reports⟩, windows, numbers⟩
    obtain ⟨notice, degraded, coded⟩ := reports_of_code cfg.reportNotice cfg.reportDegraded
    rw [← period, ← window, ← officers, ← reports, periodOf_code, notice, degraded]
    exact ⟨⟨⟨Nat.zero_le _, Nat.le_of_lt_succ (periodCode_lt _)⟩, windows, numbers, Nat.zero_le _, coded⟩, rfl, rfl, rfl,
      rfl, rfl⟩

/-! ### The consumers' bindings (R133) -/

theorem consumers_iff (h : Holds memory a 36 st) :
    (((∀ z : Fin 16, bindingOk pins .occupancy (byteAt st (18 + z.val)) = true) ∧
        bindingOk pins .supply (byteAt st 34) = true ∧ bindingOk pins .standby (byteAt st 35) = true) ∧
      (∀ z : Fin 16, readBinding (byteAt st (18 + z.val)) = cfg.occupancy[z]) ∧
        readBinding (byteAt st 34) = cfg.supply ∧ readBinding (byteAt st 35) = cfg.standby) ↔
    ((∀ z : Fin 16, bindingByte cfg.occupancy[z] = memByte memory (a + 18 + z.val)) ∧
        bindingByte cfg.supply = memByte memory (a + 34) ∧ bindingByte cfg.standby = memByte memory (a + 35)) ∧
      (∀ (z : Fin 16) (p : PinId), cfg.occupancy[z] = some p → (readPin pins p.val).fn = .occupancy) ∧
      (∀ p : PinId, cfg.supply = some p → (readPin pins p.val).fn = .supply) ∧
      ∀ p : PinId, cfg.standby = some p → (readPin pins p.val).fn = .standby := by
  have zone (z : Fin 16) : byteAt st (18 + z.val) = memByte memory (a + 18 + z.val) := by
    rw [h _ (by have := z.isLt; omega), Nat.add_assoc]
  have supply : byteAt st 34 = memByte memory (a + 34) := h 34 (by decide)
  have standby : byteAt st 35 = memByte memory (a + 35) := h 35 (by decide)
  have zones (z : Fin 16) := binding_iff (pins := pins) (fn := .occupancy) (b := byteAt st (18 + z.val))
    (x := cfg.occupancy[z])
  have supplies := binding_iff (pins := pins) (fn := .supply) (b := byteAt st 34) (x := cfg.supply)
  have standbys := binding_iff (pins := pins) (fn := .standby) (b := byteAt st 35) (x := cfg.standby)
  simp only [zone, supply, standby] at zones supplies standbys ⊢
  constructor
  · rintro ⟨⟨zonesOk, supplyOk, standbyOk⟩, zonesRead, supplyRead, standbyRead⟩
    have each (z : Fin 16) := (zones z).1 ⟨zonesOk z, zonesRead z⟩
    obtain ⟨supplied, own⟩ := supplies.1 ⟨supplyOk, supplyRead⟩
    obtain ⟨stood, its⟩ := standbys.1 ⟨standbyOk, standbyRead⟩
    exact ⟨⟨fun z => (each z).1, supplied, stood⟩, fun z => (each z).2, own, its⟩
  · rintro ⟨⟨spelled, supplied, stood⟩, own, its, theirs⟩
    have each (z : Fin 16) := (zones z).2 ⟨spelled z, own z⟩
    obtain ⟨supplyOk, supplyRead⟩ := supplies.2 ⟨supplied, its⟩
    obtain ⟨standbyOk, standbyRead⟩ := standbys.2 ⟨stood, theirs⟩
    exact ⟨⟨fun z => (each z).1, supplyOk, standbyOk⟩, fun z => (each z).2, supplyRead, standbyRead⟩

theorem stationOk_iff : stationOk st pins = true ↔ BudgetAccepted st ∧ StationAccepted st ∧
    (∀ z : Fin 16, bindingOk pins .occupancy (byteAt st (18 + z.val)) = true) ∧
      bindingOk pins .supply (byteAt st 34) = true ∧ bindingOk pins .standby (byteAt st 35) = true := by
  unfold stationOk BudgetAccepted StationAccepted
  simp only [Bool.and_eq_true, decide_eq_true_eq, all_range_iff]
  constructor
  · rintro ⟨⟨⟨⟨⟨⟨⟨⟨⟨⟨⟨⟨⟨s0, s1⟩, margin⟩, cap⟩, settle⟩, delay⟩, period⟩, window⟩, numbers⟩, reports⟩, zones⟩, supply⟩,
      standby⟩, under⟩
    exact ⟨⟨s0, s1, margin, cap, settle, delay, under⟩, ⟨period, window, numbers, reports⟩, zones, supply, standby⟩
  · rintro ⟨⟨s0, s1, margin, cap, settle, delay, under⟩, ⟨period, window, numbers, reports⟩, zones, supply, standby⟩
    exact ⟨⟨⟨⟨⟨⟨⟨⟨⟨⟨⟨⟨⟨s0, s1⟩, margin⟩, cap⟩, settle⟩, delay⟩, period⟩, window⟩, numbers⟩, reports⟩, zones⟩, supply⟩,
      standby⟩, under⟩

end Sys2Proof.Safety
end

section
/-! PROOFS. The key entries: what they spell, and the operands LOAD holds them to (R138, R172, Table 8-16). -/

namespace Sys2Proof.Safety

open Sys2Proof Sys2Proof.Machine

variable {memory b pins : List Byte} {a : Nat}

/-- The code of a direction as an operand (Table 7-5). -/
def dirCode : Dir → Nat
  | .dirA => 1
  | .dirB => 2

/-- The action a key entry's code and operands spell (Table 7-5). -/
def SpellsAction (code target operand level : Nat) : KeyAction → Prop
  | .nothing => code = 0
  | .setLevel x channel l => code = 1 ∧ x = target ∧ channel.val = operand ∧ l = level
  | .toggle x channel l => code = 2 ∧ x = target ∧ channel.val = operand ∧ l = level
  | .scene number => code = 3 ∧ number.val = operand
  | .holdDrive x mover d => code = 4 ∧ x = target ∧ mover.val = operand ∧ level = dirCode d
  | .clear x mover => code = 5 ∧ x = target ∧ mover.val = operand
  | .forget x => code = 6 ∧ x = target

/-- An entry spells its action, and its pin where it has an action. -/
theorem spellsKey_iff {c : KeyCfg} : SpellsKey memory a c ↔
    SpellsAction (memByte memory (a + 1)) (memByte memory (a + 2)) (memByte memory (a + 3)) (memWord memory (a + 4))
      c.action ∧
    (c.action = .nothing → c.pin = none) ∧ (c.action ≠ .nothing → bindingByte c.pin = memByte memory a) := by
  obtain ⟨pin, action⟩ := c
  cases action with
  | holdDrive target mover d => cases d <;> simp [SpellsKey, SpellsAction, dirCode, and_assoc, and_comm]
  | nothing | setLevel | toggle | scene | clear | forget => simp [SpellsKey, SpellsAction, and_assoc, and_comm]

theorem moverOf_eq {n : Nat} (low : n ≤ 1) : (moverOf n).val = n := by interval_cases n <;> rfl

theorem channelOf_eq {n : Nat} (low : n ≤ 11) : (channelOf n).val = n := Nat.mod_eq_of_lt (by omega)

theorem channelOf_val (c : ChannelId) : channelOf c.val = c := Fin.ext (Nat.mod_eq_of_lt c.isLt)

/-- The judgement of an action's operands (R138). -/
theorem action_accepted (ok : actionOk b = true) : SpellsAction (byteAt b 1) (byteAt b 2) (byteAt b 3) (wordAt b 4)
    (readAction b) ∧ ActionRanges (readAction b) := by
  unfold actionOk at ok
  split at ok
  all_goals simp only [Bool.and_eq_true, decide_eq_true_eq, inRange_iff, stationNumber_iff, Bool.false_eq_true] at ok
  · next code =>
    obtain ⟨⟨target, channel⟩, level⟩ := ok
    simp only [readAction, code]
    exact ⟨⟨rfl, rfl, channelOf_eq channel, rfl⟩, target, level⟩
  · next code =>
    obtain ⟨⟨target, channel⟩, level⟩ := ok
    simp only [readAction, code]
    exact ⟨⟨rfl, rfl, channelOf_eq channel, rfl⟩, target, level⟩
  · next code =>
    simp only [readAction, code]
    exact ⟨⟨rfl, Nat.mod_eq_of_lt (Nat.lt_succ_of_le ok)⟩, trivial⟩
  · next code =>
    obtain ⟨⟨target, mover⟩, least, most⟩ := ok
    simp only [readAction, code]
    refine ⟨⟨rfl, rfl, moverOf_eq mover, ?_⟩, target⟩
    split
    · next one => exact one
    · next other =>
      show wordAt b 4 = 2
      omega
  · next code =>
    obtain ⟨target, mover⟩ := ok
    simp only [readAction, code]
    exact ⟨⟨rfl, rfl, moverOf_eq mover⟩, target⟩
  · next code =>
    simp only [readAction, code]
    exact ⟨⟨rfl, rfl⟩, ok⟩

/-- An action within its ranges whose code and operands the entry holds is accepted and read (R138). -/
theorem action_spelled {x : KeyAction} (acts : x ≠ .nothing)
    (spells : SpellsAction (byteAt b 1) (byteAt b 2) (byteAt b 3) (wordAt b 4) x) (ranges : ActionRanges x) :
    actionOk b = true ∧ readAction b = x := by
  cases x with
  | nothing => exact absurd rfl acts
  | setLevel target channel level =>
    obtain ⟨code, rfl, operand, rfl⟩ := spells
    obtain ⟨station, within⟩ := ranges
    have low := channel.isLt
    simp only [actionOk, readAction, code, Bool.and_eq_true, decide_eq_true_eq, stationNumber_iff, ← operand,
      channelOf_val]
    exact ⟨⟨⟨station, by omega⟩, within⟩, trivial⟩
  | toggle target channel level =>
    obtain ⟨code, rfl, operand, rfl⟩ := spells
    obtain ⟨station, within⟩ := ranges
    have low := channel.isLt
    simp only [actionOk, readAction, code, Bool.and_eq_true, decide_eq_true_eq, stationNumber_iff, inRange_iff, ← operand,
      channelOf_val]
    exact ⟨⟨⟨station, by omega⟩, within⟩, trivial⟩
  | scene number =>
    obtain ⟨code, operand⟩ := spells
    have low := number.isLt
    simp only [actionOk, readAction, code, decide_eq_true_eq, ← operand]
    exact ⟨by omega, congrArg KeyAction.scene (Fin.ext (Nat.mod_eq_of_lt low))⟩
  | holdDrive target mover d =>
    obtain ⟨code, rfl, operand, level⟩ := spells
    have low := mover.isLt
    simp only [actionOk, readAction, code, Bool.and_eq_true, decide_eq_true_eq, stationNumber_iff, inRange_iff, ← operand,
      moverOf_val, level]
    cases d
    · exact ⟨⟨⟨ranges, by omega⟩, by decide⟩, rfl⟩
    · exact ⟨⟨⟨ranges, by omega⟩, by decide⟩, rfl⟩
  | clear target mover =>
    obtain ⟨code, rfl, operand⟩ := spells
    have low := mover.isLt
    simp only [actionOk, readAction, code, Bool.and_eq_true, decide_eq_true_eq, stationNumber_iff, ← operand, moverOf_val]
    exact ⟨⟨ranges, by omega⟩, trivial⟩
  | forget target =>
    obtain ⟨code, rfl⟩ := spells
    simp only [actionOk, readAction, code, stationNumber_iff]
    exact ⟨ranges, trivial⟩

theorem key_iff {c : KeyCfg} (h : Holds memory a 6 b) : keyOk pins b = true ∧ readKey b = c ↔
    SpellsKey memory a c ∧ ActionRanges c.action ∧ ∀ p, c.pin = some p → (readPin pins p.val).fn = .key := by
  have bound : byteAt b 0 = memByte memory a := h 0 (by decide)
  have code : byteAt b 1 = memByte memory (a + 1) := h 1 (by decide)
  have target : byteAt b 2 = memByte memory (a + 2) := h 2 (by decide)
  have operand : byteAt b 3 = memByte memory (a + 3) := h 3 (by decide)
  have level : wordAt b 4 = memWord memory (a + 4) := h.word (by decide)
  rw [spellsKey_iff, ← code, ← target, ← operand, ← level, ← bound]
  unfold keyOk readKey
  by_cases empty : byteAt b 1 = 0
  · rw [if_pos empty, decide_eq_true empty, Bool.true_or]
    constructor
    · rintro ⟨-, rfl⟩
      exact ⟨⟨empty, fun _ => rfl, fun acts => absurd rfl acts⟩, trivial, nofun⟩
    · rintro ⟨⟨spells, unbound, -⟩, -⟩
      obtain ⟨pin, action⟩ := c
      have silent : action = .nothing := by
        cases action with
        | nothing => rfl
        | setLevel | toggle | scene | holdDrive | clear | forget => exact absurd (spells.1.symm.trans empty) (by decide)
      subst silent
      exact ⟨rfl, congrArg (fun x => (⟨x, .nothing⟩ : KeyCfg)) (unbound rfl).symm⟩
  · rw [if_neg empty, decide_eq_false empty, Bool.false_or, Bool.and_eq_true]
    constructor
    · rintro ⟨⟨ok, binds⟩, rfl⟩
      obtain ⟨spells, ranges⟩ := action_accepted ok
      obtain ⟨byte, own⟩ := binding_iff.1 ⟨binds, rfl⟩
      exact ⟨⟨spells, fun silent => absurd (by rw [show readAction b = .nothing from silent] at spells; exact spells) empty,
        fun _ => byte⟩, ranges, own⟩
    · rintro ⟨⟨spells, -, byte⟩, ranges, own⟩
      have acts : c.action ≠ .nothing := fun silent => empty (by rw [silent] at spells; exact spells)
      obtain ⟨ok, reads⟩ := action_spelled acts spells ranges
      obtain ⟨binds, pin⟩ := binding_iff.2 ⟨byte acts, own⟩
      exact ⟨⟨ok, binds⟩, by rw [reads, pin]⟩

end Sys2Proof.Safety
end

section
/-! PROOFS. The scene table: what its counts and pairs spell, and what LOAD holds them to (R60, R172, Table 8-17). -/

namespace Sys2Proof.Safety

open Sys2Proof Sys2Proof.Machine

variable {memory sec : List Byte} {a n : Nat}

theorem noRepeat_iff {l : List Nat} : noRepeat l = true ↔ l.Nodup := by
  induction l with
  | nil => exact ⟨fun _ => List.nodup_nil, fun _ => rfl⟩
  | cons x l ih => simp [noRepeat, ih]

/-- The sum before a place and the place's own value are within the whole sum. -/
theorem sum_range_le (f : Nat → Nat) {m : Nat} (low : n < m) :
    ((List.range n).map f).sum + f n ≤ ((List.range m).map f).sum := by
  induction m with
  | zero => exact absurd low (Nat.not_lt_zero n)
  | succ m ih =>
    rw [List.range_succ, List.map_append, List.sum_append]
    by_cases last : n = m
    · subst last
      simp
    · exact Nat.le_trans (ih (by omega)) (Nat.le_add_right _ _)

theorem sum_finRange (f : Nat → Nat) : ((List.finRange n).map fun i => f i.val).sum = ((List.range n).map f).sum := by
  rw [← List.map_coe_finRange_eq_range, List.map_map]
  rfl

/-! ### The pairs of a scene -/

/-- Scene n's pairs as numbers. -/
def scenePairs (sec : List Byte) (n : Nat) : List (Nat × Nat) :=
  (List.range (byteAt sec n)).map fun j => (byteAt sec (pairStart sec n + 3 * j), wordAt sec (pairStart sec n + 3 * j + 1))

theorem sceneChannels_eq (sec : List Byte) (n : Nat) : sceneChannels sec n = (scenePairs sec n).map Prod.fst := by
  unfold sceneChannels scenePairs
  rw [List.map_map]
  rfl

theorem sceneLevels_eq (sec : List Byte) (n : Nat) : sceneLevels sec n = (scenePairs sec n).map Prod.snd := by
  unfold sceneLevels scenePairs
  rw [List.map_map]
  rfl

theorem readScene_eq (sec : List Byte) (n : Nat) :
    readScene sec n = (scenePairs sec n).map fun q => { channel := channelOf q.1, level := q.2 } := by
  have pairs : (sceneChannels sec n).zip (sceneLevels sec n) = scenePairs sec n := by
    unfold sceneChannels sceneLevels scenePairs
    exact List.zip_map'
  unfold readScene
  rw [pairs]

theorem scenePairs_length (sec : List Byte) (n : Nat) : (scenePairs sec n).length = byteAt sec n := by
  unfold scenePairs
  rw [List.length_map, List.length_range]

theorem sceneOk_iff : sceneOk sec n = true ↔ (scenePairs sec n).length ≤ 12 ∧ (∀ q ∈ scenePairs sec n, q.1 ≤ 11) ∧
    (∀ q ∈ scenePairs sec n, q.2 ≤ 256) ∧ ((scenePairs sec n).map Prod.fst).Nodup := by
  unfold sceneOk
  rw [sceneChannels_eq, sceneLevels_eq, scenePairs_length]
  simp only [Bool.and_eq_true, decide_eq_true_eq, List.all_eq_true, List.forall_mem_map, noRepeat_iff, and_assoc]

/-- A scene is accepted and read exactly where its pairs spell it within the limits of R60. -/
theorem scene_iff {l : List ScenePair} : sceneOk sec n = true ∧ readScene sec n = l ↔
    l.map (fun q => (q.channel.val, q.level)) = scenePairs sec n ∧
      l.length ≤ 12 ∧ (∀ q ∈ l, q.level ≤ 256) ∧ (l.map fun q => q.channel).Nodup := by
  rw [sceneOk_iff, readScene_eq]
  generalize scenePairs sec n = pairs
  constructor
  · rintro ⟨⟨few, channels, levels, once⟩, rfl⟩
    have spelled : (pairs.map fun q => (⟨channelOf q.1, q.2⟩ : ScenePair)).map (fun q => (q.channel.val, q.level)) =
        pairs := by
      rw [List.map_map]
      refine (List.map_congr_left fun q listed => ?_).trans (List.map_id pairs)
      exact Prod.ext (channelOf_eq (channels q listed)) rfl
    refine ⟨spelled, by rwa [List.length_map], fun q listed => ?_, ?_⟩
    · obtain ⟨x, there, rfl⟩ := List.mem_map.1 listed
      exact levels x there
    · refine List.Nodup.of_map (fun c : ChannelId => c.val) ?_
      rw [← spelled, List.map_map] at once
      rw [List.map_map]
      exact once
  · rintro ⟨rfl, few, levels, once⟩
    refine ⟨⟨by rwa [List.length_map], fun q listed => ?_, fun q listed => ?_, ?_⟩, ?_⟩
    · obtain ⟨x, there, rfl⟩ := List.mem_map.1 listed
      exact Nat.le_of_lt_succ x.channel.isLt
    · obtain ⟨x, there, rfl⟩ := List.mem_map.1 listed
      exact levels x there
    · have apart := once.map Fin.val_injective
      rw [List.map_map] at apart ⊢
      exact apart
    · rw [List.map_map]
      refine (List.map_congr_left fun q _ => ?_).trans (List.map_id l)
      exact congrArg (fun c => (⟨c, q.level⟩ : ScenePair)) (channelOf_val q.channel)

/-! ### The table in the memory -/

/-- The pairs of the scenes before scene n and its own lie within the table. -/
theorem pairStart_le (low : n < 32) : pairStart sec n + 3 * byteAt sec n ≤ 32 + 3 * pairTotal sec := by
  have within := sum_range_le (byteAt sec) low
  unfold pairStart pairTotal
  omega

theorem scenePairs_held (h : Holds memory a (32 + 3 * pairTotal sec) sec) (low : n < 32) : scenePairs sec n =
    (List.range (memByte memory (a + n))).map fun j =>
      (memByte memory (a + 32 + 3 * ((List.range n).map fun i => memByte memory (a + i)).sum + 3 * j),
        memWord memory (a + 32 + 3 * ((List.range n).map fun i => memByte memory (a + i)).sum + 3 * j + 1)) := by
  have within := pairStart_le (sec := sec) low
  have count : byteAt sec n = memByte memory (a + n) := h n (by omega)
  have before : ((List.range n).map (byteAt sec)).sum = ((List.range n).map fun i => memByte memory (a + i)).sum :=
    congrArg List.sum (List.map_congr_left fun i listed => h i (by have := List.mem_range.1 listed; omega))
  unfold scenePairs
  rw [← before, ← count]
  refine List.map_congr_left fun j listed => ?_
  have inside := List.mem_range.1 listed
  rw [h _ (by omega), h.word (by omega)]
  unfold pairStart
  simp only [Nat.add_assoc]

end Sys2Proof.Safety
end

section
/-! PROOFS. The mover slots: what they spell, and the ranges LOAD holds them to (R66, R87, R118, R172, Table 8-15). -/

namespace Sys2Proof.Safety

open Sys2Proof Sys2Proof.Machine

variable {memory b pins : List Byte} {a : Nat} {c : MoverCfg}

/-! ### Kinds -/

/-- The code of a configured slot's kind (Table 8-15). -/
def slotKindCode : MoverKind → Nat
  | .hatch => 1 | .platform => 2 | .windlass => 3

/-- The kind of a configured slot's code. -/
def slotKind (code : Nat) : MoverKind := if code = 1 then .hatch else if code = 2 then .platform else .windlass

theorem slotKind_code (k : MoverKind) : slotKind (slotKindCode k) = k := by cases k <;> rfl

theorem slotKindCode_pos (k : MoverKind) : slotKindCode k ≠ 0 := by cases k <;> decide

theorem slotKindCode_le (k : MoverKind) : slotKindCode k ≤ 3 := by cases k <;> decide

theorem slotKindCode_of {v : Nat} (used : v ≠ 0) (coded : v ≤ 3) : slotKindCode (slotKind v) = v := by
  interval_cases v
  · exact absurd rfl used
  · rfl
  · rfl
  · rfl

theorem slotKindCode_windlass {k : MoverKind} : slotKindCode k = 3 ↔ k = .windlass := by
  cases k <;> simp [slotKindCode]

/-! ### Bindings -/

/-- A binding of a slot is judged and read exactly where it spells its byte, used, or is none, not used (R133). -/
theorem moverBinding_iff {i : Nat} {x : Option PinId} :
    ((!bindingUsed b i || bindingOk pins (bindingFn i) (byteAt b (27 + i))) = true ∧ moverBinding b i = x) ↔
      (bindingUsed b i = true → bindingByte x = byteAt b (27 + i)) ∧ (bindingUsed b i = false → x = none) ∧
        ∀ p, x = some p → (readPin pins p.val).fn = bindingFn i := by
  unfold moverBinding
  cases bindingUsed b i with
  | false =>
    constructor
    · rintro ⟨-, rfl⟩
      exact ⟨nofun, fun _ => rfl, nofun⟩
    · rintro ⟨-, unbound, -⟩
      exact ⟨rfl, (unbound rfl).symm⟩
  | true =>
    rw [Bool.not_true, Bool.false_or, if_pos rfl, binding_iff]
    exact ⟨fun ⟨byte, own⟩ => ⟨fun _ => byte, nofun, own⟩, fun ⟨byte, _, own⟩ => ⟨byte rfl, own⟩⟩

/-- The seven bindings of a slot name pins of their own functions (R133). -/
def MoverBound (pins : List Byte) (c : MoverCfg) : Prop :=
  (∀ p, c.endA = some p → (readPin pins p.val).fn = .endA) ∧ (∀ p, c.endB = some p → (readPin pins p.val).fn = .endB) ∧
    (∀ p, c.lockOpen = some p → (readPin pins p.val).fn = .lockOpen) ∧
    (∀ p, c.lockClosed = some p → (readPin pins p.val).fn = .lockClosed) ∧
    (∀ p, c.gypsy = some p → (readPin pins p.val).fn = .gypsy) ∧
    (∀ p, c.home = some p → (readPin pins p.val).fn = .home) ∧
    ∀ p, c.powerFault = some p → (readPin pins p.val).fn = .powerFault

/-- The seven bindings of a slot spell their bytes where they are used, and are none elsewhere. -/
def SpellsBindings (b : List Byte) (c : MoverCfg) : Prop :=
  (byteAt b 0 ≠ 3 → bindingByte c.endA = byteAt b 27 ∧ bindingByte c.endB = byteAt b 28) ∧
    (byteAt b 0 = 3 → c.endA = none ∧ c.endB = none) ∧
    (lockOf b = true → bindingByte c.lockOpen = byteAt b 29 ∧ bindingByte c.lockClosed = byteAt b 30) ∧
    (lockOf b = false → c.lockOpen = none ∧ c.lockClosed = none) ∧
    (byteAt b 0 = 3 → bindingByte c.gypsy = byteAt b 31 ∧ bindingByte c.home = byteAt b 32) ∧
    (byteAt b 0 ≠ 3 → c.gypsy = none ∧ c.home = none) ∧ bindingByte c.powerFault = byteAt b 33

/-- The bindings of a slot as they are read. -/
def BindingsRead (b : List Byte) (c : MoverCfg) : Prop :=
  moverBinding b 0 = c.endA ∧ moverBinding b 1 = c.endB ∧ moverBinding b 2 = c.lockOpen ∧
    moverBinding b 3 = c.lockClosed ∧ moverBinding b 4 = c.gypsy ∧ moverBinding b 5 = c.home ∧
    moverBinding b 6 = c.powerFault

theorem bindings_iff : (∀ i : Fin 7, (!bindingUsed b i.val || bindingOk pins (bindingFn i.val) (byteAt b (27 + i.val))) =
      true) ∧ BindingsRead b c ↔ SpellsBindings b c ∧ MoverBound pins c := by
  have endA := moverBinding_iff (pins := pins) (b := b) (i := 0) (x := c.endA)
  have endB := moverBinding_iff (pins := pins) (b := b) (i := 1) (x := c.endB)
  have lockOpen := moverBinding_iff (pins := pins) (b := b) (i := 2) (x := c.lockOpen)
  have lockClosed := moverBinding_iff (pins := pins) (b := b) (i := 3) (x := c.lockClosed)
  have gypsy := moverBinding_iff (pins := pins) (b := b) (i := 4) (x := c.gypsy)
  have home := moverBinding_iff (pins := pins) (b := b) (i := 5) (x := c.home)
  have power := moverBinding_iff (pins := pins) (b := b) (i := 6) (x := c.powerFault)
  simp only [bindingUsed, bindingFn, decide_eq_true_eq, decide_eq_false_iff_not, not_not, ne_eq] at *
  constructor
  · rintro ⟨ok, readA, readB, readOpen, readClosed, readGypsy, readHome, readPower⟩
    obtain ⟨byteA, noneA, ownA⟩ := endA.1 ⟨ok 0, readA⟩
    obtain ⟨byteB, noneB, ownB⟩ := endB.1 ⟨ok 1, readB⟩
    obtain ⟨byteOpen, noneOpen, ownOpen⟩ := lockOpen.1 ⟨ok 2, readOpen⟩
    obtain ⟨byteClosed, noneClosed, ownClosed⟩ := lockClosed.1 ⟨ok 3, readClosed⟩
    obtain ⟨byteGypsy, noneGypsy, ownGypsy⟩ := gypsy.1 ⟨ok 4, readGypsy⟩
    obtain ⟨byteHome, noneHome, ownHome⟩ := home.1 ⟨ok 5, readHome⟩
    obtain ⟨bytePower, -, ownPower⟩ := power.1 ⟨ok 6, readPower⟩
    exact ⟨⟨fun other => ⟨byteA other, byteB other⟩, fun windlass => ⟨noneA windlass, noneB windlass⟩,
      fun lock => ⟨byteOpen lock, byteClosed lock⟩, fun free => ⟨noneOpen free, noneClosed free⟩,
      fun windlass => ⟨byteGypsy windlass, byteHome windlass⟩, fun other => ⟨noneGypsy other, noneHome other⟩,
      bytePower trivial⟩, ownA, ownB, ownOpen, ownClosed, ownGypsy, ownHome, ownPower⟩
  · rintro ⟨⟨ends, noEnds, locks, noLocks, chain, noChain, bytePower⟩, ownA, ownB, ownOpen, ownClosed, ownGypsy, ownHome,
      ownPower⟩
    obtain ⟨okA, readA⟩ := endA.2 ⟨fun other => (ends other).1, fun windlass => (noEnds windlass).1, ownA⟩
    obtain ⟨okB, readB⟩ := endB.2 ⟨fun other => (ends other).2, fun windlass => (noEnds windlass).2, ownB⟩
    obtain ⟨okOpen, readOpen⟩ := lockOpen.2 ⟨fun lock => (locks lock).1, fun free => (noLocks free).1, ownOpen⟩
    obtain ⟨okClosed, readClosed⟩ := lockClosed.2 ⟨fun lock => (locks lock).2, fun free => (noLocks free).2, ownClosed⟩
    obtain ⟨okGypsy, readGypsy⟩ := gypsy.2 ⟨fun windlass => (chain windlass).1, fun other => (noChain other).1, ownGypsy⟩
    obtain ⟨okHome, readHome⟩ := home.2 ⟨fun windlass => (chain windlass).2, fun other => (noChain other).2, ownHome⟩
    obtain ⟨okPower, readPower⟩ := power.2 ⟨fun _ => bytePower, nofun, ownPower⟩
    refine ⟨fun i => ?_, readA, readB, readOpen, readClosed, readGypsy, readHome, readPower⟩
    fin_cases i
    exacts [okA, okB, okOpen, okClosed, okGypsy, okHome, okPower]

/-! ### What every configured slot has -/

theorem wordAt_lt (l : List Byte) (i : Nat) : wordAt l i < 65536 := by
  have high := (l.getD i 0#8).isLt
  have low := (l.getD (i + 1) 0#8).isLt
  unfold wordAt byteAt
  omega

/-- The items of every configured slot as they are read. -/
def SlotRead (b : List Byte) (c : MoverCfg) : Prop :=
  slotKind (byteAt b 0) = c.kind ∧ BitVec.ofNat 16 (wordAt b 1) = c.zones ∧ wordAt b 3 = c.runRating ∧
    classOf (orDefault (byteAt b 5) 255 1) = c.cls ∧ orDefault (byteAt b 6) 255 0 = c.rank ∧
    wordAt b 7 = c.overcurrent ∧ tenths (byteAt b 11) 255 300 = c.stopDwell ∧
    tenths (byteAt b 12) 255 350 = c.holdTimeout ∧ readNumbers b 13 = c.commandList

/-- The items of every configured slot as the judgement accepts them. -/
def SlotAccepted (b : List Byte) : Prop :=
  byteAt b 0 ≤ 3 ∧ inRange (zoneCount (BitVec.ofNat 16 (wordAt b 1))) 1 4 = true ∧ wordAt b 3 ≤ 4095 ∧
    inRangeOr (byteAt b 5) 0 7 255 = true ∧ inRangeOr (byteAt b 6) 0 15 255 = true ∧
    inRange (wordAt b 7) 1 2047 = true ∧ inRangeOr (byteAt b 11) 10 200 255 = true ∧
    inRangeOr (byteAt b 12) 25 100 255 = true ∧ numbersOk b 13 = true

/-- The items of every configured slot as its bytes spell them (Table 8-15). -/
def SpellsSlot (b : List Byte) (c : MoverCfg) : Prop :=
  slotKindCode c.kind = byteAt b 0 ∧ c.zones.toNat = wordAt b 1 ∧ c.runRating = wordAt b 3 ∧
    c.cls.val = given (byteAt b 5) 255 1 ∧ c.rank = given (byteAt b 6) 255 0 ∧ c.overcurrent = wordAt b 7 ∧
    c.stopDwell = 10 * given (byteAt b 11) 255 30 ∧ c.holdTimeout = 10 * given (byteAt b 12) 255 35 ∧
    c.commandList = readNumbers b 13

theorem classOf_eq {n : Nat} (low : n ≤ 7) : (classOf n).val = n := Nat.mod_eq_of_lt (by omega)

theorem classOf_val (k : Fin 8) : classOf k.val = k := Fin.ext (Nat.mod_eq_of_lt k.isLt)

theorem slot_iff (used : byteAt b 0 ≠ 0) : SlotAccepted b ∧ SlotRead b c ↔ SpellsSlot b c ∧
    (c.runRating ≤ 4095 ∧ c.rank ≤ 15 ∧ (1 ≤ zoneCount c.zones ∧ zoneCount c.zones ≤ 4) ∧
      (1 ≤ c.overcurrent ∧ c.overcurrent ≤ 2047) ∧ (100 ≤ c.stopDwell ∧ c.stopDwell ≤ 2000 ∧ c.stopDwell % 10 = 0) ∧
      (250 ≤ c.holdTimeout ∧ c.holdTimeout ≤ 1000 ∧ c.holdTimeout % 10 = 0) ∧ Numbered c.commandList) := by
  have classIn := given_in (v := byteAt b 5) (lo := 0) (hi := 7) (ones := 255) (dflt := 1) (by decide) (by decide)
  have rankIn := given_in (v := byteAt b 6) (lo := 0) (hi := 15) (ones := 255) (dflt := 0) (by decide) (by decide)
  have dwellIn := tenths_in (v := byteAt b 11) (lo := 10) (hi := 200) (ones := 255) (dflt := 30) (by decide) (by decide)
  have holdIn := tenths_in (v := byteAt b 12) (lo := 25) (hi := 100) (ones := 255) (dflt := 35) (by decide) (by decide)
  have dwellRead : tenths (byteAt b 11) 255 300 = _ := tenths_eq (dflt := 30)
  have holdRead : tenths (byteAt b 12) 255 350 = _ := tenths_eq (dflt := 35)
  have zonesFit := wordAt_lt b 1
  unfold SlotAccepted SlotRead SpellsSlot
  rw [classIn, rankIn, dwellIn, holdIn, dwellRead, holdRead, numbersOk_iff, inRange_iff, inRange_iff, orDefault_eq,
    orDefault_eq]
  constructor
  · rintro ⟨⟨kinds, zonesIn, ratings, ⟨-, classes⟩, ⟨-, ranks⟩, currents, dwells, holds, numbers⟩,
      kind, zones, rating, cls, rank, current, dwell, hold, list⟩
    have zone : c.zones.toNat = wordAt b 1 := by
      rw [← zones, BitVec.toNat_ofNat]
      exact Nat.mod_eq_of_lt zonesFit
    rw [zones] at zonesIn
    rw [zone, ← kind, ← rating, ← cls, ← rank, ← current, ← dwell, ← hold, ← list, slotKindCode_of used kinds,
      classOf_eq classes]
    exact ⟨⟨rfl, rfl, rfl, rfl, rfl, rfl, rfl, rfl, rfl⟩, ratings, ranks, zonesIn, currents, dwells, holds, numbers⟩
  · rintro ⟨⟨kind, zones, rating, cls, rank, current, dwell, hold, list⟩, ratings, ranks, zonesIn, currents, dwells, holds,
      numbers⟩
    have zone : BitVec.ofNat 16 (wordAt b 1) = c.zones := by rw [← zones, BitVec.ofNat_toNat, BitVec.setWidth_eq]
    rw [zone, ← kind, ← rating, ← cls, ← rank, ← current, ← dwell, ← hold, ← list, slotKind_code, classOf_val]
    exact ⟨⟨slotKindCode_le _, zonesIn, ratings, ⟨Nat.zero_le _, Nat.le_of_lt_succ c.cls.isLt⟩, ⟨Nat.zero_le _, ranks⟩,
      currents, dwells, holds, numbers⟩, rfl, rfl, rfl, rfl, rfl, rfl, rfl, rfl, rfl⟩

/-! ### What its kind adds -/

/-- The items of a slot's kind as they are read. -/
def KindRead (b : List Byte) (c : MoverCfg) : Prop :=
  (if byteAt b 0 = 3 then 0 else byteAt b 9 * 1000) = c.travel ∧ lockOf b = c.lockFitted ∧ readChain b = c.chain

/-- A WINDLASS slot: no travel time, no lock, and its chain configuration (R87, R118). -/
theorem windlass_iff (windlass : byteAt b 0 = 3) : chainOk b = true ∧ KindRead b c ↔
    (c.travel = 0 ∧ byteAt b 10 ≠ 1 ∧ c.lockFitted = false ∧
      c.chain = { pitch := wordAt b 17, slowCount := wordAt b 19, maxCount := wordAt b 21
                  stallThreshold := wordAt b 23, stallTime := 10 * given (wordAt b 25) 65535 150 }) ∧
    (c.lockFitted = false ∧ c.chain.slowCount ≤ c.chain.maxCount ∧
      (1 ≤ c.chain.maxCount ∧ c.chain.maxCount ≤ 4095) ∧ (100 ≤ c.chain.pitch ∧ c.chain.pitch ≤ 1000) ∧
      (1 ≤ c.chain.stallThreshold ∧ c.chain.stallThreshold ≤ 2047) ∧
      (500 ≤ c.chain.stallTime ∧ c.chain.stallTime ≤ 3000 ∧ c.chain.stallTime % 10 = 0)) := by
  have stallIn := tenths_in (v := wordAt b 25) (lo := 50) (hi := 300) (ones := 65535) (dflt := 150) (by decide) (by decide)
  have stallRead : tenths (wordAt b 25) 65535 1500 = _ := tenths_eq (dflt := 150)
  have free : lockOf b = false := by simp [lockOf, windlass]
  unfold chainOk KindRead readChain
  rw [if_pos windlass, if_pos windlass, free, stallRead]
  simp only [Bool.and_eq_true, decide_eq_true_eq, inRange_iff, stallIn]
  constructor
  · rintro ⟨⟨⟨⟨⟨⟨⟨locks, pitch⟩, -⟩, most⟩, order⟩, threshold⟩, stall⟩, travel, fitted, chain⟩
    rw [← travel, ← fitted, ← chain]
    exact ⟨⟨rfl, locks, rfl, rfl⟩, rfl, order, most, pitch, threshold, stall⟩
  · rintro ⟨⟨travel, locks, fitted, chain⟩, -, order, most, pitch, threshold, stall⟩
    rw [chain] at order most pitch threshold stall
    dsimp only at order most pitch threshold stall
    rw [travel, fitted, chain]
    exact ⟨⟨⟨⟨⟨⟨⟨locks, pitch⟩, by omega⟩, most⟩, order⟩, threshold⟩, stall⟩, rfl, rfl, rfl⟩

/-- A HATCH or PLATFORM slot: its travel time and its lock, and no chain configuration (R87). -/
theorem other_iff (other : byteAt b 0 ≠ 3) : travelOk b = true ∧ KindRead b c ↔
    (c.travel = 1000 * byteAt b 9 ∧ bit c.lockFitted = given (byteAt b 10) 255 0 ∧ c.chain = {}) ∧
    (1000 ≤ c.travel ∧ c.travel ≤ 120000 ∧ c.travel % 1000 = 0) := by
  have lockIn := given_in (v := byteAt b 10) (lo := 0) (hi := 1) (ones := 255) (dflt := 0) (by decide) (by decide)
  have fits : lockOf b = decide (byteAt b 10 = 1) := by simp [lockOf, other]
  unfold travelOk KindRead readChain
  rw [if_neg other, if_neg other, Bool.and_eq_true, lockIn, inRange_iff, fits]
  have coded : given (byteAt b 10) 255 0 ≤ 1 ↔ bit (decide (byteAt b 10 = 1)) = given (byteAt b 10) 255 0 := by
    have least := bit_le (decide (byteAt b 10 = 1))
    unfold given
    split
    · next ones => simp [ones, bit]
    · constructor
      · intro low
        interval_cases byteAt b 10 <;> rfl
      · intro same
        rw [← same]
        exact least
  rw [coded]
  constructor
  · rintro ⟨⟨travels, -, locks⟩, travel, fitted, chain⟩
    rw [← travel, ← fitted, ← chain]
    exact ⟨⟨Nat.mul_comm _ _, locks, rfl⟩, by omega, by omega, Nat.mul_mod_left _ _⟩
  · rintro ⟨⟨travel, locks, chain⟩, least, most, -⟩
    have fitted : decide (byteAt b 10 = 1) = c.lockFitted := by
      unfold given at locks
      split at locks
      · next ones =>
        rw [ones]
        cases lock : c.lockFitted with
        | false => rfl
        | true =>
          rw [lock] at locks
          exact absurd locks (by decide)
      · rw [← locks]
        exact bit_eq_one _
    rw [travel] at least most ⊢
    rw [fitted, chain]
    exact ⟨⟨⟨by omega, by omega⟩, Nat.zero_le _, locks⟩, Nat.mul_comm _ _, rfl, rfl⟩

/-! ### The slot as a whole -/

theorem moverOk_iff (used : byteAt b 0 ≠ 0) : moverOk pins b = true ↔ SlotAccepted b ∧
    (if byteAt b 0 = 3 then chainOk b else travelOk b) = true ∧
    ∀ i : Fin 7, (!bindingUsed b i.val || bindingOk pins (bindingFn i.val) (byteAt b (27 + i.val))) = true := by
  unfold moverOk SlotAccepted
  rw [decide_eq_false used, Bool.false_or]
  simp only [Bool.and_eq_true, decide_eq_true_eq, all_range_iff, and_assoc]

theorem readMoverCfg_iff (used : byteAt b 0 ≠ 0) :
    readMoverCfg b = some c ↔ SlotRead b c ∧ KindRead b c ∧ BindingsRead b c := by
  unfold readMoverCfg
  rw [if_neg used, Option.some.injEq]
  obtain ⟨kind, zones, runRating, cls, rank, overcurrent, travel, lockFitted, stopDwell, holdTimeout, commandList, chain,
    endA, endB, lockOpen, lockClosed, gypsy, home, powerFault⟩ := c
  simp only [MoverCfg.mk.injEq, SlotRead, KindRead, BindingsRead, slotKind]
  constructor
  · rintro ⟨kind, zones, rating, cls, rank, current, travel, lock, dwell, hold, list, chain, bindings⟩
    exact ⟨⟨kind, zones, rating, cls, rank, current, dwell, hold, list⟩, ⟨travel, lock, chain⟩, bindings⟩
  · rintro ⟨⟨kind, zones, rating, cls, rank, current, dwell, hold, list⟩, ⟨travel, lock, chain⟩, bindings⟩
    exact ⟨kind, zones, rating, cls, rank, current, travel, lock, dwell, hold, list, chain, bindings⟩

/-- What a slot's bytes spell of its kind (Table 8-15). -/
def SpellsKind (b : List Byte) (c : MoverCfg) : Prop :=
  (c.kind ≠ .windlass →
    c.travel = 1000 * byteAt b 9 ∧ bit c.lockFitted = given (byteAt b 10) 255 0 ∧
    bindingByte c.endA = byteAt b 27 ∧ bindingByte c.endB = byteAt b 28 ∧
    (c.lockFitted = true → bindingByte c.lockOpen = byteAt b 29 ∧ bindingByte c.lockClosed = byteAt b 30) ∧
    (c.lockFitted = false → c.lockOpen = none ∧ c.lockClosed = none) ∧ c.chain = {} ∧ c.gypsy = none ∧ c.home = none) ∧
  (c.kind = .windlass →
    c.travel = 0 ∧ byteAt b 10 ≠ 1 ∧ c.lockFitted = false ∧
    c.chain = { pitch := wordAt b 17, slowCount := wordAt b 19, maxCount := wordAt b 21
                stallThreshold := wordAt b 23, stallTime := 10 * given (wordAt b 25) 65535 150 } ∧
    bindingByte c.gypsy = byteAt b 31 ∧ bindingByte c.home = byteAt b 32 ∧
    c.endA = none ∧ c.endB = none ∧ c.lockOpen = none ∧ c.lockClosed = none)

theorem spellsMover_iff (h : Holds memory a 34 b) : SpellsMover memory a (some c) ↔
    SpellsSlot b c ∧ bindingByte c.powerFault = byteAt b 33 ∧ SpellsKind b c := by
  have kind : byteAt b 0 = memByte memory a := h 0 (by decide)
  have code : slotKindCode c.kind = byteAt b 0 ↔
      memByte memory a = (match c.kind with | .hatch => 1 | .platform => 2 | .windlass => 3) := by
    rw [kind, eq_comm]
    rfl
  unfold SpellsMover SpellsSlot SpellsKind
  rw [code, readNumbers_eq h (by decide), h.word (k := 1) (by decide), h.word (k := 3) (by decide),
    h.word (k := 7) (by decide), h.word (k := 17) (by decide), h.word (k := 19) (by decide),
    h.word (k := 21) (by decide), h.word (k := 23) (by decide), h.word (k := 25) (by decide), h 5 (by decide),
    h 6 (by decide), h 9 (by decide), h 10 (by decide), h 11 (by decide), h 12 (by decide), h 27 (by decide),
    h 28 (by decide), h 29 (by decide), h 30 (by decide), h 31 (by decide), h 32 (by decide), h 33 (by decide)]
  constructor
  · rintro ⟨kind, zones, rating, cls, rank, current, dwell, hold, list, power, other, windlass⟩
    exact ⟨⟨kind, zones, rating, cls, rank, current, dwell, hold, list⟩, power, other, windlass⟩
  · rintro ⟨⟨kind, zones, rating, cls, rank, current, dwell, hold, list⟩, power, other, windlass⟩
    exact ⟨kind, zones, rating, cls, rank, current, dwell, hold, list, power, other, windlass⟩

theorem moverRanges_iff : MoverRanges c ↔
    (c.runRating ≤ 4095 ∧ c.rank ≤ 15 ∧ (1 ≤ zoneCount c.zones ∧ zoneCount c.zones ≤ 4) ∧
      (1 ≤ c.overcurrent ∧ c.overcurrent ≤ 2047) ∧ (100 ≤ c.stopDwell ∧ c.stopDwell ≤ 2000 ∧ c.stopDwell % 10 = 0) ∧
      (250 ≤ c.holdTimeout ∧ c.holdTimeout ≤ 1000 ∧ c.holdTimeout % 10 = 0) ∧ Numbered c.commandList) ∧
    (c.kind = .windlass → c.lockFitted = false ∧ c.chain.slowCount ≤ c.chain.maxCount ∧
      (1 ≤ c.chain.maxCount ∧ c.chain.maxCount ≤ 4095) ∧ (100 ≤ c.chain.pitch ∧ c.chain.pitch ≤ 1000) ∧
      (1 ≤ c.chain.stallThreshold ∧ c.chain.stallThreshold ≤ 2047) ∧
      (500 ≤ c.chain.stallTime ∧ c.chain.stallTime ≤ 3000 ∧ c.chain.stallTime % 10 = 0)) ∧
    (c.kind ≠ .windlass → 1000 ≤ c.travel ∧ c.travel ≤ 120000 ∧ c.travel % 1000 = 0) :=
  ⟨fun ⟨all, windlass, other⟩ => ⟨all, windlass, other⟩, fun ⟨all, windlass, other⟩ => ⟨all, windlass, other⟩⟩

/-- A configured slot is accepted and read exactly where its bytes spell the mover within its ranges. -/
theorem mover_some_iff (h : Holds memory a 34 b) (used : byteAt b 0 ≠ 0) :
    moverOk pins b = true ∧ readMoverCfg b = some c ↔
      SpellsMover memory a (some c) ∧ MoverRanges c ∧ MoverBound pins c := by
  have slot := slot_iff (c := c) used
  have bindings := bindings_iff (pins := pins) (b := b) (c := c)
  rw [moverOk_iff used, readMoverCfg_iff used, spellsMover_iff h, moverRanges_iff]
  by_cases windlass : byteAt b 0 = 3
  · have kinds := windlass_iff (c := c) windlass
    have free : lockOf b = false := by simp [lockOf, windlass]
    rw [if_pos windlass]
    constructor
    · rintro ⟨⟨accepted, chain, ok⟩, read, kindRead, bindingsRead⟩
      obtain ⟨spells, ranges⟩ := slot.1 ⟨accepted, read⟩
      obtain ⟨⟨travel, locks, fitted, chains⟩, chainRanges⟩ := kinds.1 ⟨chain, kindRead⟩
      obtain ⟨⟨-, noEnds, -, noLocks, pulses, -, power⟩, bound⟩ := bindings.1 ⟨ok, bindingsRead⟩
      have kind : c.kind = .windlass := slotKindCode_windlass.1 (spells.1.trans windlass)
      exact ⟨⟨spells, power, fun other => absurd kind other, fun _ => ⟨travel, locks, fitted, chains, (pulses windlass).1,
        (pulses windlass).2, (noEnds windlass).1, (noEnds windlass).2, noLocks free⟩⟩,
        ⟨ranges, fun _ => chainRanges, fun other => absurd kind other⟩, bound⟩
    · rintro ⟨⟨spells, power, -, kindSpells⟩, ⟨ranges, chainRanges, -⟩, bound⟩
      have kind : c.kind = .windlass := slotKindCode_windlass.1 (spells.1.trans windlass)
      obtain ⟨travel, locks, fitted, chains, gypsy, home, endA, endB, noLocks⟩ := kindSpells kind
      obtain ⟨accepted, read⟩ := slot.2 ⟨spells, ranges⟩
      obtain ⟨chain, kindRead⟩ := kinds.2 ⟨⟨travel, locks, fitted, chains⟩, chainRanges kind⟩
      obtain ⟨ok, bindingsRead⟩ := bindings.2 ⟨⟨fun other => absurd windlass other, fun _ => ⟨endA, endB⟩,
        fun locked => absurd (free.symm.trans locked) nofun, fun _ => noLocks, fun _ => ⟨gypsy, home⟩,
        fun other => absurd windlass other, power⟩, bound⟩
      exact ⟨⟨accepted, chain, ok⟩, read, kindRead, bindingsRead⟩
  · have kinds := other_iff (c := c) windlass
    rw [if_neg windlass]
    constructor
    · rintro ⟨⟨accepted, travels, ok⟩, read, kindRead, bindingsRead⟩
      obtain ⟨spells, ranges⟩ := slot.1 ⟨accepted, read⟩
      obtain ⟨⟨travel, locks, chain⟩, travelRanges⟩ := kinds.1 ⟨travels, kindRead⟩
      obtain ⟨⟨ends, -, locked, noLocks, -, noChain, power⟩, bound⟩ := bindings.1 ⟨ok, bindingsRead⟩
      have fitted : lockOf b = c.lockFitted := kindRead.2.1
      have kind : c.kind ≠ .windlass := fun is => windlass (spells.1.symm.trans (slotKindCode_windlass.2 is))
      rw [fitted] at locked noLocks
      exact ⟨⟨spells, power, fun _ => ⟨travel, locks, (ends windlass).1, (ends windlass).2, locked, noLocks, chain,
        noChain windlass⟩, fun is => absurd is kind⟩, ⟨ranges, fun is => absurd is kind, fun _ => travelRanges⟩, bound⟩
    · rintro ⟨⟨spells, power, kindSpells, -⟩, ⟨ranges, -, travelRanges⟩, bound⟩
      have kind : c.kind ≠ .windlass := fun is => windlass (spells.1.symm.trans (slotKindCode_windlass.2 is))
      obtain ⟨travel, locks, endA, endB, locked, noLocks, chain, noChain⟩ := kindSpells kind
      obtain ⟨accepted, read⟩ := slot.2 ⟨spells, ranges⟩
      obtain ⟨travels, kindRead⟩ := kinds.2 ⟨⟨travel, locks, chain⟩, travelRanges kind⟩
      have fitted : lockOf b = c.lockFitted := kindRead.2.1
      rw [← fitted] at locked noLocks
      obtain ⟨ok, bindingsRead⟩ := bindings.2 ⟨⟨fun _ => ⟨endA, endB⟩, fun is => absurd is windlass, locked, noLocks,
        fun is => absurd is windlass, fun _ => noChain, power⟩, bound⟩
      exact ⟨⟨accepted, travels, ok⟩, read, kindRead, bindingsRead⟩

/-- A mover slot is accepted and read exactly where its bytes spell it (R87, R172). -/
theorem mover_iff {x : Option MoverCfg} (h : Holds memory a 34 b) : moverOk pins b = true ∧ readMoverCfg b = x ↔
    SpellsMover memory a x ∧ ∀ c, x = some c → MoverRanges c ∧ MoverBound pins c := by
  have kind : byteAt b 0 = memByte memory a := h 0 (by decide)
  by_cases empty : byteAt b 0 = 0
  · have ok : moverOk pins b = true := by rw [moverOk, decide_eq_true empty, Bool.true_or]
    have reads : readMoverCfg b = none := by rw [readMoverCfg, if_pos empty]
    rw [reads]
    constructor
    · rintro ⟨-, rfl⟩
      exact ⟨kind.symm.trans empty, nofun⟩
    · rintro ⟨spells, -⟩
      cases x with
      | none => exact ⟨ok, rfl⟩
      | some c =>
        obtain ⟨slot, -⟩ := (spellsMover_iff h).1 spells
        exact absurd (slot.1.trans empty) (slotKindCode_pos c.kind)
  · cases x with
    | none =>
      constructor
      · rintro ⟨-, reads⟩
        rw [readMoverCfg, if_neg empty] at reads
        exact absurd reads nofun
      · rintro ⟨spells, -⟩
        exact absurd (kind.trans spells) empty
    | some c =>
      rw [mover_some_iff h empty]
      exact and_congr_right fun _ => ⟨fun kept _ e => Option.some.inj e ▸ kept, fun kept => kept c rfl⟩

end Sys2Proof.Safety
end

section
/-! PROOFS. LOAD accepts exactly the images that stand whole, keep the ranges and spell their configuration (O8). -/

namespace Sys2Proof.Safety

open Sys2Proof Sys2Proof.Machine

variable {memory : List Byte} {o : Nat → Nat} {cfg : Cfg} {img : List Byte}

/-! ### The sections of a whole image -/

theorem scenes_total (whole : ImageWhole memory o) : pairTotal (sectionOf (imageRead memory) 7) =
    ((List.range 32).map fun n => memByte memory (o 7 + n)).sum :=
  congrArg List.sum (List.map_congr_left fun n listed => sectionByte whole ⟨by omega, by omega⟩
    (Nat.lt_of_lt_of_le (List.mem_range.1 listed) least_sectionLength))

theorem section_holds (whole : ImageWhole memory o) {c : Nat} (known : 1 ≤ c ∧ c ≤ 7) :
    Holds memory (o c) (sectionLength memory o c) (sectionOf (imageRead memory) c) :=
  fun _ within => sectionByte whole known within

theorem scenes_hold (whole : ImageWhole memory o) :
    Holds memory (o 7) (32 + 3 * pairTotal (sectionOf (imageRead memory) 7)) (sectionOf (imageRead memory) 7) := by
  rw [scenes_total whole]
  exact section_holds whole ⟨by omega, by omega⟩

/-! ### The configuration read, field by field -/

/-- Every field of a configuration as the sections of an image give it. -/
structure ConfigRead (img : List Byte) (cfg : Cfg) : Prop where
  budget : BudgetRead (sectionOf img 1) cfg
  station : StationRead (sectionOf img 1) cfg
  zones : ∀ z : Fin 16, readBinding (byteAt (sectionOf img 1) (18 + z.val)) = cfg.occupancy[z]
  supply : readBinding (byteAt (sectionOf img 1) 34) = cfg.supply
  standby : readBinding (byteAt (sectionOf img 1) 35) = cfg.standby
  ports : readPorts (sectionOf img 2) = cfg.ports
  pins : ∀ p : PinId, readPin (sectionOf img 3) p.val = cfg.pins[p]
  channels : ∀ c : ChannelId, readChannelCfg (sectionOf img 4) c.val = cfg.channels[c]
  movers : ∀ m : MoverId, readMoverCfg (moverBytes (sectionOf img 5) m.val) = cfg.movers[m]
  keys : ∀ k : KeyId, readKey (keyBytes (sectionOf img 6) k.val) = cfg.keys[k]
  scenes : ∀ n : Fin 32, readScene (sectionOf img 7) n.val = cfg.scenes[n]

theorem configRead_readImage (img : List Byte) : ConfigRead img (readImage img) where
  budget := ⟨rfl, rfl, rfl, rfl, rfl, rfl⟩
  station := ⟨rfl, rfl, rfl, rfl, rfl⟩
  zones z := (readImage_occupancy img z).symm
  supply := rfl
  standby := rfl
  ports := rfl
  pins p := (readImage_pin img p).symm
  channels c := (readImage_channel img c).symm
  movers m := (readImage_mover img m).symm
  keys k := (readImage_key img k).symm
  scenes n := (readImage_scene img n).symm

/-- The sections give every field of one configuration alone. -/
theorem configRead_unique {x y : Cfg} (h : ConfigRead img x) (k : ConfigRead img y) : x = y := by
  obtain ⟨s0, s1, margin, cap, settle, delay⟩ := h.budget
  obtain ⟨s0', s1', margin', cap', settle', delay'⟩ := k.budget
  obtain ⟨period, window, officers, notice, degraded⟩ := h.station
  obtain ⟨period', window', officers', notice', degraded'⟩ := k.station
  have occupancy : x.occupancy = y.occupancy :=
    Vector.ext fun i low => (h.zones ⟨i, low⟩).symm.trans (k.zones ⟨i, low⟩)
  have pins : x.pins = y.pins := Vector.ext fun i low => (h.pins ⟨i, low⟩).symm.trans (k.pins ⟨i, low⟩)
  have channels : x.channels = y.channels :=
    Vector.ext fun i low => (h.channels ⟨i, low⟩).symm.trans (k.channels ⟨i, low⟩)
  have movers : x.movers = y.movers := Vector.ext fun i low => (h.movers ⟨i, low⟩).symm.trans (k.movers ⟨i, low⟩)
  have keys : x.keys = y.keys := Vector.ext fun i low => (h.keys ⟨i, low⟩).symm.trans (k.keys ⟨i, low⟩)
  have scenes : x.scenes = y.scenes := Vector.ext fun i low => (h.scenes ⟨i, low⟩).symm.trans (k.scenes ⟨i, low⟩)
  have supply := h.supply.symm.trans k.supply
  have standby := h.standby.symm.trans k.standby
  have ports := h.ports.symm.trans k.ports
  cases x
  cases y
  rw [Cfg.mk.injEq]
  exact ⟨s0.symm.trans s0', s1.symm.trans s1', margin.symm.trans margin', cap.symm.trans cap', settle.symm.trans settle',
    delay.symm.trans delay', period.symm.trans period', window.symm.trans window', officers.symm.trans officers',
    notice.symm.trans notice', degraded.symm.trans degraded', occupancy, supply, standby, ports, pins, channels, movers,
    keys, scenes⟩

theorem readImage_iff : readImage img = cfg ↔ ConfigRead img cfg :=
  ⟨fun e => e ▸ configRead_readImage img, fun h => configRead_unique (configRead_readImage img) h⟩

/-! ### The cross-checks -/

theorem class_zero_iff {v : Nat} (low : v ≤ 7) : classOf v = 0 ↔ v = 0 := by
  rw [Fin.ext_iff, classOf_eq low]
  rfl

theorem essential_channel {sec : List Byte} {c : ChannelId} {x : ChannelCfg} (read : readChannelCfg sec c.val = x)
    (ok : channelOk sec c.val = true) :
    (if byteAt sec (9 * c.val + 3) = 0 then wordAt sec (9 * c.val + 1) else 0) = if x.cls = 0 then x.rating else 0 := by
  subst read
  have coded : byteAt sec (9 * c.val + 3) ≤ 7 := by
    simp only [channelOk, Bool.and_eq_true, decide_eq_true_eq] at ok
    obtain ⟨⟨⟨⟨⟨-, coded⟩, -⟩, -⟩, -⟩, -⟩ := ok
    exact coded
  exact (if_congr (class_zero_iff coded) rfl rfl).symm

/-- What a mover slot adds to the class-0 ratings. -/
def essentialOf : Option MoverCfg → Nat
  | some c => if c.cls = 0 then c.runRating else 0
  | none => 0

theorem essential_mover {b pins : List Byte} {x : Option MoverCfg} (read : readMoverCfg b = x)
    (ok : moverOk pins b = true) :
    (if byteAt b 0 ≠ 0 && byteAt b 5 = 0 then wordAt b 3 else 0) = essentialOf x := by
  by_cases empty : byteAt b 0 = 0
  · rw [readMoverCfg, if_pos empty] at read
    subst read
    rw [empty]
    rfl
  · obtain ⟨-, -, -, coded, -⟩ := ((moverOk_iff empty).1 ok).1
    have cls : classOf (orDefault (byteAt b 5) 255 1) = 0 ↔ byteAt b 5 = 0 := by
      rw [inRangeOr_iff] at coded
      rw [orDefault_eq, class_zero_iff (by unfold given; split <;> omega)]
      unfold given
      split <;> omega
    cases x with
    | none =>
      rw [readMoverCfg, if_neg empty] at read
      exact absurd read nofun
    | some c =>
      obtain ⟨⟨-, -, rating, clss, -⟩, -⟩ := (readMoverCfg_iff empty).1 read
      rw [clss] at cls
      rw [rating, decide_eq_true empty, Bool.true_and]
      exact if_congr (decide_eq_true_iff.trans cls.symm) rfl rfl

/-- The class-0 ratings together, as the configuration has them (R19). -/
theorem essentialTotal_eq (read : ConfigRead img cfg)
    (channelsOk : ∀ c : ChannelId, channelOk (sectionOf img 4) c.val = true)
    (moversOk : ∀ m : MoverId, moverOk (sectionOf img 3) (moverBytes (sectionOf img 5) m.val) = true) :
    essentialTotal (sectionOf img 4) (sectionOf img 5) =
      ((List.finRange 12).map fun (c : ChannelId) =>
        if (cfg.channels[c]).cls = 0 then (cfg.channels[c]).rating else 0).sum +
      ((List.finRange 2).map fun (m : MoverId) =>
        match cfg.movers[m] with
        | some c => if c.cls = 0 then c.runRating else 0
        | none => 0).sum := by
  unfold essentialTotal
  rw [← sum_finRange, ← sum_finRange]
  refine congrArg₂ (· + ·) (congrArg List.sum (List.map_congr_left fun c _ => ?_))
    (congrArg List.sum (List.map_congr_left fun m _ => ?_))
  · exact essential_channel (read.channels c) (channelsOk c)
  · exact essential_mover (read.movers m) (moversOk m)

theorem scenePairs_sum (read : ConfigRead img cfg) :
    ((List.finRange 32).map fun (n : Fin 32) => (cfg.scenes[n]).length).sum = pairTotal (sectionOf img 7) := by
  unfold pairTotal
  rw [← sum_finRange]
  refine congrArg List.sum (List.map_congr_left fun n _ => ?_)
  rw [← read.scenes n, readScene_eq, List.length_map, scenePairs_length]

/-- A slot's bindings name pins of their own functions where the pins are read as the configuration has them. -/
theorem moverBound_of {sec : List Byte} {m : MoverId} {c : MoverCfg} (bound : BindingsOk cfg)
    (here : cfg.movers[m] = some c)
    (fn : ∀ (p : PinId) {f : PinFn}, (cfg.pins[p]).fn = f → (readPin sec p.val).fn = f) : MoverBound sec c := by
  have all (p : PinId) := bound.movers m c p here
  refine ⟨fun p binds => ?_, fun p binds => ?_, fun p binds => ?_, fun p binds => ?_, fun p binds => ?_,
    fun p binds => ?_, fun p binds => ?_⟩
  all_goals obtain ⟨endA, endB, lockOpen, lockClosed, gypsy, home, power⟩ := all p
  exacts [fn p (endA binds), fn p (endB binds), fn p (lockOpen binds), fn p (lockClosed binds), fn p (gypsy binds),
    fn p (home binds), fn p (power binds)]

/-- The fields of a whole image are accepted and read exactly where they spell the configuration within its ranges. -/
theorem fields_iff (whole : ImageWhole memory o) : FieldsOk (imageRead memory) ∧ readImage (imageRead memory) = cfg ↔
    Spells memory o cfg ∧ RangesOk cfg := by
  have station := section_holds whole (c := 1) ⟨by omega, by omega⟩
  have ports := section_holds whole (c := 2) ⟨by omega, by omega⟩
  have pins := section_holds whole (c := 3) ⟨by omega, by omega⟩
  have channels := section_holds whole (c := 4) ⟨by omega, by omega⟩
  have movers := section_holds whole (c := 5) ⟨by omega, by omega⟩
  have keys := section_holds whole (c := 6) ⟨by omega, by omega⟩
  have scenes := scenes_hold whole
  have mover (m : MoverId) : Holds memory (o 5 + 34 * m.val) 34 (moverBytes (sectionOf (imageRead memory) 5) m.val) :=
    movers.entry (by have := m.isLt; show 34 * m.val + 34 ≤ 68; omega)
  have key (k : KeyId) : Holds memory (o 6 + 6 * k.val) 6 (keyBytes (sectionOf (imageRead memory) 6) k.val) :=
    keys.entry (by have := k.isLt; show 6 * k.val + 6 ≤ 96; omega)
  rw [readImage_iff]
  generalize imageRead memory = img at *
  constructor
  · rintro ⟨fields, read⟩
    obtain ⟨budgetOk, stationOk, zonesOk, supplyOk, standbyOk⟩ := stationOk_iff.1 fields.station
    obtain ⟨budgetSpells, budgetRanges⟩ := (budget_iff station).1 ⟨budgetOk, read.budget⟩
    obtain ⟨stationSpells, stationRanges⟩ := (station_iff station).1 ⟨stationOk, read.station⟩
    obtain ⟨consumers, -⟩ := (consumers_iff (cfg := cfg) station).1
      ⟨⟨zonesOk, supplyOk, standbyOk⟩, read.zones, read.supply, read.standby⟩
    obtain ⟨portsSpell, portsRanges⟩ := (ports_iff ports).1 ⟨fields.ports, read.ports⟩
    have pin (p : PinId) := (pin_iff pins p.isLt).1 ⟨fields.pins p, read.pins p⟩
    have channel (c : ChannelId) := (channel_iff channels c.isLt).1 ⟨fields.channels c, read.channels c⟩
    have moved (m : MoverId) := (mover_iff (mover m)).1 ⟨fields.movers m, read.movers m⟩
    have keyed (k : KeyId) := (key_iff (key k)).1 ⟨fields.keys k, read.keys k⟩
    have scened (n : Fin 32) := scene_iff.1 ⟨fields.scenes n, read.scenes n⟩
    have bound : BindingsOk cfg := readImage_iff.2 read ▸ bindings_of_fields fields
    refine ⟨⟨budgetSpells, stationSpells, consumers, portsSpell, fun p => (pin p).1, fun c => (channel c).1,
      fun m => (moved m).1, fun k => (keyed k).1, fun n => ?_⟩,
      ⟨budgetRanges, stationRanges, portsRanges, fun p => (pin p).2, fun c => (channel c).2,
        fun m c here => ((moved m).2 c here).1, ?_, ⟨fun n => (scened n).2, ?_⟩, fun k => (keyed k).2.1, bound⟩⟩
    · exact (scened n).1.trans (scenePairs_held scenes n.isLt)
    · exact essentialTotal_eq read fields.channels fields.movers ▸ fields.essential
    · exact scenePairs_sum read ▸ fields.pairs
  · rintro ⟨spells, ranges⟩
    have pin (p : PinId) := (pin_iff pins p.isLt).2 ⟨spells.pins p, ranges.pins p⟩
    have fn (p : PinId) {f : PinFn} (own : (cfg.pins[p]).fn = f) : (readPin (sectionOf img 3) p.val).fn = f := by
      rw [(pin p).2, own]
    obtain ⟨budgetOk, budgetRead⟩ := (budget_iff station).2 ⟨spells.budget, ranges.budget⟩
    obtain ⟨stationOk, stationRead⟩ := (station_iff station).2 ⟨spells.station, ranges.station⟩
    obtain ⟨⟨zonesOk, supplyOk, standbyOk⟩, zones, supply, standby⟩ :=
      (consumers_iff (pins := sectionOf img 3) station).2 ⟨spells.consumers,
        fun z p here => fn p (ranges.bound.occupancy z p here), fun p here => fn p (ranges.bound.supply p here),
        fun p here => fn p (ranges.bound.standby p here)⟩
    obtain ⟨portsOk, portsRead⟩ := (ports_iff ports).2 ⟨spells.ports, ranges.ports⟩
    have channel (c : ChannelId) := (channel_iff channels c.isLt).2 ⟨spells.channels c, ranges.channels c⟩
    have moved (m : MoverId) := (mover_iff (pins := sectionOf img 3) (mover m)).2
      ⟨spells.movers m, fun c here => ⟨ranges.movers m c here, moverBound_of ranges.bound here fn⟩⟩
    have keyed (k : KeyId) := (key_iff (pins := sectionOf img 3) (key k)).2
      ⟨spells.keys k, ranges.keys k, fun p binds => fn p (ranges.bound.keys k p binds)⟩
    have scened (n : Fin 32) := scene_iff.2
      ⟨(spells.scenes n).trans (scenePairs_held scenes n.isLt).symm, ranges.scenes.1 n⟩
    have read : ConfigRead img cfg := ⟨budgetRead, stationRead, zones, supply, standby, portsRead, fun p => (pin p).2,
      fun c => (channel c).2, fun m => (moved m).2, fun k => (keyed k).2, fun n => (scened n).2⟩
    refine ⟨⟨stationOk_iff.2 ⟨budgetOk, stationOk, zonesOk, supplyOk, standbyOk⟩, portsOk, fun p => (pin p).1,
      fun c => (channel c).1, fun m => (moved m).1, fun k => (keyed k).1, fun n => (scened n).1, ?_, ?_⟩, read⟩
    · exact (scenePairs_sum read).symm ▸ ranges.scenes.2
    · exact (essentialTotal_eq read (fun c => (channel c).1) fun m => (moved m).1).symm ▸ ranges.essential

/-- Settles O8: the frame of the image is `ImageWhole`, and its fields are taken section by section, each field accepted
and read exactly where it spells the configuration within its range. -/
theorem acceptedImagesKeepTheRanges : Obligations.AcceptedImagesKeepTheRanges := by
  intro memory cfg
  rw [judgeImage_iff]
  constructor
  · rintro ⟨read, frame, fields⟩
    have whole := whole_of_frame read frame
    exact ⟨_, whole, (fields_iff whole).1 fields⟩
  · rintro ⟨o, whole, kept⟩
    exact ⟨imageRead_ne_nil_iff.2 whole.length, frame_of_whole whole, (fields_iff whole).2 kept⟩

end Sys2Proof.Safety
end
